-- ==== Sys2Proof/Word.lean ====
section
/-! DEFINITION. The plain words of the K310's interfaces: bytes on its lines and the two wider words that the
spec treats as bits. Positions, counts and velocities are not bits: they are Int (spec/00_scope.md, Conventions). -/
namespace Sys2Proof

/-- A byte of a frame, a page, the record or the panel line (spec/12_formats.md). -/
abbrev Byte := BitVec 8

/-- A check word: the CRC-16 of R146 and R190. -/
abbrev CheckWord := BitVec 16

/-- The set of event flags, bits 7 to 0 as the flags byte of R190 orders them. -/
abbrev FlagSet := BitVec 8

end Sys2Proof
end

