-- ==== Sys2Proof/Syntax.lean ====
section
/-! DEFINITION. The commands of the K310: one constructor per row of spec/opcode_table.json, in the table's order.
The operands carry what a command brings from outside the part: levels, bytes, acknowledgements, and, where the spec
lets two things inside one command happen in either order, which comes first (log 11). -/
namespace Sys2Proof

/-- What held the part in reset, and the start causes (R180). -/
inductive StartCause where
  | power | brownout | pin
  deriving DecidableEq, Repr

/-- What became of the settings memory's supply across a reset (R109): kept; lost while the memory was still committing
a page; lost after it had finished committing. A PIN start keeps it and a POWER start loses it whatever this says. -/
inductive MemorySupply where
  | kept | lostInCommit | lostAfterCommit
  deriving DecidableEq, Repr

/-- The three inputs the Drive Port samples (R83). -/
inductive InputLine where
  | lowStop | highStop | amplifier
  deriving DecidableEq, Repr

/-- What a page read delivers (R99): the page as the memory holds it by the station's own writes, or a page that the
setup tool has written since (section 11.6). -/
inductive PageRead where
  | held
  | written (page : Vector Byte 16)
  deriving DecidableEq, Repr

/-- The commands, one per row of spec/opcode_table.json. -/
inductive Instr where
  /-- START (R180): the part comes out of reset; `released` is a condition that held it there. -/
  | start (released : StartCause) (memory : MemorySupply)
  /-- RECORD_READ_COMPLETE (R181): the bytes the memory drove from offset 0; bytes it did not drive read as 0xFF. -/
  | recordReadComplete (bytes : List Byte)
  /-- RECORD_ADDRESS_TIMEOUT (R181). -/
  | recordAddressTimeout
  /-- PRESET_PAGE_READ (R99): the page next in index order. -/
  | presetPageRead (page : PageRead)
  /-- PAGE_READ_TIMEOUT (R185). -/
  | pageReadTimeout
  /-- ANNOUNCE_BUILD (R186): 60 ms or 120 ms of the announce window. -/
  | announceBuild
  /-- ANNOUNCE_WINDOW_END (R187): `frameFirst` says the first periodic frame is built before the change of move state. -/
  | announceWindowEnd (frameFirst : Bool)
  /-- PERIOD_EXPIRY (R21). -/
  | periodExpiry
  /-- PARK_TIME_ELAPSED (R38). -/
  | parkTimeElapsed
  /-- BRAKE_SET_COMPLETE (R39). -/
  | brakeSetComplete
  /-- RELEASE_COMPLETE (R41). -/
  | releaseComplete
  /-- DRIVE_PORT_TIMER_EXPIRY (R83): electrical levels of the end stops (true is high), the amplifier-fault input at its
  fixed active level, and the input whose change is taken first when several change. -/
  | drivePortTimerExpiry (low high amp : Bool) (first : InputLine)
  /-- POSITION_READ_COMPLETE (R78): the line stood idle, the 24 data bits, the error bit. -/
  | positionReadComplete (idle : Bool) (data : BitVec 24) (error : Bool)
  /-- SCENE_CLOCK_EXPIRY (R112). -/
  | sceneClockExpiry
  /-- FRAME_ADVANCE (R121). -/
  | frameAdvance
  /-- INTAKE_TAKE (R128): whether the Scene Clock is handed an acceptance before the other blocks (R13, R133); after them
  where nothing is said. -/
  | intakeTake (clockFirst : Bool := false)
  /-- AGEING_EXPIRY (R138): the addresses whose changes of freshness are taken first, in this order; none where nothing is
  said. -/
  | ageingExpiry (order : List Nat := [])
  /-- ENTRY_BECOMES_AGING (R138): the entry of this address. -/
  | entryBecomesAging (address : Nat)
  /-- ENTRY_BECOMES_STALE (R140): the entry of this address. -/
  | entryBecomesStale (address : Nat)
  /-- SENDING_END (R104): whether the memory acknowledged the address and all sixteen bytes. -/
  | sendingEnd (acknowledged : Bool)
  /-- PROGRAMMING_ACKNOWLEDGED (R106). -/
  | programmingAcknowledged
  /-- PROGRAMMING_TIMEOUT (R106). -/
  | programmingTimeout
  /-- PERIOD_COUNT_EXPIRY (R160). -/
  | periodCountExpiry
  /-- FRAME_PERIOD_EXPIRY (R148). -/
  | framePeriodExpiry
  /-- CARRIER_START (R151). -/
  | carrierStart
  /-- CARRIER_END (R151). -/
  | carrierEnd
  /-- LATE_GAP (R151). -/
  | lateGap
  /-- GAP_END (R151). -/
  | gapEnd
  /-- COLLISION (R153). -/
  | collision
  /-- JAM_END (R153). -/
  | jamEnd
  /-- BACKOFF_END (R154). -/
  | backoffEnd
  /-- ATTEMPT_COMPLETE (R156). -/
  | attemptComplete
  /-- START_PATTERN (R160). -/
  | startPattern
  /-- END_OF_RECEIPT (R161): the bytes taken from the header on, and whether the frame was a whole number of bytes. -/
  | endOfReceipt (bytes : List Byte) (wholeBytes : Bool)
  /-- HAND_SAMPLER_EXPIRY (R167, R168): the eight conversions, and the sixteen switches (bit i set: switch i closed). -/
  | handSamplerExpiry (readings : Vector (BitVec 10) 8) (closed : BitVec 16)
  /-- BAD_FRAME_AT_LENGTH (R171): the length byte received. -/
  | badFrameAtLength (length : Byte)
  /-- PARSER_TIMEOUT (R171). -/
  | parserTimeout
  /-- REPLY_SENT (R171). -/
  | replySent
  /-- REQUEST_UNKNOWN_KIND (R172): a whole record with a bad check or a kind that is no request's. -/
  | requestUnknownKind (kind : Byte) (fields : List Byte) (check : Byte)
  /-- SEND_CUE (R173), its fields in the order of R192. -/
  | sendCue (kind : Byte) (scope : BitVec 64) (preset : Byte) (duration fade : BitVec 16) (timed hh mm ss ff : Byte)
  /-- SET_CLOCK (R175). -/
  | setClock (hh mm ss ff : Byte)
  /-- READ_CLOCK (R175). -/
  | readClock
  /-- READ_PEER (R176). -/
  | readPeer (address : Byte)
  /-- READ_ROSTER (R176). -/
  | readRoster (first : Byte)
  /-- READ_CUE (R174). -/
  | readCue (number : Byte)
  /-- READ_PRESET (R176). -/
  | readPreset (index : Byte)
  /-- READ_SELF (R177). -/
  | readSelf (sect : Byte)
  /-- PANEL_BYTE_RECEIVED (R171). -/
  | panelByteReceived (byte : Byte)
  /-- STEP_PULSE_EMITTED (R76). -/
  | stepPulseEmitted
  /-- RESET_ENTERED (R180): the condition that takes the part into reset, or joins one that holds it there. -/
  | resetEntered (condition : StartCause)
  /-- BACKOFF_REGISTER_SHIFT (R154): one bit time. -/
  | backoffRegisterShift
  deriving DecidableEq, Repr

end Sys2Proof
end

