-- ==== Sys2Proof/Decode.lean ====
section
/-! DEFINITION. The commands that a word spells. spec/opcode_table.json gives no row any bits, so no word spells a
command (log 28). -/
namespace Sys2Proof

/-- The command that the low `nbits` bits of `w` spell by the table's bits: none, since no row has bits (log 28). -/
def decodeTableWord (_nbits _w : Nat) : Option Instr := none

end Sys2Proof
end

