-- ==== Sys2Proof/Config.lean ====
section
/-! DEFINITION. The numbers the spec fixes for every K310, and the one value it leaves free. -/
namespace Sys2Proof.Config

/-- FREE VALUE (log 20): the sixteen bytes of a torn or never acknowledged page (R107, R109), one for each use.
It has no body, so nothing can be proved of it. -/
opaque tornPage : Nat → BitVec 128

/-- Sub-counts in a count (spec/00_scope.md, Terms). -/
def subCounts : Int := 16
/-- The least position in sub-counts (spec/00_scope.md, Conventions). -/
def subMin : Int := -134217728
/-- The greatest position in sub-counts (spec/00_scope.md, Conventions). -/
def subMax : Int := 134217712
/-- Full weight (R16, R22). -/
def fullWeight : Nat := 1024
/-- Preset entries (R97). -/
def presetCount : Nat := 64
/-- Offset of the first preset page in the settings memory (R98). -/
def pageBase : Nat := 1024
/-- Bytes of a preset page (R98). -/
def pageSize : Nat := 16
/-- Attempts of the writer at a page (R107). -/
def writeAttempts : Nat := 3
/-- Most armed cues (R120). -/
def armedMax : Nat := 8
/-- Cue slots of the transmit queue (R147). -/
def cueSlots : Nat := 4
/-- Records of the receive ring (R163). -/
def ringSize : Nat := 8
/-- Items of the recent cue list (R174). -/
def recentMax : Nat := 8
/-- Collisions a frame may meet in a round (R155). -/
def attemptLimit : Nat := 16
/-- Bit times of a backoff slot (R145, R154). -/
def slotBits : Nat := 64
/-- Bit times at which GAP becomes LATE_GAP (R151). -/
def lateGapBits : Nat := 32
/-- Bit times of the gap (R151). -/
def gapBits : Nat := 48
/-- Readings beyond the calibration that are still no fault (R167). -/
def faultMargin : Int := 40
/-- Consecutive failed reads that raise FEEDBACK (R79). -/
def feedbackRun : Nat := 5
/-- Full deflection of a stick (spec/00_scope.md, Conventions). -/
def fullStick : Int := 2047

end Sys2Proof.Config
end

