-- ==== Sys2Proof/Machine/Blocks.lean ====
section
/-! DEFINITION. What each block of the station holds (spec/00_scope.md, Blocks), with the value each start gives it.
Codes and numbers that a rule says are stored "as they arrive" are kept as numbers; everything else is named. -/
namespace Sys2Proof.Machine

/-! ## The configuration record (R182, R191) -/

/-- Station roles (R182). -/
inductive Role where
  | axis | hand
  deriving DecidableEq, Repr

/-- The kind of periodic frame expected from a peer (R130). -/
inductive PeerKind where
  | stick | state
  deriving DecidableEq, Repr

/-- One entry of the peer list (R182). -/
structure PeerSpec where
  address : Nat
  kind : PeerKind
  deriving DecidableEq, Repr

/-- One entry of the mapping table (R1). -/
structure Mapping where
  source : Nat
  channel : Nat
  sign : Int
  gain : Nat
  enable : Option Nat
  deriving DecidableEq, Repr

/-- Blend modes (spec/02_the_blend_engine.md). -/
inductive BlendMode where
  | mix | add
  deriving DecidableEq, Repr

/-- End-stop polarities (R75). -/
inductive Polarity where
  | activeHigh | activeLow
  deriving DecidableEq, Repr

/-- Step polarities (R75). -/
inductive StepPolarity where
  | normal | inverted
  deriving DecidableEq, Repr

/-- The fields of the record that only an axis station has (R182). -/
structure AxisSettings where
  llo : Int
  lhi : Int
  vmax : Nat
  accel : Nat
  vjog : Nat
  deadband : Nat
  expo : Nat
  mappings : List Mapping
  mode : BlendMode
  fadeRate : Nat
  trimScale : Nat
  follow : Option Nat
  k : Int
  guard : Option Nat
  l0 : Int
  l1 : Int
  lsafe : Int
  interlock : Bool
  parkTime : Nat
  brakeSetTime : Nat
  brakeReleaseTime : Nat
  feLimit : Nat
  feTime : Nat
  lowPolarity : Polarity
  highPolarity : Polarity
  stepPolarity : StepPolarity
  deriving DecidableEq, Repr

/-- The calibration of one analogue channel (R166). -/
structure Calibration where
  lo : Nat
  centre : Nat
  hi : Nat
  deriving DecidableEq, Repr

/-- The part of the record that depends on the role. -/
inductive RoleSettings where
  | axis (a : AxisSettings)
  | hand (calibrations : List Calibration)
  deriving DecidableEq, Repr

/-- A configuration record found good (R182). -/
structure Record where
  address : Nat
  label : Nat
  framePeriod : Nat
  fps : Nat
  clockSource : Option Nat
  tFresh : Nat
  tStale : Nat
  peers : List PeerSpec
  settings : RoleSettings
  deriving DecidableEq, Repr

/-! ## Start Controller (R179) -/

inductive StartPhase where
  | loadingRecord | loadingPresets | announcing | running | badRecord
  deriving DecidableEq, Repr

inductive Verdict where
  | waiting | good | unreadable | badCheck | badValue
  deriving DecidableEq, Repr

structure StartController where
  cause : StartCause
  phase : StartPhase
  verdict : Verdict
  failingCheck : Option Nat
  recordLength : Option Nat
  checkWord : Option CheckWord
  windowTimer : Option Nat
  nextPage : Nat
  deriving DecidableEq, Repr

/-- The Start Controller at a start of this cause (R179). -/
def StartController.initial (cause : StartCause) : StartController :=
  ⟨cause, .loadingRecord, .waiting, none, none, none, none, 0⟩

/-! ## Stick Shaper (R15) -/

structure StickShaper where
  computed : Int
  latch : Bool
  deriving DecidableEq, Repr

/-- The Stick Shaper at a start (R15). -/
def StickShaper.initial : StickShaper := ⟨0, true⟩

/-! ## Blend Engine (R16, R18) -/

inductive MoveState where
  | start | parked | parking | releasing | hold | jog | play | blend | stopping | interlocked | fault
  deriving DecidableEq, Repr

inductive StopCause where
  | halt | interlock | none
  deriving DecidableEq, Repr

/-- The source and cue number of a cue (R126). -/
structure CueId where
  source : Nat
  number : Nat
  deriving DecidableEq, Repr

/-- The plan record (R18). -/
structure Plan where
  p0 : Int
  t : Int
  n : Nat
  k : Nat
  cue : CueId
  f : Nat
  late : Bool
  deriving DecidableEq, Repr

/-- The pending plan: a plan record without P0 (R18). -/
structure WaitingPlan where
  t : Int
  n : Nat
  cue : CueId
  f : Nat
  late : Bool
  deriving DecidableEq, Repr

structure BlendEngine where
  move : MoveState
  stopCause : StopCause
  plan : Option Plan
  waiting : Option WaitingPlan
  w : Nat
  pj : Int
  d : Int
  c : Int
  prevC : Int
  park : Nat
  brake : Nat
  deriving DecidableEq, Repr

/-- The Blend Engine at a start (R17). -/
def BlendEngine.initial : BlendEngine := ⟨.start, .none, none, none, 0, 0, 0, 0, 0, 0, 0⟩

/-! ## Coupling Unit (R46) -/

/-- Freshness of a peer entry (R138). -/
inductive Freshness where
  | silent | fresh | aging | stale
  deriving DecidableEq, Repr

inductive GuardMode where
  | inForce | safe | fixed
  deriving DecidableEq, Repr

structure CouplingUnit where
  reference : Option Int
  q : Int
  followCondition : Option Freshness
  guardCondition : Option Freshness
  guardMode : GuardMode
  lhiEff : Int
  g : Int
  deriving DecidableEq, Repr

/-- The Coupling Unit at a start, before a record is found good (R46, log 15). -/
def CouplingUnit.initial : CouplingUnit := ⟨none, 0, none, none, .fixed, 0, 0⟩

/-! ## Motion Limiter (R61) -/

structure MotionLimiter where
  setpoint : Int
  v0 : Int
  stepPos : Int
  lastSteps : Int
  deriving DecidableEq, Repr

/-- The Motion Limiter at a start (R61). -/
def MotionLimiter.initial : MotionLimiter := ⟨0, 0, 0, 0⟩

/-! ## Drive Port (R74) -/

inductive LastRead where
  | none | good | failed
  deriving DecidableEq, Repr

inductive FaultCause where
  | none | feedback | following | endstopLow | endstopHigh | drive
  deriving DecidableEq, Repr

inductive InputState where
  | active | inactive | unknown
  deriving DecidableEq, Repr

/-- One input of the Drive Port: its filtered state and the sample before the next (R83). -/
structure InputFilter where
  state : InputState
  sample : Option Bool
  deriving DecidableEq, Repr

/-- An input that has taken no sample (R74, R83). -/
def InputFilter.initial : InputFilter := ⟨.unknown, none⟩

inductive Brake where
  | engaged | released
  deriving DecidableEq, Repr

inductive Direction where
  | forward | reverse
  deriving DecidableEq, Repr

structure DrivePort where
  measured : Int
  lastRead : LastRead
  failureRun : Nat
  followingRun : Nat
  cause : FaultCause
  further : Bool
  lowLock : Bool
  highLock : Bool
  low : InputFilter
  high : InputFilter
  amp : InputFilter
  pulses : Nat
  enable : Bool
  brake : Brake
  direction : Direction
  deriving DecidableEq, Repr

/-- The Drive Port at a start (R74). -/
def DrivePort.initial : DrivePort :=
  ⟨0, .none, 0, 0, .none, false, false, false, .initial, .initial, .initial, 0, false, .engaged, .forward⟩

/-! ## Time (R111) -/

/-- A timecode HH:MM:SS:FF. -/
structure Timecode where
  hh : Nat
  mm : Nat
  ss : Nat
  ff : Nat
  deriving DecidableEq, Repr

/-- A time stamp: a timecode with an accumulator (R113, R158). -/
structure Stamp where
  time : Timecode
  acc : Nat
  deriving DecidableEq, Repr

/-! ## Preset Store (R97, R103) -/

/-- Save states (R97, R101): SAVED, PENDING (`waiting`), WRITING, UNSAVED. -/
inductive SaveState where
  | saved | waiting | writing | unsaved
  deriving DecidableEq, Repr

/-- Validity of an entry, with what only a VALID entry has (R97). -/
inductive PresetBody where
  | empty
  | valid (target : Int) (storedAt : Option Timecode) (storedBy : Option CueId)
  | invalid
  deriving DecidableEq, Repr

structure PresetEntry where
  body : PresetBody
  save : SaveState
  deriving DecidableEq, Repr

inductive WritePhase where
  | sending | programming
  deriving DecidableEq, Repr

/-- The writer's in-flight record (R103), with the page bytes it took at the attempt's start (R104). -/
structure InFlight where
  index : Nat
  attempt : Nat
  phase : WritePhase
  page : List Byte
  deriving DecidableEq, Repr

structure PresetStore where
  table : List PresetEntry
  writeBack : List Nat
  inFlight : Option InFlight
  deriving DecidableEq, Repr

/-- The Preset Store at a start: 64 entries EMPTY and SAVED (R99). -/
def PresetStore.initial : PresetStore :=
  ⟨List.replicate Config.presetCount ⟨.empty, .saved⟩, [], none⟩

/-- The settings memory as far as the station's own traffic tells (R98, R109, log 19): its bytes, and the page it is
committing. -/
structure SettingsMemory where
  cells : List Host.Cell
  commit : Option (Nat × List Byte)
  deriving DecidableEq, Repr

/-- An erased settings memory (R98). -/
def SettingsMemory.erased : SettingsMemory := ⟨[], none⟩

/-! ## Scene Clock and Cue Scheduler (R111, R116, R120, R126) -/

structure SceneClock where
  time : Timecode
  acc : Nat
  synced : Bool
  deriving DecidableEq, Repr

/-- The Scene Clock at a start (R111). -/
def SceneClock.initial : SceneClock := ⟨⟨0, 0, 0, 0⟩, 0, false⟩

inductive CueKind where
  | go | halt | store | clear | disarm
  deriving DecidableEq, Repr

/-- One armed cue (R120). -/
structure ArmedCue where
  cue : CueId
  kind : CueKind
  preset : Nat
  duration : Nat
  fade : Nat
  start : Timecode
  deriving DecidableEq, Repr

/-- What a firing hands on (R118). -/
structure Firing where
  cue : CueId
  kind : CueKind
  preset : Nat
  duration : Nat
  fade : Nat
  late : Bool
  deriving DecidableEq, Repr

inductive Phase where
  | none | armed | moving | arrived | abandoned | refused | missed | done
  deriving DecidableEq, Repr

inductive Reason where
  | none | notReady | invalidPreset | tooFar | unsynced | listFull | faultActive | interlock | stopped | replaced
  | takenOver | faulted
  deriving DecidableEq, Repr

/-- The last-cue report (R126). -/
structure CueReport where
  cue : Option CueId
  phase : Phase
  reason : Reason
  deriving DecidableEq, Repr

structure CueScheduler where
  armed : List ArmedCue
  report : CueReport
  deriving DecidableEq, Repr

/-- The Cue Scheduler at a start (R116). -/
def CueScheduler.initial : CueScheduler := ⟨[], ⟨none, .none, .none⟩⟩

/-! ## Frames (R146, R190) -/

inductive FrameKind where
  | announce | stick | state | cue
  deriving DecidableEq, Repr

/-- The contents of a STICK frame (R134). -/
structure StickContents where
  values : List Int
  switches : BitVec 16
  deriving DecidableEq, Repr

/-- The contents of a STATE frame, coded as they travel (R135, R190). -/
structure StateContents where
  move : Nat
  fault : Nat
  measured : Int
  setpoint : Int
  velocity : Int
  weight : Nat
  source : Nat
  number : Nat
  phase : Nat
  reason : Nat
  flags : FlagSet
  deriving DecidableEq, Repr

/-- The contents of an ANNOUNCE frame, coded as they travel (R190). -/
structure AnnounceContents where
  role : Nat
  cause : Nat
  check : CheckWord
  label : Nat
  framePeriod : Nat
  deriving DecidableEq, Repr

/-- The contents of a CUE frame, coded as they travel (R190); `timed` is the start-time flag byte. -/
structure CueContents where
  number : Nat
  kind : Nat
  scope : BitVec 64
  preset : Nat
  duration : Nat
  fade : Nat
  timed : Nat
  start : Timecode
  deriving DecidableEq, Repr

/-- A frame's contents by kind. -/
inductive Contents where
  | announce (a : AnnounceContents)
  | stick (c : StickContents)
  | state (c : StateContents)
  | cue (c : CueContents)
  deriving DecidableEq, Repr

/-- A frame of the transmit queue (R147): its header sequence and contents, the stamp latched for the present attempt
(R158), and the carried event flags that have stood set since its build (R159). -/
structure Frame where
  sequence : Nat
  contents : Contents
  stamp : Option Stamp
  standing : FlagSet
  deriving DecidableEq, Repr

/-- A record of the receive ring (R163). -/
structure RingRecord where
  source : Nat
  kind : FrameKind
  sequence : Nat
  payload : List Byte
  arrival : Nat
  deriving DecidableEq, Repr

/-! ## Peer Table (R130, R137) -/

/-- The latest contents of a peer entry (R134, R135). -/
inductive PeerContents where
  | stick (c : StickContents)
  | state (c : StateContents)
  deriving DecidableEq, Repr

structure PeerEntry where
  address : Nat
  kind : PeerKind
  lastSequence : Option Nat
  freshness : Freshness
  age : Nat
  contents : Option PeerContents
  stamp : Option Stamp
  heardAt : Option Nat
  lastCue : Option Nat
  deriving DecidableEq, Repr

/-- One item of a hand station's roster (R137). -/
structure RosterItem where
  address : Nat
  announced : AnnounceContents
  heardAt : Nat
  deriving DecidableEq, Repr

structure PeerTable where
  entries : List PeerEntry
  roster : List RosterItem
  deriving DecidableEq, Repr

/-- The Peer Table at a start (R131, R144). -/
def PeerTable.initial : PeerTable := ⟨[], []⟩

/-- An entry as created when the record is found good (R131). -/
def PeerEntry.create (p : PeerSpec) : PeerEntry :=
  ⟨p.address, p.kind, none, .silent, 0, none, none, none, none⟩

/-! ## Link Controller (R147, R151, R164) -/

inductive SendPhase where
  | wait | send | jam | backoff
  deriving DecidableEq, Repr

inductive LineCondition where
  | busy | gap | lateGap | free
  deriving DecidableEq, Repr

structure LinkController where
  current : Option Frame
  periodic : Option Frame
  cueSlots : List Frame
  phase : SendPhase
  attempts : Nat
  round : Nat
  backoff : Nat
  drawn : Nat
  wire : List Byte
  line : LineCondition
  gapTimer : Nat
  carrier : Bool
  shiftReg : BitVec 17
  nextSequence : Option Nat
  periodTimer : Bool
  reception : Bool
  ring : List RingRecord
  acceptMap : BitVec 64
  periodCount : BitVec 32
  deriving DecidableEq, Repr

/-- The start cause's number (R154, R190). -/
def causeNumber : StartCause → Nat
  | .power => 0
  | .brownout => 1
  | .pin => 2

/-- The seed of the backoff shift register (R154). -/
def seed (address : Nat) (cause : StartCause) : BitVec 17 :=
  BitVec.ofNat 17 (65536 + address * 4 + causeNumber cause)

/-- The Link Controller at a start of this cause (R164); until the record gives one, the address is 0 (R154). No carrier
stands, which is the model's choice for the station right after reset (log 10). -/
def LinkController.initial (cause : StartCause) : LinkController :=
  { current := none, periodic := none, cueSlots := [], phase := .wait, attempts := 0, round := 1, backoff := 0,
    drawn := 0, wire := [], line := .gap, gapTimer := 0, carrier := false, shiftReg := seed 0 cause,
    nextSequence := none, periodTimer := false, reception := false, ring := [], acceptMap := 0, periodCount := 0 }

/-! ## Hand Sampler (R166) -/

structure HandSampler where
  raw : List (Option Nat)
  values : List Int
  faults : BitVec 8
  history : List (List Bool)
  switches : BitVec 16
  deriving DecidableEq, Repr

/-- The Hand Sampler at a start (R166). -/
def HandSampler.initial : HandSampler :=
  ⟨List.replicate 8 none, List.replicate 8 0, 0, List.replicate 16 [], 0⟩

/-! ## Panel Line (R171, R174, R178) -/

inductive ParserPhase where
  | hunt | length | body | reply
  deriving DecidableEq, Repr

inductive CueStatus where
  | queued | sent | lost
  deriving DecidableEq, Repr

structure RecentCue where
  number : Nat
  status : CueStatus
  deriving DecidableEq, Repr

structure PanelLine where
  phase : ParserPhase
  buffer : List Byte
  reply : List Byte
  nextCue : Nat
  recent : List RecentCue
  deriving DecidableEq, Repr

/-- The Panel Line at a start (R178). -/
def PanelLine.initial : PanelLine := ⟨.hunt, [], [], 0, []⟩

end Sys2Proof.Machine
end

