-- ==== Sys2Proof/Machine/Operands.lean ====
section
/-! DEFINITION. How the bytes of frames, pages, the record and panel records spell numbers (most significant byte
first, signed quantities in two's complement: spec/12_formats.md), the CRC-16 of R146 and R190, and the plain
arithmetic of spec/00_scope.md, Conventions. -/
namespace Sys2Proof.Machine

/-- clamp(x, lo, hi): x raised to lo or lowered to hi (spec/00_scope.md, Conventions). -/
def clamp (x lo hi : Int) : Int := max lo (min x hi)

/-- clamp over whole numbers. -/
def clampNat (x lo hi : Nat) : Nat := max lo (min x hi)

/-- "Divided, truncated" (spec/00_scope.md, Conventions). -/
def divTrunc (a b : Int) : Int := Int.tdiv a b

/-- "Floor" of a quotient (spec/00_scope.md, Conventions). -/
def divFloor (a b : Int) : Int := Int.fdiv a b

/-- Byte `i` of `bytes`, and `missing` where it has none. -/
def byteAt (bytes : List Byte) (missing : Byte) (i : Nat) : Byte := bytes.getD i missing

/-- The unsigned number that `n` bytes read through `get` from offset `o` spell. -/
def readNat (get : Nat → Byte) (o : Nat) : Nat → Nat
  | 0 => 0
  | n + 1 => readNat get o n * 256 + (get (o + n)).toNat

/-- The signed number that `n` bytes read through `get` from offset `o` spell. -/
def readInt (get : Nat → Byte) (o n : Nat) : Int :=
  let v := readNat get o n
  if 2 * v < 256 ^ n then v else (v : Int) - (256 : Int) ^ n

/-- The `n` bytes that spell `x`, in two's complement where x is negative. -/
def bytesOf (x : Int) : Nat → List Byte
  | 0 => []
  | n + 1 => BitVec.ofInt 8 (divFloor x (256 ^ n)) :: bytesOf x n

/-- One bit into the CRC-16 register (R190). -/
def crcBit (reg : CheckWord) (bit : Bool) : CheckWord :=
  if reg.msb != bit then (reg <<< 1) ^^^ 0x1021#16 else reg <<< 1

/-- One byte into the CRC-16 register, most significant bit first (R190). -/
def crcByte (reg : CheckWord) (b : Byte) : CheckWord :=
  [7, 6, 5, 4, 3, 2, 1, 0].foldl (fun r i => crcBit r (b.getLsbD i)) reg

/-- The CRC-16 of R146, R181 and R190: it starts from all ones and is not inverted. -/
def crc16 (bytes : List Byte) : CheckWord := bytes.foldl crcByte 0xFFFF#16

/-- The accept map's index of a (source, kind code) pair: the CRC's top six bits (R162, R190). -/
def acceptIndex (source kindCode : Nat) : Nat :=
  (crc16 [BitVec.ofNat 8 source, BitVec.ofNat 8 kindCode]).toNat / 1024

/-- The sum of every byte of a panel record, modulo 256 (R170). -/
def byteSum (bytes : List Byte) : Byte := bytes.foldl (· + ·) 0

/-- A panel record's bytes (R170): start byte, length, body (the kind and fields), and the check byte that makes the
sum 0. -/
def panelRecord (body : List Byte) : List Byte :=
  let head := 0xA5#8 :: BitVec.ofNat 8 body.length :: body
  head ++ [-(byteSum head)]

end Sys2Proof.Machine
end

