-- ==== Sys2Proof/Machine/Formats.lean ====
section
/-! DEFINITION. The layouts of link frames (R146, R190): what a frame's bytes are, and what is read from a payload. The
enumerated codes are those of R190 where it gives them, and otherwise the position of the name in the list that defines
it (R192). -/
namespace Sys2Proof.Machine

/-! ## Codes (R190, R192) -/

def FrameKind.code : FrameKind → Nat
  | .announce => 1
  | .stick => 2
  | .state => 3
  | .cue => 4

/-- The kind of a code; any other code is no kind (R161). -/
def frameKindOf : Nat → Option FrameKind
  | 1 => some .announce
  | 2 => some .stick
  | 3 => some .state
  | 4 => some .cue
  | _ => none

/-- The payload length a kind requires (R146). -/
def FrameKind.payloadLength : FrameKind → Nat
  | .announce => 6
  | .stick | .state => 24
  | .cue => 20

def PeerKind.frameKind : PeerKind → FrameKind
  | .stick => .stick
  | .state => .state

def Role.code : Role → Nat
  | .axis => 0
  | .hand => 1

def MoveState.code : MoveState → Nat
  | .start => 0
  | .parked => 1
  | .parking => 2
  | .releasing => 3
  | .hold => 4
  | .jog => 5
  | .play => 6
  | .blend => 7
  | .stopping => 8
  | .interlocked => 9
  | .fault => 10

def FaultCause.code : FaultCause → Nat
  | .none => 0
  | .feedback => 1
  | .following => 2
  | .endstopLow => 3
  | .endstopHigh => 4
  | .drive => 5

def CueKind.code : CueKind → Nat
  | .go => 0
  | .halt => 1
  | .store => 2
  | .clear => 3
  | .disarm => 4

def Phase.code : Phase → Nat
  | .none => 0
  | .armed => 1
  | .moving => 2
  | .arrived => 3
  | .abandoned => 4
  | .refused => 5
  | .missed => 6
  | .done => 7

def Reason.code : Reason → Nat
  | .none => 0
  | .notReady => 1
  | .invalidPreset => 2
  | .tooFar => 3
  | .unsynced => 4
  | .listFull => 5
  | .faultActive => 6
  | .interlock => 7
  | .stopped => 8
  | .replaced => 9
  | .takenOver => 10
  | .faulted => 11

/-! ## What is sent -/

def Contents.kind : Contents → FrameKind
  | .announce _ => .announce
  | .stick _ => .stick
  | .state _ => .state
  | .cue _ => .cue

/-- A frame that is rebuilt each frame period, or an ANNOUNCE (R147). -/
def Frame.isPeriodic (f : Frame) : Bool := f.contents.kind != .cue

/-- The kind carries a time stamp (R158). -/
def FrameKind.stamped : FrameKind → Bool
  | .stick | .state => true
  | .announce | .cue => false

/-- A timecode's four bytes. -/
def timecodeBytes (t : Timecode) : List Byte := bytesOf t.hh 1 ++ bytesOf t.mm 1 ++ bytesOf t.ss 1 ++ bytesOf t.ff 1

/-- A time stamp's six bytes (R190). -/
def stampBytes (st : Stamp) : List Byte := timecodeBytes st.time ++ bytesOf st.acc 2

/-- The twelve values of STATE contents before the stamp (R190). -/
def stateBytes (c : StateContents) : List Byte :=
  bytesOf c.move 1 ++ bytesOf c.fault 1 ++ bytesOf c.measured 3 ++ bytesOf c.setpoint 4 ++ bytesOf c.velocity 2 ++
  bytesOf c.weight 2 ++ bytesOf c.source 1 ++ bytesOf c.number 1 ++ bytesOf c.phase 1 ++ bytesOf c.reason 1 ++ [c.flags]

/-- The values and switch word of STICK contents before the stamp (R190). -/
def stickBytes (c : StickContents) : List Byte :=
  (c.values.map fun v => bytesOf v 2).flatten ++ bytesOf c.switches.toNat 2

/-- A frame's payload, with the stamp latched for the attempt (R158, R190). -/
def payloadOf (contents : Contents) (stamp : Stamp) : List Byte :=
  match contents with
  | .announce a => bytesOf a.role 1 ++ bytesOf a.cause 1 ++ bytesOf a.check.toNat 2 ++ bytesOf a.label 1 ++
      bytesOf a.framePeriod 1
  | .stick c => stickBytes c ++ stampBytes stamp
  | .state c => stateBytes c ++ stampBytes stamp
  | .cue c => bytesOf c.number 1 ++ bytesOf c.kind 1 ++ bytesOf c.scope.toNat 8 ++ bytesOf c.preset 1 ++
      bytesOf c.duration 2 ++ bytesOf c.fade 2 ++ bytesOf c.timed 1 ++ timecodeBytes c.start

/-- The header and payload of a frame (R146, R190). -/
def frameBody (source : Nat) (f : Frame) (stamp : Stamp) : List Byte :=
  let payload := payloadOf f.contents stamp
  bytesOf source 1 ++ bytesOf f.contents.kind.code 1 ++ bytesOf f.sequence 1 ++ bytesOf payload.length 1 ++ payload

/-- Everything a frame puts on the wire: preamble, start pattern, header, payload, CRC-16 (R146, R190). -/
def wireBytes (source : Nat) (f : Frame) (stamp : Stamp) : List Byte :=
  let body := frameBody source f stamp
  [0xAA, 0xAA, 0xAA, 0xB3] ++ body ++ bytesOf (crc16 body).toNat 2

/-- The jam: 32 bit times of alternating 1 and 0 (R153). That it begins with 1, as the preamble does (R146), is the model's
choice (log 37). -/
def jamBytes : List Byte := [0xAA, 0xAA, 0xAA, 0xAA]

/-! ## What is taken (R134, R135, R190) -/

/-- The contents of a STICK payload, as they arrive (R134). -/
def readStick (p : List Byte) : StickContents :=
  ⟨[0, 1, 2, 3, 4, 5, 6, 7].map fun i => readInt (byteAt p 0) (2 * i) 2, BitVec.ofNat 16 (readNat (byteAt p 0) 16 2)⟩

/-- The contents of a STATE payload, as they arrive (R135). -/
def readState (p : List Byte) : StateContents :=
  let get := byteAt p 0
  { move := (get 0).toNat, fault := (get 1).toNat, measured := readInt get 2 3, setpoint := readInt get 5 4,
    velocity := readInt get 9 2, weight := readNat get 11 2, source := (get 13).toNat, number := (get 14).toNat,
    phase := (get 15).toNat, reason := (get 16).toNat, flags := get 17 }

/-- The stamp of a STICK or STATE payload (R190). -/
def readStamp (p : List Byte) : Stamp :=
  let get := byteAt p 0
  ⟨⟨(get 18).toNat, (get 19).toNat, (get 20).toNat, (get 21).toNat⟩, readNat get 22 2⟩

/-- The contents of an ANNOUNCE payload (R137, R190). -/
def readAnnounce (p : List Byte) : AnnounceContents :=
  let get := byteAt p 0
  ⟨(get 0).toNat, (get 1).toNat, BitVec.ofNat 16 (readNat get 2 2), (get 4).toNat, (get 5).toNat⟩

/-- The contents of a CUE payload (R190). -/
def readCueContents (p : List Byte) : CueContents :=
  let get := byteAt p 0
  { number := (get 0).toNat, kind := (get 1).toNat, scope := BitVec.ofNat 64 (readNat get 2 8),
    preset := (get 10).toNat, duration := readNat get 11 2, fade := readNat get 13 2, timed := (get 15).toNat,
    start := ⟨(get 16).toNat, (get 17).toNat, (get 18).toNat, (get 19).toNat⟩ }

end Sys2Proof.Machine
end

