-- ==== Sys2Proof/Machine/State.lean ====
section
/-! DEFINITION. The state of a station: its fourteen blocks, the record it took, its image of the settings memory, what
holds it in reset, and the queue of commands that wait. -/
namespace Sys2Proof.Machine

/-- The reasons the model stops with a fault. There is none: every command of the table has an effect in every state
(log 27); the K310's own faults are states of its Drive Port. -/
inductive Fault
  deriving DecidableEq, Repr

/-- The reasons the model refuses a command. -/
inductive Refusal where
  /-- Raised by exec alone, for a command that has no meaning yet. Safe: nothing is claimed of it. -/
  | notModelled (mnemonic : String)
  deriving DecidableEq, Repr

/-- A station (INVENTORY.md, State). -/
@[ext]
structure State where
  start : StartController
  record : Option Record
  stick : StickShaper
  blend : BlendEngine
  coupling : CouplingUnit
  limiter : MotionLimiter
  drive : DrivePort
  presets : PresetStore
  memory : SettingsMemory
  clock : SceneClock
  sched : CueScheduler
  intake : Option RingRecord
  peers : PeerTable
  link : LinkController
  flags : FlagSet
  hand : HandSampler
  panel : PanelLine
  resetHold : Option StartCause
  freeCount : Nat
  pending : List Instr
  deriving DecidableEq, Repr

namespace State

/-- The station at the instant a POWER start begins (R179 and each chapter's start table; log 5). -/
def reset : State where
  start := .initial .power
  record := none
  stick := .initial
  blend := .initial
  coupling := .initial
  limiter := .initial
  drive := .initial
  presets := .initial
  memory := .erased
  clock := .initial
  sched := .initial
  intake := none
  peers := .initial
  link := .initial .power
  flags := 0
  hand := .initial
  panel := .initial
  resetHold := none
  freeCount := 0
  pending := []

/-! One update per block; every operation changes the state through these. -/

def withStart (s : State) (x : StartController) : State := { s with start := x }
def withRecord (s : State) (x : Option Record) : State := { s with record := x }
def withStick (s : State) (x : StickShaper) : State := { s with stick := x }
def withBlend (s : State) (x : BlendEngine) : State := { s with blend := x }
def withCoupling (s : State) (x : CouplingUnit) : State := { s with coupling := x }
def withLimiter (s : State) (x : MotionLimiter) : State := { s with limiter := x }
def withDrive (s : State) (x : DrivePort) : State := { s with drive := x }
def withPresets (s : State) (x : PresetStore) : State := { s with presets := x }
def withMemory (s : State) (x : SettingsMemory) : State := { s with memory := x }
def withClock (s : State) (x : SceneClock) : State := { s with clock := x }
def withSched (s : State) (x : CueScheduler) : State := { s with sched := x }
def withIntake (s : State) (x : Option RingRecord) : State := { s with intake := x }
def withPeers (s : State) (x : PeerTable) : State := { s with peers := x }
def withLink (s : State) (x : LinkController) : State := { s with link := x }
def withFlags (s : State) (x : FlagSet) : State := { s with flags := x }
def withHand (s : State) (x : HandSampler) : State := { s with hand := x }
def withPanel (s : State) (x : PanelLine) : State := { s with panel := x }
def withResetHold (s : State) (x : Option StartCause) : State := { s with resetHold := x }
def withFreeCount (s : State) (x : Nat) : State := { s with freeCount := x }
def withPending (s : State) (x : List Instr) : State := { s with pending := x }

/-- The settings of an axis station whose record was found good. -/
def axis? (s : State) : Option AxisSettings :=
  match s.record with
  | some ⟨_, _, _, _, _, _, _, _, .axis a⟩ => some a
  | _ => none

/-- The calibrations of a hand station whose record was found good. -/
def hand? (s : State) : Option (List Calibration) :=
  match s.record with
  | some ⟨_, _, _, _, _, _, _, _, .hand c⟩ => some c
  | _ => none

end State
end Sys2Proof.Machine
end

