-- ==== Sys2Proof/Machine/Flags.lean ====
section
/-! DEFINITION. The event flags (R159, R190): setting one, and clearing those that a completed STATE frame carried. -/
namespace Sys2Proof.Machine

/-- The event flags (spec/00_scope.md, Terms). -/
inductive EventFlag where
  | sourceLost | partnerLost | limited | late | missed | storeFailed | takeover | rxFull
  deriving DecidableEq, Repr

/-- The flag's place in the flags byte (R190). -/
def EventFlag.mask : EventFlag → FlagSet
  | .sourceLost => 0x80
  | .partnerLost => 0x40
  | .limited => 0x20
  | .late => 0x10
  | .missed => 0x08
  | .storeFailed => 0x04
  | .takeover => 0x02
  | .rxFull => 0x01

/-- The flag stands set. -/
def State.flagged (s : State) (f : EventFlag) : Bool := s.flags &&& f.mask != 0

/-- Set a flag; setting one already set leaves it set (R127, R140). -/
def setFlag (f : EventFlag) (s : State) : State := s.withFlags (s.flags ||| f.mask)

/-- A frame waiting in the queue, after the flags `cleared` were cleared: those have no longer stood set since its
build, so its own completion will not clear them (R159). -/
def Frame.afterClear (cleared : FlagSet) (f : Frame) : Frame := { f with standing := f.standing &&& ~~~cleared }

/-- A STATE frame whose flags `standing` have stood set since its build completes (R159). -/
def clearCarried (standing : FlagSet) (s : State) : State :=
  (s.withFlags (s.flags &&& ~~~standing)).withLink
    { s.link with periodic := s.link.periodic.map (Frame.afterClear standing) }

end Sys2Proof.Machine
end

