-- ==== Sys2Proof/Machine/Memory.lean ====
section
/-! DEFINITION. The settings memory's image (R98, R109): a list of cells in one canonical form. An address that is not
listed reads as an erased memory's byte (log 19). -/
namespace Sys2Proof.Machine

/-- What an unlisted address reads as: an erased memory holds 0xFF (R98). -/
def Memory.erasedByte : Byte := 0xFF

/-- The byte at an address. -/
def Memory.read : List Host.Cell → Nat → Byte
  | [], _ => Memory.erasedByte
  | (b, v) :: rest, a => if a = b then v else Memory.read rest a

/-- The cells after one byte is written. -/
def Memory.write : List Host.Cell → Nat → Byte → List Host.Cell
  | [], a, v => if v = Memory.erasedByte then [] else [(a, v)]
  | (b, w) :: rest, a, v =>
    if a < b then (if v = Memory.erasedByte then (b, w) :: rest else (a, v) :: (b, w) :: rest)
    else if a = b then (if v = Memory.erasedByte then rest else (a, v) :: rest)
    else (b, w) :: Memory.write rest a v

/-- Every address of the list lies above `a`, and the addresses rise. -/
def Memory.above (a : Nat) : List Host.Cell → Bool
  | [] => true
  | (b, v) :: rest => a < b && v != Memory.erasedByte && Memory.above b rest

/-- The canonical form: addresses strictly rising, no entry equal to what an unlisted address reads as. -/
def Memory.wf : List Host.Cell → Bool
  | [] => true
  | (b, v) :: rest => v != Memory.erasedByte && Memory.above b rest

/-- The cells after bytes are written from an address on. -/
def Memory.writeBytes : List Host.Cell → Nat → List Byte → List Host.Cell
  | cells, _, [] => cells
  | cells, a, v :: rest => Memory.writeBytes (Memory.write cells a v) (a + 1) rest

/-- The bytes from an address on. -/
def Memory.readBytes (cells : List Host.Cell) (a : Nat) : Nat → List Byte
  | 0 => []
  | n + 1 => Memory.read cells a :: Memory.readBytes cells (a + 1) n

/-- The offset of preset page i (R98). -/
def pageOffset (i : Nat) : Nat := Config.pageBase + Config.pageSize * i

/-- The sixteen bytes of a free value (log 20). -/
def tornBytes (n : Nat) : List Byte :=
  let b := Config.tornPage n
  [15, 14, 13, 12, 11, 10, 9, 8, 7, 6, 5, 4, 3, 2, 1, 0].map fun i => b.extractLsb' (8 * i) 8

/-- The memory holds these bytes at page i. -/
def State.setPage (s : State) (i : Nat) (page : List Byte) : State :=
  s.withMemory { s.memory with cells := Memory.writeBytes s.memory.cells (pageOffset i) page }

/-- What the memory holds at page i is not known: a free value (log 20). -/
def State.tearPage (s : State) (i : Nat) : State :=
  (s.setPage i (tornBytes s.freeCount)).withFreeCount (s.freeCount + 1)

/-- The memory is committing this page, or none. -/
def State.setCommit (s : State) (c : Option (Nat × List Byte)) : State :=
  s.withMemory { s.memory with commit := c }

end Sys2Proof.Machine
end

