-- ==== Sys2Proof/Machine/Ops.lean ====
section
/-! DEFINITION. The operations the commands share: when a command runs at all, the last-cue report, the change of move
state with the outputs that follow it, the re-centre latch, the partners' condition, the setpoint's jump to the
measured position, the abandonment of a plan, and the K310's own faults (taking one, and the return by CLEAR). -/
namespace Sys2Proof.Machine

/-- A command of a station that is not held in reset; in reset it has no effect (R180, log 4). -/
def whenRunning (s : State) (f : State → State) : Host.Outcome State Fault Refusal :=
  .next (if s.resetHold.isSome then s else f s)

/-- A command whose occasion is `due`; where it is not due the event does not occur (log 2). -/
def whenDue (due : Bool) (s : State) (f : State → State) : Host.Outcome State Fault Refusal :=
  whenRunning s fun s => if due then f s else s

/-! ## Reports, move state, latch -/

/-- Post to the last-cue report; each post overwrites all of it (R126). -/
def post (cue : CueId) (phase : Phase) (reason : Reason) (s : State) : State :=
  s.withSched { s.sched with report := ⟨some cue, phase, reason⟩ }

/-- The six servo-active states (R16). -/
def MoveState.servoActive : MoveState → Bool
  | .hold | .jog | .play | .blend | .stopping | .interlocked => true
  | .start | .parked | .parking | .releasing | .fault => false

/-- Drive enable by move state (R87). -/
def MoveState.driveEnable : MoveState → Bool
  | .start | .parked | .fault => false
  | .parking | .releasing | .hold | .jog | .play | .blend | .stopping | .interlocked => true

/-- The brake output by move state (R87). -/
def MoveState.brakeOutput : MoveState → Brake
  | .start | .parked | .parking | .fault => .engaged
  | .releasing | .hold | .jog | .play | .blend | .stopping | .interlocked => .released

/-- The move state changes, and the outputs with it, at the same instant (R87). -/
def enterMove (m : MoveState) (s : State) : State :=
  (s.withBlend { s.blend with move := m }).withDrive
    { s.drive with enable := m.driveEnable, brake := m.brakeOutput }

/-- The stop cause changes (R16). -/
def setStopCause (c : StopCause) (s : State) : State := s.withBlend { s.blend with stopCause := c }

/-- The park count restarts (R38). -/
def zeroPark (s : State) : State := s.withBlend { s.blend with park := 0 }

/-- HOLD is entered (R35, R37, R38). -/
def enterHold (s : State) : State := zeroPark (enterMove .hold s)

/-- The presented Vj (R9). -/
def State.presentedVj (s : State) : Int := if s.stick.latch then 0 else s.stick.computed

/-- The stick is active (R9). -/
def State.stickActive (s : State) : Bool := s.presentedVj != 0

/-- The re-centre latch is set; the computed Vj is left as it stood (R11). -/
def setLatch (s : State) : State := s.withStick { s.stick with latch := true }

/-- The Motion Limiter is at rest (R21). -/
def State.atRest (s : State) : Bool := s.limiter.setpoint == s.coupling.g && s.limiter.v0 == 0

/-! ## Peers and partners -/

/-- The Peer Table's entry for an address. -/
def PeerTable.find (t : PeerTable) (address : Nat) : Option PeerEntry :=
  t.entries.find? fun e => e.address == address

/-- An entry replaced, in its place. -/
def PeerTable.put (t : PeerTable) (e : PeerEntry) : PeerTable :=
  { t with entries := t.entries.map fun x => if x.address == e.address then e else x }

/-- The STATE contents an entry holds (R135). -/
def PeerEntry.state? (e : PeerEntry) : Option StateContents :=
  match e.contents with
  | some (.state c) => some c
  | _ => none

/-- The STICK contents an entry holds (R134). -/
def PeerEntry.stick? (e : PeerEntry) : Option StickContents :=
  match e.contents with
  | some (.stick c) => some c
  | _ => none

/-- The partner at an address reports FAULT: its latest STATE contents carry move state 10 (R36, R135). -/
def State.reportsFault (s : State) (address : Nat) : Bool :=
  match (s.peers.find address).bind PeerEntry.state? with
  | some c => c.move == 10
  | none => false

/-- The interlock condition (R36). -/
def State.interlockHolds (ax : AxisSettings) (s : State) : Bool :=
  ax.interlock && (ax.follow.any s.reportsFault || ax.guard.any s.reportsFault)

/-! ## Setpoint and commanded position -/

/-- The Motion Limiter's setpoint and step position jump to the measured position, at rest (R67, R68). -/
def trackSetpoint (s : State) : State :=
  s.withLimiter { s.limiter with setpoint := s.drive.measured * Config.subCounts, v0 := 0,
                                 stepPos := s.drive.measured }

/-- C is set (R25, R41, R42). -/
def setC (c : Int) (s : State) : State := s.withBlend { s.blend with c := c }

/-- The configured limits applied to a position in sub-counts (R25). -/
def AxisSettings.limit (ax : AxisSettings) (x : Int) : Int :=
  clamp x (ax.llo * Config.subCounts) (ax.lhi * Config.subCounts)

/-- C is set to the setpoint reached, within the configured limits (R32, R35, R41). -/
def setCFromSetpoint (ax : AxisSettings) (s : State) : State := setC (ax.limit s.limiter.setpoint) s

/-! ## Plans -/

/-- The weight and the trim are set to 0 (R32, R34, R36, R42). -/
def zeroBlend (s : State) : State := s.withBlend { s.blend with w := 0, d := 0 }

/-- The plan present, or the pending plan, is abandoned for a reason and reported; w and D become 0 (R24, R44). -/
def abandon (why : Reason) (s : State) : State :=
  let dropped := (zeroBlend s).withBlend { (zeroBlend s).blend with plan := none, waiting := none }
  match s.blend.plan, s.blend.waiting with
  | some p, _ => post p.cue .abandoned why dropped
  | none, some p => post p.cue .abandoned why dropped
  | none, none => dropped

/-- The interlock stops the axis: STOPPING with cause INTERLOCK, any plan abandoned with FAULTED (R36). -/
def interlockStop (s : State) : State :=
  enterMove .stopping (setStopCause .interlock (abandon .faulted s))

/-! ## The K310's faults: taking one (R42, R89, R90), and the return by CLEAR (R43, R91) -/

/-- The Blend Engine and the Motion Limiter enter FAULT (R42, R68). -/
def blendFaultEntry (s : State) : State :=
  let s := abandon .faulted s
  let s := s.withBlend { s.blend with c := s.drive.measured * Config.subCounts, stopCause := .none,
                                      park := 0, brake := 0 }
  trackSetpoint (enterMove .fault s)

/-- The fault entry (R89): outputs, step output, cause and further mark, following-error run, then the Blend Engine. -/
def faultEntry (cause : FaultCause) (s : State) : State :=
  blendFaultEntry (s.withDrive { s.drive with enable := false, brake := .engaged, pulses := 0, cause := cause,
                                              further := false, followingRun := 0 })

/-- A cause is raised: nothing in START (R79, R84, R85), the further mark in FAULT (R90), else the fault entry (R89). -/
def raise (cause : FaultCause) (s : State) : State :=
  match s.blend.move with
  | .start => s
  | .fault => s.withDrive { s.drive with further := true }
  | .parked | .parking | .releasing | .hold | .jog | .play | .blend | .stopping | .interlocked => faultEntry cause s

/-- The Drive Port accepts a CLEAR: the amplifier-fault input is not ACTIVE and the last read is GOOD (R91). -/
def DrivePort.acceptsClear (d : DrivePort) : Bool := d.amp.state != .active && d.lastRead == .good

/-- What an accepted CLEAR does in the Drive Port: the direction locks, the cause and the further mark (R91, R93). -/
def DrivePort.cleared (d : DrivePort) : DrivePort :=
  { d with lowLock := d.lowLock || d.low.state == .active, highLock := d.highLock || d.high.state == .active,
           cause := .none, further := false }

/-- A CLEAR fires (R43, R91). -/
def clearCue (cue : CueId) (s : State) : State :=
  match s.blend.move with
  | .fault =>
    if s.drive.acceptsClear then
      post cue .done .none (setLatch (enterMove .parked (s.withDrive s.drive.cleared)))
    else post cue .refused .faultActive s
  | .start | .parked | .parking | .releasing | .hold | .jog | .play | .blend | .stopping | .interlocked =>
    post cue .done .none s

end Sys2Proof.Machine
end

