-- ==== Sys2Proof/Machine/CouplingUnit.lean ====
section
/-! DEFINITION. The Coupling Unit (spec/03_partner_coupling_and_guard_limits.md): the follow term, the guard limit and
the target G. It has no command of its own. -/
namespace Sys2Proof.Machine

/-- The follow term for a partner displacement (R50). -/
def followTerm (k displacement : Int) : Int :=
  clamp (divFloor (k * displacement) 256) Config.subMin Config.subMax

/-- The effective upper limit from the guard partner's position (R52). -/
def guardLimit (ax : AxisSettings) (pg : Int) : Int :=
  clamp (min ax.lhi (ax.l0 + divFloor (ax.l1 * pg) 4096)) ax.llo ax.lhi

/-- The effective upper limit in SAFE (R53). -/
def safeLimit (ax : AxisSettings) : Int := clamp ax.lsafe ax.llo ax.lhi

/-- The items at the instant the record is found good (R46). -/
def CouplingUnit.configured (ax : AxisSettings) (c : CouplingUnit) : CouplingUnit :=
  { c with followCondition := ax.follow.map fun _ => .silent,
           guardCondition := ax.guard.map fun _ => .silent,
           guardMode := if ax.guard.isSome then .safe else .fixed,
           lhiEff := if ax.guard.isSome then safeLimit ax else ax.lhi }

/-- A STATE frame of the follow partner is accepted: capture R, or recompute Q (R49, R50, R58). -/
def CouplingUnit.followAccepted (ax : AxisSettings) (pf : Int) (c : CouplingUnit) : CouplingUnit :=
  let r := c.reference.getD pf
  { c with reference := some r, q := followTerm ax.k (pf - r), followCondition := some .fresh }

/-- The guard partner's entry stands as given: IN_FORCE while FRESH or AGING with STATE contents, else SAFE
(R52, R53, R58). -/
def CouplingUnit.guardEvent (ax : AxisSettings) (e : PeerEntry) (c : CouplingUnit) : CouplingUnit :=
  match e.freshness, e.state? with
  | .fresh, some p | .aging, some p =>
    { c with guardCondition := some e.freshness, guardMode := .inForce, lhiEff := guardLimit ax p.measured }
  | _, _ => { c with guardCondition := some e.freshness, guardMode := .safe, lhiEff := safeLimit ax }

/-- An accepted STATE frame of an entry reaches the Coupling Unit (R48, R133). -/
def couplingAccepted (ax : AxisSettings) (e : PeerEntry) (s : State) : State :=
  match e.state? with
  | none => s
  | some p =>
    let c := if ax.follow = some e.address then s.coupling.followAccepted ax p.measured else s.coupling
    s.withCoupling (if ax.guard = some e.address then c.guardEvent ax e else c)

/-- A change of an entry's freshness without an acceptance reaches the Coupling Unit (R51, R58, R139). -/
def couplingChanged (ax : AxisSettings) (e : PeerEntry) (s : State) : State :=
  let c := if ax.follow = some e.address then { s.coupling with followCondition := some e.freshness } else s.coupling
  s.withCoupling (if ax.guard = some e.address then c.guardEvent ax e else c)

/-- The target G for a commanded position (R54). -/
def CouplingUnit.target (ax : AxisSettings) (u : CouplingUnit) (c : Int) : Int :=
  clamp (c + u.q) (ax.llo * Config.subCounts) (u.lhiEff * Config.subCounts)

/-- The Coupling Unit forms G at a handover, and sets LIMITED when the clamp bites in a servo-active state
(R54, R55). -/
def formTarget (ax : AxisSettings) (s : State) : State :=
  let g := s.coupling.target ax s.blend.c
  let s' := s.withCoupling { s.coupling with g := g }
  if s.blend.move.servoActive && g != s.blend.c + s.coupling.q then setFlag .limited s' else s'

end Sys2Proof.Machine
end

