-- ==== Sys2Proof/Machine/MotionLimiter.lean ====
section
/-! DEFINITION. The Motion Limiter (spec/04_motion_limiter.md) and what the Drive Port does with the step count handed
to it (R76). It has no command of its own: its step is the last part of a period expiry. -/
namespace Sys2Proof.Machine

/-- Whether a speed v may still stop within E at deceleration a (R64 step 2). -/
def canBrake (a E v : Nat) : Bool := v * (v + a) ≤ 2 * a * E

/-- The greatest speed that can brake among v + 0 .. v + 2^n - 1, given that v can: one bit at a time. -/
def brakeSearch (a E : Nat) : Nat → Nat → Nat
  | 0, v => v
  | n + 1, v => if canBrake a E (v + 2 ^ n) then brakeSearch a E n (v + 2 ^ n) else brakeSearch a E n v

/-- The braking bound b: the largest whole v with v (v + A) ≤ 2 A |e| (R64 step 2). -/
def brakingBound (a E : Nat) : Nat := brakeSearch a E (Nat.log2 (2 * a * E) + 1) 0

/-- The desired velocity vd for an error e (R64 steps 2 to 4). -/
def desiredVelocity (vmax a : Nat) (e : Int) : Int :=
  e.sign * (min vmax (min (brakingBound a e.natAbs) e.natAbs) : Nat)

/-- The velocity of a setpoint request (R64 step 5). -/
def requestVelocity (vmax a : Nat) (e v0 : Int) : Int := clamp (desiredVelocity vmax a e) (v0 - a) (v0 + a)

/-- The velocity of a deceleration (R66). -/
def stopVelocity (a : Nat) (v0 : Int) : Int := v0.sign * max ((v0.natAbs : Int) - a) 0

/-- The step conversion after S moved by v (R64 step 6, R66, R69). -/
def MotionLimiter.moveBy (l : MotionLimiter) (v : Int) : MotionLimiter :=
  let s := l.setpoint + v
  { setpoint := s, v0 := v, stepPos := divFloor s Config.subCounts,
    lastSteps := divFloor s Config.subCounts - l.stepPos }

/-- The Motion Limiter's step at a handover, by move state (R63). -/
def MotionLimiter.step (vmax a : Nat) (move : MoveState) (g measured : Int) (l : MotionLimiter) : MotionLimiter :=
  match move with
  | .hold | .jog | .play | .blend | .interlocked => l.moveBy (requestVelocity vmax a (g - l.setpoint) l.v0)
  | .stopping => l.moveBy (stopVelocity a l.v0)
  | .parking | .releasing => { l with v0 := 0, lastSteps := 0 }
  | .start | .parked | .fault =>
    { setpoint := measured * Config.subCounts, v0 := 0, stepPos := measured, lastSteps := 0 }

/-- The direction output for a step count (R76). -/
def stepDirection (pol : StepPolarity) (n : Int) (standing : Direction) : Direction :=
  if n = 0 then standing
  else match pol, decide (0 < n) with
    | .normal, true | .inverted, false => .forward
    | .normal, false | .inverted, true => .reverse

/-- The Drive Port takes a step count (R76). The direction output changes at the handover itself, for a count that is not
0: the model's choice, since R76 says only that it is set before the first pulse (log 41). -/
def DrivePort.takeSteps (pol : StepPolarity) (n : Int) (d : DrivePort) : DrivePort :=
  { d with pulses := n.natAbs, direction := stepDirection pol n d.direction }

/-- The Motion Limiter takes its step and hands its count to the Drive Port (R63, R69, R76). -/
def limiterStep (ax : AxisSettings) (s : State) : State :=
  let l := s.limiter.step ax.vmax ax.accel s.blend.move s.coupling.g s.drive.measured
  (s.withLimiter l).withDrive (s.drive.takeSteps ax.stepPolarity l.lastSteps)

end Sys2Proof.Machine
end

