-- ==== Sys2Proof/Machine/StickShaper.lean ====
section
/-! DEFINITION. The Stick Shaper (spec/01_stick_shaping.md): the chain from peer stick values to the jog demand, and the
re-centre latch's clearing. It has no command of its own: a recompute is part of a take or of an ageing expiry. -/
namespace Sys2Proof.Machine

/-- A mapping's enable switch reads closed, or it has none (R2, R3). -/
def Mapping.enabled (m : Mapping) (c : StickContents) : Bool :=
  match m.enable with
  | none => true
  | some i => c.switches.getLsbD i

/-- The raw value x of a mapping (R2). -/
def rawValue (peers : PeerTable) (m : Mapping) : Int :=
  match peers.find m.source with
  | none => 0
  | some e =>
    match e.freshness, e.stick? with
    | .fresh, some c | .aging, some c =>
      if m.enabled c then clamp (c.values.getD m.channel 0) (-Config.fullStick) Config.fullStick else 0
    | _, _ => 0

/-- The contribution c of a mapping with raw value x (R4). -/
def contribution (m : Mapping) (x : Int) : Int := m.sign * divTrunc (x * m.gain) 256

/-- The combined deflection J (R4). -/
def combined (peers : PeerTable) (mappings : List Mapping) : Int :=
  clamp ((mappings.map fun m => contribution m (rawValue peers m)).sum) (-Config.fullStick) Config.fullStick

/-- The deadbanded value s' of J for the deadband d (R5). -/
def removeDeadband (d : Nat) (j : Int) : Int :=
  if j.natAbs ≤ d then 0
  else j.sign * divTrunc ((j.natAbs - d : Int) * Config.fullStick) (Config.fullStick - d)

/-- The shaped value s of s' for the expo e (R6). -/
def bendExpo (e : Nat) (x : Int) : Int :=
  divTrunc (x * (16 - e) * Config.fullStick + x * x.natAbs * e) (16 * Config.fullStick)

/-- The computed Vj of s for the jog speed (R7). -/
def scaleJog (vjog : Nat) (x : Int) : Int := divTrunc (x * vjog) Config.fullStick

/-- The computed jog demand: every stage from R2 to R7. -/
def jogDemand (ax : AxisSettings) (peers : PeerTable) : Int :=
  scaleJog ax.vjog (bendExpo ax.expo (removeDeadband ax.deadband (combined peers ax.mappings)))

/-- A recompute (R8): the latch clears when the computed Vj is 0 (R12). -/
def recompute (ax : AxisSettings) (s : State) : State :=
  let v := jogDemand ax s.peers
  s.withStick { computed := v, latch := s.stick.latch && v != 0 }

/-- An address is the source of a mapping (R8). -/
def AxisSettings.maps (ax : AxisSettings) (address : Nat) : Bool := ax.mappings.any fun m => m.source == address

/-- An accepted frame of an address, or a change of its entry's freshness, reaches the Stick Shaper (R8, R133, R139). -/
def stickEvent (ax : AxisSettings) (address : Nat) (s : State) : State :=
  if ax.maps address then recompute ax s else s

end Sys2Proof.Machine
end

