-- ==== Sys2Proof/Machine/BlendEngine.lean ====
section
/-! DEFINITION. The Blend Engine (spec/02_the_blend_engine.md): plans, GO and HALT, brake release, and the six stages of
a period expiry. Commands: PERIOD_EXPIRY, PARK_TIME_ELAPSED, BRAKE_SET_COMPLETE, RELEASE_COMPLETE. -/
namespace Sys2Proof.Machine

/-! ## Plans (R18 to R20) -/

/-- u of R19. -/
def planU (k n : Nat) : Nat := k * 65536 / n

/-- E of R19, from u. -/
def planE (u : Nat) : Nat := u * u * (196608 - 2 * u) / 4294967296

/-- The plan position Pp at the plan's step (R19). -/
def Plan.position (p : Plan) : Int :=
  p.p0 + divTrunc ((p.t - p.p0) * (planE (planU p.k p.n) : Nat)) 65536

/-- The plan advances one step, and stays at N (R20). -/
def Plan.advance (p : Plan) : Plan := if p.k < p.n then { p with k := p.k + 1 } else p

/-- The length of a plan for a GO's duration in ms (R18). -/
def planLength (duration : Nat) : Nat := clampNat duration 1 60000

/-- The fade rate in force for a GO's fade override (R18). -/
def fadeInForce (ax : AxisSettings) (fade : Nat) : Nat := if fade = 0 then ax.fadeRate else min fade 1024

/-- A pending plan that starts: P0 is C and k is 0 (R41). -/
def WaitingPlan.start (p : WaitingPlan) (c : Int) : Plan := ⟨c, p.t, p.n, 0, p.cue, p.f, p.late⟩

/-- The target of the preset entry a GO names, when the entry is VALID (R31, R108). -/
def PresetStore.target? (t : PresetStore) (i : Nat) : Option Int :=
  match t.table[i]? with
  | some ⟨.valid target _ _, _⟩ => some target
  | _ => none

/-- A plan starts: it is present, w and D are 0, the state is PLAY (R32, R41). -/
def beginPlan (p : Plan) (s : State) : State :=
  enterMove .play ((zeroBlend s).withBlend { (zeroBlend s).blend with plan := some p, waiting := none })

/-! ## Brake release (R41) -/

/-- The release completes, steps 1 and 2: C from S, then the pending plan, the stick or HOLD (R41). -/
def releaseInto (ax : AxisSettings) (s : State) : State :=
  let s := setCFromSetpoint ax s
  match s.blend.waiting with
  | some p => beginPlan (p.start s.blend.c) s
  | none => if s.stickActive then enterMove .jog s else enterMove .hold s

/-- The release completes (R41). -/
def completeRelease (ax : AxisSettings) (s : State) : State :=
  let s := releaseInto ax (s.withBlend { s.blend with brake := 0 })
  zeroPark (if s.interlockHolds ax then interlockStop s else s)

/-- RELEASING is entered: S, v0 and C from the measured position, the brake count from r (R33, R39, R40, R41). -/
def enterReleasing (ax : AxisSettings) (s : State) : State :=
  let s := trackSetpoint (enterMove .releasing s)
  s.withBlend { s.blend with c := s.drive.measured * Config.subCounts, brake := ax.brakeReleaseTime }

/-- An entry with a release time of 0 completes at the entry itself (R41). -/
def completeIfZero (ax : AxisSettings) (s : State) : State :=
  if s.blend.brake = 0 then completeRelease ax s else s

/-! ## GO and HALT (R31 to R34) -/

/-- Steps 1 and 2 of R32: the plan present is replaced; a stop is abandoned at the setpoint reached. -/
def leaveForGo (ax : AxisSettings) (s : State) : State :=
  match s.blend.move with
  | .play | .blend => abandon .replaced s
  | .stopping => setStopCause .none (setCFromSetpoint ax s)
  | .start | .parked | .parking | .releasing | .hold | .jog | .interlocked | .fault => s

/-- A GO that starts a plan at once (R32). -/
def goNow (ax : AxisSettings) (f : Firing) (target : Int) (s : State) : State :=
  let s := leaveForGo ax s
  post f.cue .moving .none (beginPlan
    ⟨s.blend.c, target * Config.subCounts, planLength f.duration, 0, f.cue, fadeInForce ax f.fade, f.late⟩ s)

/-- The pending plan of a GO with m expiries of the release still to run (R33). -/
def pendingPlan (ax : AxisSettings) (f : Firing) (target : Int) (m : Nat) : WaitingPlan :=
  { t := target * Config.subCounts, n := max 1 (planLength f.duration - m), cue := f.cue,
    f := fadeInForce ax f.fade, late := f.late || planLength f.duration ≤ m }

/-- The pending plan is made and MOVING posted; LATE is set when its length is clipped (R33, R45). -/
def putPending (ax : AxisSettings) (f : Firing) (target : Int) (s : State) : State :=
  let m := s.blend.brake
  let s := if planLength f.duration ≤ m then setFlag .late s else s
  post f.cue .moving .none (s.withBlend { s.blend with waiting := some (pendingPlan ax f target m) })

/-- A GO that makes a pending plan (R33). With r = 0 the release completes at the GO (R41): MOVING is posted before it, so
that an interlock's ABANDONED/FAULTED stands last. That order is the model's choice (log 33). -/
def goPending (ax : AxisSettings) (f : Firing) (target : Int) (s : State) : State :=
  match s.blend.move with
  | .releasing => putPending ax f target (abandon .replaced s)
  | _ => completeIfZero ax (putPending ax f target (enterReleasing ax s))

/-- A GO fires (R31). -/
def goCue (ax : AxisSettings) (f : Firing) (s : State) : State :=
  match s.blend.move with
  | .start | .fault => post f.cue .refused .notReady s
  | .interlocked => post f.cue .refused .interlock s
  | .stopping =>
    if s.blend.stopCause = .interlock then post f.cue .refused .interlock s
    else match s.presets.target? f.preset with
      | none => post f.cue .refused .invalidPreset s
      | some t => goNow ax f t s
  | .hold | .jog | .play | .blend =>
    match s.presets.target? f.preset with
    | none => post f.cue .refused .invalidPreset s
    | some t => goNow ax f t s
  | .parked | .parking | .releasing =>
    match s.presets.target? f.preset with
    | none => post f.cue .refused .invalidPreset s
    | some t => goPending ax f t s

/-- What a HALT does to the move state (R34). -/
def haltMove (s : State) : State :=
  match s.blend.move with
  | .jog | .play | .blend => enterMove .stopping (setStopCause .halt (abandon .stopped s))
  | .releasing => abandon .stopped s
  | .hold | .stopping | .interlocked | .parking | .parked | .start | .fault => s

/-- A HALT fires: the stop, the latch, the armed list emptied, DONE (R34, R124). -/
def haltCue (cue : CueId) (s : State) : State :=
  let s := setLatch (haltMove s)
  post cue .done .none (s.withSched { s.sched with armed := [] })

/-! ## The six stages (R21 to R30) -/

/-- Stage 1: the plan advances in PLAY and BLEND (R20). -/
def stagePlan (s : State) : State :=
  match s.blend.move with
  | .play | .blend => s.withBlend { s.blend with plan := s.blend.plan.map Plan.advance }
  | _ => s

/-- The weight after one period with fade rate f (R22). -/
def fadeWeight (active : Bool) (f w : Nat) : Nat := if active then min Config.fullWeight (w + f) else w - f

/-- Stage 2: the weight, in MIX mode, in PLAY and BLEND (R22). -/
def stageWeight (ax : AxisSettings) (s : State) : State :=
  match ax.mode, s.blend.move, s.blend.plan with
  | .mix, .play, some p | .mix, .blend, some p =>
    s.withBlend { s.blend with w := fadeWeight s.stickActive p.f s.blend.w }
  | _, _, _ => s

/-- An addition that a direction lock forbids (R23, R26). -/
def DrivePort.locks (d : DrivePort) (v : Int) : Bool := (d.lowLock && v < 0) || (d.highLock && 0 < v)

/-- Stage 3: the jog stream in BLEND (R23), the trim in ADD mode in PLAY (R24). -/
def stageStream (ax : AxisSettings) (s : State) : State :=
  let v := s.presentedVj
  match s.blend.move, ax.mode with
  | .blend, _ =>
    s.withBlend { s.blend with pj := ax.limit (if s.drive.locks v then s.blend.pj else s.blend.pj + v) }
  | .play, .add => s.withBlend { s.blend with d := s.blend.d + divTrunc (v * ax.trimScale) 1024 }
  | _, _ => s

/-- The plan position at the present step; 0 where no plan is present. -/
def BlendEngine.planPosition (b : BlendEngine) : Int :=
  match b.plan with
  | some p => p.position
  | none => 0

/-- C before the clamp of stage 4 (R25). -/
def computeC (b : BlendEngine) (vj measured : Int) : Int :=
  match b.move with
  | .hold | .stopping | .interlocked | .parking | .releasing => b.c
  | .jog => b.c + vj
  | .play => b.planPosition + b.d
  | .blend => divFloor (b.planPosition * (1024 - b.w) + b.pj * b.w) 1024
  | .start | .parked | .fault => measured * Config.subCounts

/-- The end-stop direction lock: a C beyond the previous C in a locked direction is replaced by the previous C; the
previous C is taken within the configured limits, so that R25's law holds beside R26 (log 14). -/
def lockC (ax : AxisSettings) (d : DrivePort) (prevC c : Int) : Int :=
  let p := ax.limit prevC
  let c := if d.lowLock then max c p else c
  if d.highLock then min c p else c

/-- Stage 4: C, clamped and locked in the servo-active states; the trim is reset from it (R25, R26). -/
def stageC (ax : AxisSettings) (s : State) : State :=
  let c := computeC s.blend s.presentedVj s.drive.measured
  if s.blend.move.servoActive then
    let c := lockC ax s.drive s.blend.prevC (ax.limit c)
    if s.blend.move = .play ∧ ax.mode = .add then
      s.withBlend { s.blend with c := c, d := c - s.blend.planPosition }
    else setC c s
  else setC c s

/-- Arrival (R28). -/
def arrive (s : State) : State :=
  match s.blend.plan with
  | some p => post p.cue .arrived .none (enterHold (s.withBlend { s.blend with d := 0, plan := none }))
  | none => s

/-- Takeover (R29): from PLAY the jog stream and C go back to the previous C (within the limits, log 14). -/
def takeover (ax : AxisSettings) (s : State) : State :=
  let b := s.blend
  let s := match b.move with
    | .play => s.withBlend { b with pj := b.prevC, c := ax.limit b.prevC }
    | _ => s.withBlend { b with c := b.pj }
  enterMove .jog (setFlag .takeover (abandon .takenOver s))

/-- PLAY passes to BLEND, the jog stream starting from the previous C (R27). -/
def enterBlend (s : State) : State := enterMove .blend (s.withBlend { s.blend with pj := s.blend.prevC })

/-- STOPPING ends at rest (R35). -/
def endStop (ax : AxisSettings) (s : State) : State :=
  let s := zeroPark (setCFromSetpoint ax s)
  if s.blend.stopCause = .interlock then enterMove .interlocked s
  else enterMove .hold (setStopCause .none s)

/-- PARKING is entered (R38). -/
def enterParking (ax : AxisSettings) (s : State) : State :=
  enterMove .parking (s.withBlend { s.blend with brake := ax.brakeSetTime })

/-- The park count of an expiry in HOLD, and PARKING when it reaches the park time (R38). -/
def countPark (ax : AxisSettings) (s : State) : State :=
  let n := if s.atRest then s.blend.park + 1 else 0
  let s := s.withBlend { s.blend with park := n }
  if ax.parkTime ≠ 0 ∧ ax.parkTime * 1000 ≤ n then enterParking ax s else s

/-- The plan has taken its last step (R27). -/
def BlendEngine.planDone (b : BlendEngine) : Bool := b.plan.any fun p => p.k == p.n

/-- Stage 5 in HOLD (R27). -/
def stageHold (ax : AxisSettings) (s : State) : State :=
  if s.interlockHolds ax then interlockStop s
  else if s.stickActive then enterMove .jog (zeroPark s)
  else countPark ax s

/-- Stage 5 in JOG (R27). -/
def stageJog (ax : AxisSettings) (s : State) : State :=
  if s.interlockHolds ax then interlockStop s
  else if !s.stickActive && s.atRest then enterHold s
  else s

/-- Stage 5 in PLAY (R27). -/
def stagePlay (ax : AxisSettings) (s : State) : State :=
  if s.interlockHolds ax then interlockStop s
  else if ax.mode = .mix ∧ s.blend.w = Config.fullWeight then takeover ax s
  else if ax.mode = .mix ∧ 0 < s.blend.w then enterBlend s
  else if s.blend.planDone && s.atRest then arrive s
  else s

/-- Stage 5 in BLEND (R27). -/
def stageBlend (ax : AxisSettings) (s : State) : State :=
  if s.interlockHolds ax then interlockStop s
  else if s.blend.w = Config.fullWeight then takeover ax s
  else if s.blend.w = 0 then enterMove .play s
  else s

/-- Stage 5 in STOPPING (R27, R35). -/
def stageStopping (ax : AxisSettings) (s : State) : State :=
  let s := if s.interlockHolds ax then setStopCause .interlock s else s
  if s.limiter.v0 = 0 then endStop ax s else s

/-- Stage 5 in INTERLOCKED (R37). -/
def stageInterlocked (ax : AxisSettings) (s : State) : State :=
  if s.interlockHolds ax then s else enterHold (setStopCause .none s)

/-- Stage 5 in PARKED (R40). -/
def stageParked (ax : AxisSettings) (s : State) : State :=
  if s.stickActive then completeIfZero ax (enterReleasing ax s) else s

/-- Stage 5 in PARKING (R39). -/
def stageParking (ax : AxisSettings) (s : State) : State :=
  if s.stickActive then completeIfZero ax (enterReleasing ax s)
  else
    let s := s.withBlend { s.blend with brake := s.blend.brake - 1 }
    if s.blend.brake = 0 then enterMove .parked s else s

/-- Stage 5 in RELEASING (R41). -/
def stageReleasing (ax : AxisSettings) (s : State) : State :=
  let s := s.withBlend { s.blend with brake := s.blend.brake - 1 }
  if s.blend.brake = 0 then completeRelease ax s else s

/-- Stage 5: the first transition whose condition holds (R27). -/
def stageMove (ax : AxisSettings) (s : State) : State :=
  match s.blend.move with
  | .hold => stageHold ax s
  | .jog => stageJog ax s
  | .play => stagePlay ax s
  | .blend => stageBlend ax s
  | .stopping => stageStopping ax s
  | .interlocked => stageInterlocked ax s
  | .parked => stageParked ax s
  | .parking => stageParking ax s
  | .releasing => stageReleasing ax s
  | .start | .fault => s

/-- The C of stage 6: locked in the servo-active states, and the previous C with it (R26, R30). -/
def handC (ax : AxisSettings) (s : State) : State :=
  let c := if s.blend.move.servoActive then lockC ax s.drive s.blend.prevC s.blend.c else s.blend.c
  s.withBlend { s.blend with c := c, prevC := c }

/-- Stage 6: C to the Coupling Unit, G to the Motion Limiter, steps to the Drive Port (R30, R54, R63). -/
def handOver (ax : AxisSettings) (s : State) : State := limiterStep ax (formTarget ax (handC ax s))

/-- The stages before the transitions of stage 5 (R21). -/
def stagesToC (ax : AxisSettings) (s : State) : State :=
  stageC ax (stageStream ax (stageWeight ax (stagePlan s)))

/-- A period expiry of an axis station with a good record (R21). -/
def axisPeriod (ax : AxisSettings) (s : State) : State := handOver ax (stageMove ax (stagesToC ax s))

/-- A period expiry before a record is found good: START's C and setpoint track the measured position, no G is formed
(R17, R46, R63). -/
def barePeriod (s : State) : State :=
  let c := s.drive.measured * Config.subCounts
  let s := trackSetpoint (s.withBlend { s.blend with c := c, prevC := c })
  s.withLimiter { s.limiter with lastSteps := 0 }

/-- A period expiry (R21); the Blend Engine of a hand station holds its reset values (R72). -/
def periodExpiry (s : State) : State :=
  match s.record with
  | none => barePeriod s
  | some _ =>
    match s.axis? with
    | some ax => axisPeriod ax s
    | none => s

/-! ## Commands -/

/-- PERIOD_EXPIRY (R21). -/
def execPeriodExpiry (s : State) : Host.Outcome State Fault Refusal := whenRunning s periodExpiry

/-- The next expiry takes the axis from HOLD to PARKING (R27, R38). -/
def State.parkDue (s : State) : Bool :=
  match s.axis?, s.blend.move with
  | some ax, .hold =>
    !s.interlockHolds ax && !s.stickActive && s.atRest && ax.parkTime != 0 &&
      decide (ax.parkTime * 1000 ≤ s.blend.park + 1)
  | _, _ => false

/-- PARK_TIME_ELAPSED (R38): the period expiry at which the park count reaches the park time (log 3). -/
def execParkTimeElapsed (s : State) : Host.Outcome State Fault Refusal := whenDue s.parkDue s periodExpiry

/-- The next expiry takes the axis from PARKING to PARKED (R39). -/
def State.brakeSetDue (s : State) : Bool :=
  match s.axis?, s.blend.move with
  | some _, .parking => !s.stickActive && decide (s.blend.brake ≤ 1)
  | _, _ => false

/-- BRAKE_SET_COMPLETE (R39): the period expiry at which the brake count reaches 0 in PARKING (log 3). -/
def execBrakeSetComplete (s : State) : Host.Outcome State Fault Refusal := whenDue s.brakeSetDue s periodExpiry

/-- The next expiry completes the brake release (R41). -/
def State.releaseDue (s : State) : Bool :=
  match s.axis?, s.blend.move with
  | some _, .releasing => decide (s.blend.brake ≤ 1)
  | _, _ => false

/-- RELEASE_COMPLETE (R41): the period expiry at which the brake count reaches 0 in RELEASING (log 3). -/
def execReleaseComplete (s : State) : Host.Outcome State Fault Refusal := whenDue s.releaseDue s periodExpiry

end Sys2Proof.Machine
end

