-- ==== Sys2Proof/Machine/DrivePort.lean ====
section
/-! DEFINITION. The Drive Port (spec/05_drive_port_and_faults.md): position reads, the following-error monitor, the
two-sample input filter, the end of START. Commands: DRIVE_PORT_TIMER_EXPIRY, POSITION_READ_COMPLETE,
STEP_PULSE_EMITTED. -/
namespace Sys2Proof.Machine

/-- The Drive Port works: not in a hand station with a good record (R96). -/
def State.driveWorks (s : State) : Bool := s.record.isNone || s.axis?.isSome

/-! ## The position line (R78 to R82) -/

/-- A failed read (R78, R79). -/
def DrivePort.readFailed (d : DrivePort) : DrivePort :=
  { d with lastRead := .failed, failureRun := min 255 (d.failureRun + 1) }

/-- A good read (R78). -/
def DrivePort.readGood (position : Int) (d : DrivePort) : DrivePort :=
  { d with measured := position, lastRead := .good, failureRun := 0 }

/-- The following error exceeds its limit (R81). -/
def followingExceeded (limit : Nat) (setpoint measured : Int) : Bool :=
  decide (limit < (divFloor setpoint Config.subCounts - measured).natAbs)

/-- The following-error comparison of a good read (R81). The run goes to 0 only where R81 sets it, at a good read outside
the servo-active states or at a fault entry: with no good read between, as when PARKING is left at once by a release time
of 0, it stands at the next entry, although R81 calls it 0 at every entry. That is the model's choice (log 35). -/
def compareFollowing (s : State) : State :=
  match s.axis?, s.blend.move.servoActive with
  | some ax, true =>
    let run := if followingExceeded ax.feLimit s.limiter.setpoint s.drive.measured
      then min 255 (s.drive.followingRun + 1) else 0
    let s := s.withDrive { s.drive with followingRun := run }
    if ax.feTime ≤ run then raise .following s else s
  | _, _ => s.withDrive { s.drive with followingRun := 0 }

/-- A read of the position line ends (R78, R79, R81). -/
def positionRead (idle : Bool) (data : BitVec 24) (error : Bool) (s : State) : State :=
  if idle && !error then compareFollowing (s.withDrive (s.drive.readGood data.toInt))
  else
    let s := s.withDrive s.drive.readFailed
    if s.drive.failureRun = Config.feedbackRun then raise .feedback s else s

/-- POSITION_READ_COMPLETE (R78). -/
def execPositionReadComplete (idle : Bool) (data : BitVec 24) (error : Bool) (s : State) :
    Host.Outcome State Fault Refusal :=
  whenDue s.driveWorks s (positionRead idle data error)

/-! ## The inputs (R83 to R85, R93) -/

/-- The level that is ACTIVE for a polarity; before a record is found good no polarity is applied and a high level is
coded as ACTIVE (R75, R83, log 17). -/
def activeLevel (p : Option Polarity) (level : Bool) : Bool :=
  match p with
  | some .activeLow => !level
  | some .activeHigh | none => level

/-- The state a sample shows. -/
def sampleState (active : Bool) : InputState := if active then .active else .inactive

/-- One sample: the filtered state changes when it agrees with the sample before and differs from the state (R83). -/
def InputFilter.take (active : Bool) (f : InputFilter) : InputFilter :=
  { state := if f.sample = some active then sampleState active else f.state, sample := some active }

/-- The filter of a line. -/
def DrivePort.input (d : DrivePort) : InputLine → InputFilter
  | .lowStop => d.low
  | .highStop => d.high
  | .amplifier => d.amp

/-- The filter of a line, replaced. -/
def DrivePort.setInput (d : DrivePort) (line : InputLine) (f : InputFilter) : DrivePort :=
  match line with
  | .lowStop => { d with low := f }
  | .highStop => { d with high := f }
  | .amplifier => { d with amp := f }

/-- The cause an input raises when it goes active (R84, R85). -/
def lineCause : InputLine → FaultCause
  | .lowStop => .endstopLow
  | .highStop => .endstopHigh
  | .amplifier => .drive

/-- An end stop that goes inactive clears its lock (R84, R93). -/
def DrivePort.unlock (d : DrivePort) : InputLine → DrivePort
  | .lowStop => { d with lowLock := false }
  | .highStop => { d with highLock := false }
  | .amplifier => d

/-- One input takes its sample: going active raises its cause, going inactive from ACTIVE clears its lock
(R83 to R85, R93). -/
def sampleInput (line : InputLine) (active : Bool) (s : State) : State :=
  let before := (s.drive.input line).state
  let f := (s.drive.input line).take active
  let s := s.withDrive (s.drive.setInput line f)
  if f.state = before then s
  else if f.state = .active then raise (lineCause line) s
  else if before = .active then s.withDrive (s.drive.unlock line)
  else s

/-- The order in which the three inputs are taken, by the one taken first (R90, log 11). -/
def inputOrder : InputLine → List InputLine
  | .lowStop => [.lowStop, .highStop, .amplifier]
  | .highStop => [.highStop, .amplifier, .lowStop]
  | .amplifier => [.amplifier, .lowStop, .highStop]

/-- The polarity configured for a line; the amplifier-fault input has none (R75). -/
def State.polarity (s : State) : InputLine → Option Polarity
  | .lowStop => s.axis?.map fun ax => ax.lowPolarity
  | .highStop => s.axis?.map fun ax => ax.highPolarity
  | .amplifier => none

/-- The sample of a line from the levels. -/
def lineLevel (low high amp : Bool) : InputLine → Bool
  | .lowStop => low
  | .highStop => high
  | .amplifier => amp

/-- The inputs are sampled at one expiry (R83). -/
def sampleInputs (low high amp : Bool) (first : InputLine) (s : State) : State :=
  (inputOrder first).foldl
    (fun t line => sampleInput line (activeLevel (s.polarity line) (lineLevel low high amp line)) t) s

/-- DRIVE_PORT_TIMER_EXPIRY (R83): the inputs are sampled and a position read begins, whose outcome comes as
POSITION_READ_COMPLETE (R78, log 22). -/
def execDrivePortTimerExpiry (low high amp : Bool) (first : InputLine) (s : State) :
    Host.Outcome State Fault Refusal :=
  whenDue s.driveWorks s (sampleInputs low high amp first)

/-! ## The end of START (R86) -/

/-- The conditions that stand at the end of START, in order (R86). -/
def DrivePort.standing (d : DrivePort) : List FaultCause :=
  (if Config.feedbackRun ≤ d.failureRun then [.feedback] else []) ++
  (if d.low.state = .active then [.endstopLow] else []) ++
  (if d.high.state = .active then [.endstopHigh] else []) ++
  (if d.amp.state = .active then [.drive] else [])

/-- PARKED at the end of the announce window, and each standing condition taken as raised (R17, R86, R187). -/
def endOfStart (s : State) : State :=
  s.drive.standing.foldl (fun t c => raise c t) (enterMove .parked s)

/-! ## Steps (R76) -/

/-- STEP_PULSE_EMITTED (R76). -/
def execStepPulseEmitted (s : State) : Host.Outcome State Fault Refusal :=
  whenDue (0 < s.drive.pulses) s fun s => s.withDrive { s.drive with pulses := s.drive.pulses - 1 }

end Sys2Proof.Machine
end

