-- ==== Sys2Proof/Machine/PresetStore.lean ====
section
/-! DEFINITION. The Preset Store (spec/06_preset_store.md): the load of a page, STORE, the write-back list and its
writer. Commands: SENDING_END, PROGRAMMING_ACKNOWLEDGED, PROGRAMMING_TIMEOUT. -/
namespace Sys2Proof.Machine

/-! ## Pages (R98, R99, R191) -/

/-- The ten bytes of a page that its CRC-16 covers, from a VALID entry's fields (R98). -/
def pageBody (target : Int) (storedAt : Option Timecode) (storedBy : Option CueId) : List Byte :=
  0xA6#8 :: (bytesOf target 3 ++
    (match storedAt with
      | some t => bytesOf t.hh 1 ++ bytesOf t.mm 1 ++ bytesOf t.ss 1 ++ bytesOf t.ff 1
      | none => [0xFF, 0xFF, 0xFF, 0xFF]) ++
    (match storedBy with
      | some c => bytesOf c.source 1 ++ bytesOf c.number 1
      | none => [0xFF, 0xFF]))

/-- The page the writer sends for an entry (R98); only VALID entries are written, and any other has an EMPTY page. -/
def PresetEntry.page (e : PresetEntry) : List Byte :=
  match e.body with
  | .valid target storedAt storedBy =>
    let body := pageBody target storedAt storedBy
    body ++ bytesOf (crc16 body).toNat 2 ++ [0xFF, 0xFF, 0xFF, 0xFF]
  | .empty | .invalid => List.replicate Config.pageSize 0xFF

/-- A timecode whose fields are in range at a frame rate (R99, R113, R119, R175). -/
def Timecode.inRange (fps : Nat) (t : Timecode) : Bool :=
  decide (t.hh ≤ 23) && decide (t.mm ≤ 59) && decide (t.ss ≤ 59) && decide (t.ff < fps)

/-- Four bytes read as a timecode. -/
def readTimecode (get : Nat → Byte) (o : Nat) : Timecode :=
  ⟨(get o).toNat, (get (o + 1)).toNat, (get (o + 2)).toNat, (get (o + 3)).toNat⟩

/-- Stored-at of a page: present when in range (R99). -/
def pageStoredAt (fps : Nat) (page : List Byte) : Option Timecode :=
  let t := readTimecode (byteAt page 0xFF) 4
  if t.inRange fps then some t else none

/-- Stored-by of a page: present when its source is an address (R99). -/
def pageStoredBy (page : List Byte) : Option CueId :=
  let source := (byteAt page 0xFF 8).toNat
  if 1 ≤ source ∧ source ≤ 62 then some ⟨source, (byteAt page 0xFF 9).toNat⟩ else none

/-- What a page read gives an entry (R99). -/
def loadPage (fps : Nat) (page : List Byte) : PresetBody :=
  if page.all (· == 0xFF) then .empty
  else if page.head? = some 0xA6#8 ∧ (crc16 (page.take 10)).toNat = readNat (byteAt page 0xFF) 10 2 then
    .valid (readInt (byteAt page 0xFF) 1 3) (pageStoredAt fps page) (pageStoredBy page)
  else .invalid

/-! ## The table -/

/-- The entry at an index; an index past the table reads EMPTY. -/
def PresetStore.entry (t : PresetStore) (i : Nat) : PresetEntry := t.table.getD i ⟨.empty, .saved⟩

/-- An entry replaced. -/
def PresetStore.setEntry (t : PresetStore) (i : Nat) (e : PresetEntry) : PresetStore :=
  { t with table := t.table.set i e }

/-- An entry's save state changes. -/
def PresetStore.setSave (t : PresetStore) (i : Nat) (v : SaveState) : PresetStore :=
  t.setEntry i { t.entry i with save := v }

/-! ## The writer (R103 to R107) -/

/-- An attempt begins: the page is built from the entry as it stands (R104, R107). -/
def PresetStore.attempt (t : PresetStore) (i n : Nat) : PresetStore :=
  { t with inFlight := some ⟨i, n, .sending, (t.entry i).page⟩ }

/-- The idle writer starts on the head of the list (R104). -/
def PresetStore.startWriter (t : PresetStore) : PresetStore :=
  match t.inFlight, t.writeBack with
  | none, i :: rest => ({ t with writeBack := rest }.setSave i .writing).attempt i 1
  | _, _ => t

/-- The in-flight record ends with this save state for an entry that was not re-stored; then the writer goes on
(R106, R107). -/
def PresetStore.finish (t : PresetStore) (f : InFlight) (v : SaveState) : PresetStore :=
  let v := if t.writeBack.contains f.index then SaveState.waiting else v
  { t.setSave f.index v with inFlight := none }.startWriter

/-- A failed attempt: the next attempt, or after the third the writer gives up and STORE_FAILED is set (R107). -/
def attemptFailed (f : InFlight) (s : State) : State :=
  if f.attempt < Config.writeAttempts then s.withPresets (s.presets.attempt f.index (f.attempt + 1))
  else setFlag .storeFailed (s.withPresets (s.presets.finish f .unsaved))

/-- SENDING ends (R104): acknowledged, the memory commits the page; otherwise the attempt fails. -/
def sendingEnd (acknowledged : Bool) (s : State) : State :=
  match s.presets.inFlight with
  | some ⟨i, n, .sending, page⟩ =>
    if acknowledged then
      (s.withPresets { s.presets with inFlight := some ⟨i, n, .programming, page⟩ }).setCommit (some (i, page))
    else attemptFailed ⟨i, n, .sending, page⟩ s
  | _ => s

/-- A poll is acknowledged (R106): the memory holds the page. -/
def programmingDone (s : State) : State :=
  match s.presets.inFlight with
  | some ⟨i, n, .programming, page⟩ =>
    ((s.setPage i page).setCommit none).withPresets (s.presets.finish ⟨i, n, .programming, page⟩ .saved)
  | _ => s

/-- No acknowledgement within 20 ms (R106): the attempt fails, and what the memory holds there is not known (log 20). -/
def programmingFailed (s : State) : State :=
  match s.presets.inFlight with
  | some ⟨i, n, .programming, page⟩ =>
    attemptFailed ⟨i, n, .programming, page⟩ ((s.tearPage i).setCommit none)
  | _ => s

/-- SENDING_END (R104). -/
def execSendingEnd (acknowledged : Bool) (s : State) : Host.Outcome State Fault Refusal :=
  whenRunning s (sendingEnd acknowledged)

/-- PROGRAMMING_ACKNOWLEDGED (R106). -/
def execProgrammingAcknowledged (s : State) : Host.Outcome State Fault Refusal := whenRunning s programmingDone

/-- PROGRAMMING_TIMEOUT (R106). -/
def execProgrammingTimeout (s : State) : Host.Outcome State Fault Refusal := whenRunning s programmingFailed

/-! ## STORE (R100, R101, R105) -/

/-- The entry a STORE captures, and its place on the list (R101 steps 1 to 6). -/
def PresetStore.capture (t : PresetStore) (i : Nat) (target : Int) (time : Timecode) (cue : CueId) : PresetStore :=
  let t := t.setEntry i ⟨.valid target (some time) (some cue), .waiting⟩
  { t with writeBack := if t.writeBack.contains i then t.writeBack else t.writeBack ++ [i] }

/-- A STORE fires (R100, R101, R104, R105). -/
def storeCue (cue : CueId) (i : Nat) (s : State) : State :=
  if s.blend.move = .start ∨ s.blend.move = .fault then post cue .refused .notReady s
  else if Config.presetCount ≤ i then post cue .refused .invalidPreset s
  else
    post cue .done .none (s.withPresets
      (s.presets.capture i (divFloor s.blend.c Config.subCounts) s.clock.time cue).startWriter)

end Sys2Proof.Machine
end

