-- ==== Sys2Proof/Machine/SceneClock.lean ====
section
/-! DEFINITION. The Scene Clock and the Cue Scheduler (spec/07_scene_clock_and_armed_cues.md): the timecode, clock
loads, taking, arming and firing cues. Commands: SCENE_CLOCK_EXPIRY, FRAME_ADVANCE. -/
namespace Sys2Proof.Machine

/-! ## Timecode arithmetic (R111, R112) -/

/-- A timecode as a number of frames since 00:00:00:00 (R111). -/
def frameNumber (fps : Nat) (t : Timecode) : Nat := ((t.hh * 60 + t.mm) * 60 + t.ss) * fps + t.ff

/-- Frames in a day (R111). -/
def dayFrames (fps : Nat) : Nat := 86400 * fps

/-- (a - b) mod day. -/
def dayDistance (fps a b : Nat) : Nat := (((a : Int) - b) % (dayFrames fps : Int)).toNat

/-- One frame further (R112). -/
def nextFrame (fps : Nat) (t : Timecode) : Timecode :=
  if t.ff + 1 < fps then { t with ff := t.ff + 1 }
  else if t.ss + 1 < 60 then { t with ff := 0, ss := t.ss + 1 }
  else if t.mm + 1 < 60 then { t with ff := 0, ss := 0, mm := t.mm + 1 }
  else if t.hh + 1 < 24 then { t with ff := 0, ss := 0, mm := 0, hh := t.hh + 1 }
  else ⟨0, 0, 0, 0⟩

/-- One expiry of the clock's timer; the frame advances when the accumulator reaches 1000 (R112). -/
def SceneClock.tick (fps : Nat) (c : SceneClock) : SceneClock :=
  if c.acc + fps < 1000 then { c with acc := c.acc + fps }
  else { c with acc := c.acc + fps - 1000, time := nextFrame fps c.time }

/-- The expiry advances the frame (R112). -/
def SceneClock.advances (fps : Nat) (c : SceneClock) : Bool := decide (1000 ≤ c.acc + fps)

/-- The clock's position, or a stamp's, in thousandths of a frame (R111). -/
def positionOf (fps : Nat) (t : Timecode) (acc : Nat) : Nat := frameNumber fps t * 1000 + acc

/-- The distance of two positions around the day, the shorter way (R113). -/
def positionDistance (fps a b : Nat) : Nat :=
  let day : Int := dayFrames fps * 1000
  min (((a : Int) - b) % day).toNat (((b : Int) - a) % day).toNat

/-- The remaining time of an armed cue (R120). -/
def ArmedCue.remaining (fps now : Nat) (e : ArmedCue) : Nat := dayDistance fps (frameNumber fps e.start) now

/-! ## Firing (R118, R121, R124) -/

/-- A DISARM fires (R124). -/
def disarmCue (cue : CueId) (s : State) : State :=
  post cue .done .none
    (s.withSched { s.sched with armed := s.sched.armed.filter fun e => e.cue.source != cue.source })

/-- A cue fires (R118). -/
def fire (ax : AxisSettings) (f : Firing) (s : State) : State :=
  match f.kind with
  | .go => goCue ax f s
  | .halt => haltCue f.cue s
  | .store => storeCue f.cue f.preset s
  | .clear => clearCue f.cue s
  | .disarm => disarmCue f.cue s

/-- A cue fires with its late mark; a late one sets the LATE event flag (R119, R122, R127). -/
def fireMarked (ax : AxisSettings) (f : Firing) (s : State) : State :=
  fire ax f (if f.late then setFlag .late s else s)

/-- What an armed cue hands on when it fires (R118, R120). -/
def ArmedCue.firing (late : Bool) (e : ArmedCue) : Firing := ⟨e.cue, e.kind, e.preset, e.duration, e.fade, late⟩

/-- Fire every armed cue that is due, in list order, each leaving the list as it fires; a HALT or DISARM among them
acts on those after it. `n` bounds the firings (R121 to R123). -/
def fireArmed (ax : AxisSettings) (due late : ArmedCue → Bool) : Nat → State → State
  | 0, s => s
  | n + 1, s =>
    match s.sched.armed.find? due with
    | none => s
    | some e =>
      fireArmed ax due late n
        (fireMarked ax (e.firing (late e)) (s.withSched { s.sched with armed := s.sched.armed.eraseP due }))

/-- Every due armed cue fires (R121 to R123). -/
def fireAll (ax : AxisSettings) (due late : ArmedCue → Bool) (s : State) : State :=
  fireArmed ax due late s.sched.armed.length s

/-! ## The armed list (R120, R123) -/

/-- Insertion after every entry whose remaining time is not greater (R120). -/
def insertArmed (fps now : Nat) (e : ArmedCue) : List ArmedCue → List ArmedCue
  | [] => [e]
  | x :: rest =>
    if x.remaining fps now ≤ e.remaining fps now then x :: insertArmed fps now e rest else e :: x :: rest

/-- The list reordered by remaining time; equal ones keep their order (R123). -/
def reorder (fps now : Nat) (list : List ArmedCue) : List ArmedCue :=
  list.foldl (fun acc e => insertArmed fps now e acc) []

/-- One entry passed over by a long forward jump (R123). -/
def missArmed (s : State) (e : ArmedCue) : State := setFlag .missed (post e.cue .missed .none s)

/-! ## Clock loads (R113 to R115, R122, R123) -/

/-- What a jump from frame `old` to frame `new` does to the armed list (R122, R123). -/
def afterJump (ax : AxisSettings) (fps old new : Nat) (s : State) : State :=
  let d := dayDistance fps new old
  let passed := fun e : ArmedCue =>
    let r := e.remaining fps old
    decide (0 < r) && decide (r ≤ d)
  if d ≤ 2 * fps then fireAll ax passed (fun e => frameNumber fps e.start != new) s
  else if d ≤ 43200 * fps then
    (s.sched.armed.filter passed).foldl missArmed
      (s.withSched { s.sched with armed := s.sched.armed.filter fun e => !passed e })
  else fireAll ax (fun e => frameNumber fps e.start == new) (fun _ => false) s

/-- The clock is loaded, and the Cue Scheduler acts on the jump (R113, R115, R122, R123). -/
def loadClock (fps : Nat) (st : Stamp) (s : State) : State :=
  let old := frameNumber fps s.clock.time
  let new := frameNumber fps st.time
  let s := s.withClock { s.clock with time := st.time, acc := st.acc }
  match s.axis? with
  | none => s
  | some ax =>
    if dayDistance fps new old = 0 then s
    else
      let s := afterJump ax fps old new s
      s.withSched { s.sched with armed := reorder fps new s.sched.armed }

/-- A stamp with every field in range (R113). -/
def Stamp.inRange (fps : Nat) (st : Stamp) : Bool := st.time.inRange fps && decide (st.acc ≤ 999)

/-- The clock source's stamp is compared with the clock, loaded when they differ by more than two periods, and the
synced flag set (R113, R114). -/
def compareStamp (fps : Nat) (st : Stamp) (s : State) : State :=
  if st.inRange fps then
    let s' := s.withClock { s.clock with synced := true }
    if positionDistance fps (positionOf fps st.time st.acc) (positionOf fps s.clock.time s.clock.acc) ≤ 2 * fps then s'
    else loadClock fps st s'
  else s

/-! ## Taking a cue (R117 to R120) -/

/-- The cue kind of a code (R190); a code above 4 is no kind. -/
def cueKindOf : Nat → Option CueKind
  | 0 => some .go
  | 1 => some .halt
  | 2 => some .store
  | 3 => some .clear
  | 4 => some .disarm
  | _ => none

/-- The cue number passes the duplicate window (R117 step 4). -/
def cueWindow (last : Option Nat) (number : Nat) : Bool :=
  match last with
  | none => true
  | some l =>
    let d := (((number : Int) - l) % 256).toNat
    decide (1 ≤ d) && decide (d ≤ 127)

/-- The cue is armed, or refused when the list is full (R119, R120). -/
def armCue (fps now : Nat) (e : ArmedCue) (s : State) : State :=
  if Config.armedMax ≤ s.sched.armed.length then post e.cue .refused .listFull s
  else post e.cue .armed .none (s.withSched { s.sched with armed := insertArmed fps now e s.sched.armed })

/-- A timed cue is examined against the clock (R119). -/
def scheduleCue (ax : AxisSettings) (fps : Nat) (e : ArmedCue) (s : State) : State :=
  let now := frameNumber fps s.clock.time
  let start := frameNumber fps e.start
  let a := dayDistance fps start now
  let behind := dayDistance fps now start
  if !e.start.inRange fps then post e.cue .refused .tooFar s
  else if !s.clock.synced then post e.cue .refused .unsynced s
  else if a = 0 then fireMarked ax (e.firing false) s
  else if behind ≤ 2 then fireMarked ax (e.firing true) s
  else if a ≤ 3600 * fps then armCue fps now e s
  else if a ≤ 43200 * fps then post e.cue .refused .tooFar s
  else setFlag .missed (post e.cue .missed .none s)

/-- The cue is taken: the window moves, an armed entry of the same cue leaves the list (R117 step 5). -/
def noteTaken (entry : PeerEntry) (cue : CueId) (s : State) : State :=
  (s.withPeers (s.peers.put { entry with lastCue := some cue.number })).withSched
    { s.sched with armed := s.sched.armed.filter fun e => e.cue != cue }

/-- A CUE frame reaches an axis station's Cue Scheduler (R117 to R119). -/
def takeCue (r : Record) (ax : AxisSettings) (source : Nat) (c : CueContents) (s : State) : State :=
  match c.scope.getLsbD r.address, cueKindOf c.kind, s.peers.find source with
  | true, some kind, some entry =>
    if cueWindow entry.lastCue c.number then
      let e : ArmedCue := ⟨⟨source, c.number⟩, kind, c.preset, c.duration, c.fade, c.start⟩
      let s := noteTaken entry e.cue s
      if c.timed = 0 then fireMarked ax (e.firing false) s else scheduleCue ax r.fps e s
    else s
  | _, _, _ => s

/-! ## Commands -/

/-- The armed cues due at the clock's timecode fire (R121). -/
def fireDue (s : State) (fps : Nat) : State :=
  match s.axis? with
  | none => s
  | some ax => fireAll ax (fun e => frameNumber fps e.start == frameNumber fps s.clock.time) (fun _ => false) s

/-- An expiry of the Scene Clock's timer: it counts, and a frame advance fires what is due (R112, R121); the clock does
not advance before a record is found good (R111). -/
def clockExpiry (s : State) : State :=
  match s.record with
  | none => s
  | some r =>
    let s' := s.withClock (s.clock.tick r.fps)
    if s.clock.advances r.fps then fireDue s' r.fps else s'

/-- SCENE_CLOCK_EXPIRY (R112). -/
def execSceneClockExpiry (s : State) : Host.Outcome State Fault Refusal := whenRunning s clockExpiry

/-- The next expiry of the clock's timer advances the frame (R112). -/
def State.advanceDue (s : State) : Bool := s.record.any fun r => s.clock.advances r.fps

/-- FRAME_ADVANCE (R121): the expiry of the clock's timer at which the accumulator passes 1000 (log 3). -/
def execFrameAdvance (s : State) : Host.Outcome State Fault Refusal := whenDue s.advanceDue s clockExpiry

end Sys2Proof.Machine
end

