-- ==== Sys2Proof/Machine/PeerTable.lean ====
section
/-! DEFINITION. The Intake and the Peer Table (spec/08_intake_and_the_peer_table.md): the take of one record, sequence
acceptance, ANNOUNCE and the roster, ageing. Commands: INTAKE_TAKE, AGEING_EXPIRY, ENTRY_BECOMES_AGING,
ENTRY_BECOMES_STALE. -/
namespace Sys2Proof.Machine

/-! ## Acceptance (R129, R132, R133) -/

/-- A frame of sequence `seq` is accepted by the entry (R132). -/
def PeerEntry.accepts (e : PeerEntry) (seq : Nat) : Bool :=
  match e.lastSequence, e.freshness with
  | none, _ | _, .silent | _, .stale => true
  | some l, .fresh | some l, .aging =>
    let d := (((seq : Int) - l) % 256).toNat
    decide (1 ≤ d) && decide (d ≤ 127)

/-- The entry after an accepted frame (R133). -/
def PeerEntry.accepted (e : PeerEntry) (r : RingRecord) (c : PeerContents) : PeerEntry :=
  { e with lastSequence := some r.sequence, contents := some c, stamp := some (readStamp r.payload),
           heardAt := some r.arrival, age := 0, freshness := .fresh }

/-- The station's clock source is this address (R113). -/
def State.clockSourceIs (s : State) (address : Nat) : Bool := s.record.any fun r => r.clockSource == some address

/-- The station's frame rate. -/
def State.fps (s : State) : Nat :=
  match s.record with
  | some r => r.fps
  | none => 0

/-- The Stick Shaper and the Coupling Unit of an axis station are handed an acceptance (R133). -/
def handAcceptance (e : PeerEntry) (s : State) : State :=
  match s.axis? with
  | none => s
  | some ax => couplingAccepted ax e (stickEvent ax e.address s)

/-- The Scene Clock is handed an acceptance of the clock source (R113, R133). -/
def handStamp (e : PeerEntry) (s : State) : State :=
  match s.clockSourceIs e.address, e.stamp with
  | true, some st => compareStamp s.fps st s
  | _, _ => s

/-- The readers of an accepted entry are handed it (R133). A load of the clock may fire a HALT or a CLEAR that sets the
re-centre latch, before or after the Stick Shaper's recompute (R13): the command says which comes first (log 12). -/
def handAccepted (clockFirst : Bool) (e : PeerEntry) (s : State) : State :=
  if clockFirst then handAcceptance e (handStamp e s) else handStamp e (handAcceptance e s)

/-- A STICK or STATE frame reaches the Peer Table (R129, R132, R133). -/
def takePeriodic (clockFirst : Bool) (kind : PeerKind) (c : PeerContents) (r : RingRecord) (s : State) : State :=
  match s.peers.find r.source with
  | none => s
  | some e =>
    if e.kind = kind ∧ e.accepts r.sequence then
      let e := e.accepted r c
      handAccepted clockFirst e (s.withPeers (s.peers.put e))
    else s

/-! ## Changes of freshness (R138 to R140) -/

/-- The Scene Clock is handed a change into STALE of its clock source (R114, R139). -/
def clockChanged (e : PeerEntry) (s : State) : State :=
  if e.freshness = .stale ∧ s.clockSourceIs e.address then s.withClock { s.clock with synced := false } else s

/-- A change of freshness is handed to the blocks that depend on the entry (R139). -/
def handChange (e : PeerEntry) (s : State) : State :=
  let s := match s.axis? with
    | none => s
    | some ax =>
      let s := if e.kind = .stick then stickEvent ax e.address s else s
      couplingChanged ax e s
  clockChanged e s

/-- The event flag of a passage into STALE, in axis role (R140). -/
def staleFlag (e : PeerEntry) (s : State) : State :=
  match s.axis? with
  | none => s
  | some ax =>
    let s := if e.kind = .stick then setFlag .sourceLost s else s
    if ax.follow = some e.address ∨ ax.guard = some e.address then setFlag .partnerLost s else s

/-- The entry's freshness changes to AGING or STALE and the change is handed on (R138 to R140). -/
def changeFreshness (e : PeerEntry) (f : Freshness) (s : State) : State :=
  let e := { e with freshness := f }
  let s := s.withPeers (s.peers.put e)
  handChange e (if f = .stale then staleFlag e s else s)

/-- One ageing expiry of an entry: its age (R138). -/
def PeerEntry.older (e : PeerEntry) : PeerEntry :=
  if e.freshness = .silent then e else { e with age := min 65535 (e.age + 1) }

/-- The change of freshness that an entry's age calls for (R138). -/
def PeerEntry.nextFreshness (r : Record) (e : PeerEntry) : Option Freshness :=
  match e.freshness with
  | .fresh => if r.tFresh < e.age then some .aging else none
  | .aging => if r.tStale < e.age then some .stale else none
  | .silent | .stale => none

/-- The change of one entry within an ageing expiry, if it is due (R138). -/
def ageChange (r : Record) (s : State) (address : Nat) : State :=
  match s.peers.find address with
  | none => s
  | some e =>
    match e.nextFreshness r with
    | none => s
    | some f => changeFreshness e f s

/-- The order in which the entries are examined: the addresses named come first, in the order named, the others in the
list's order (log 13). -/
def visitOrder (order addresses : List Nat) : List Nat :=
  order.foldr (fun a l => if a ∈ l then a :: l.erase a else l) addresses

/-- An ageing expiry: every age first, then each entry's change as an event of its own (R138), in the order that the
command gives (log 13). -/
def ageingExpiry (order : List Nat) (s : State) : State :=
  match s.record with
  | none => s
  | some r =>
    let aged := { s.peers with entries := s.peers.entries.map PeerEntry.older }
    (visitOrder order (s.peers.entries.map fun e => e.address)).foldl (ageChange r) (s.withPeers aged)

/-- The next ageing expiry makes the entry of this address change to `f` (R138). -/
def State.ageDue (s : State) (address : Nat) (f : Freshness) : Bool :=
  match s.record, s.peers.find address with
  | some r, some e => e.older.nextFreshness r == some f
  | _, _ => false

/-! ## ANNOUNCE and the roster (R136, R137) -/

/-- The entry after an ANNOUNCE (R136). L becomes absent, as R136's first step and the table of 8.8 say; R129's sentence
that neither ANNOUNCE nor CUE changes the last accepted sequence says otherwise, and the model does not follow it here
(log 39). -/
def PeerEntry.announced (e : PeerEntry) (arrival : Nat) : PeerEntry :=
  { e with lastSequence := none, lastCue := none, heardAt := some arrival, age := 0, freshness := .fresh }

/-- An ANNOUNCE acts on its source's entry; a change of freshness is handed on (R136). -/
def announceEntry (r : RingRecord) (s : State) : State :=
  match s.peers.find r.source with
  | none => s
  | some e =>
    let e' := e.announced r.arrival
    let s := s.withPeers (s.peers.put e')
    if e.freshness = .fresh then s else handChange e' s

/-- A roster item is written in address order, replacing the address's own (R137). -/
def insertRoster (item : RosterItem) : List RosterItem → List RosterItem
  | [] => [item]
  | x :: rest =>
    if item.address < x.address then item :: x :: rest
    else if item.address = x.address then item :: rest
    else x :: insertRoster item rest

/-- An ANNOUNCE is taken (R136, R137). -/
def takeAnnounce (r : RingRecord) (s : State) : State :=
  let s := announceEntry r s
  match s.hand? with
  | none => s
  | some _ =>
    s.withPeers { s.peers with
      roster := insertRoster ⟨r.source, readAnnounce r.payload, r.arrival⟩ s.peers.roster }

/-! ## The Intake (R128) -/

/-- A CUE frame goes to the Cue Scheduler in axis role, and is discarded in hand role (R116, R128). -/
def takeCueFrame (r : RingRecord) (s : State) : State :=
  match s.record, s.axis? with
  | some rec, some ax => takeCue rec ax r.source (readCueContents r.payload) s
  | _, _ => s

/-- A frame is handed on by its kind (R128); before a record is found good it is discarded. -/
def handOn (clockFirst : Bool) (r : RingRecord) (s : State) : State :=
  if s.record.isNone then s
  else match r.kind with
    | .stick => takePeriodic clockFirst .stick (.stick (readStick r.payload)) r s
    | .state => takePeriodic clockFirst .state (.state (readState r.payload)) r s
    | .announce => takeAnnounce r s
    | .cue => takeCueFrame r s

/-- The Intake takes the oldest record: it leaves the ring, is handed on, and the take ends (R128). -/
def takeOldest (clockFirst : Bool) (s : State) : State :=
  match s.link.ring with
  | [] => s
  | r :: rest =>
    (handOn clockFirst r ((s.withLink { s.link with ring := rest }).withIntake (some r))).withIntake none

/-! ## Commands -/

/-- INTAKE_TAKE (R128). -/
def execIntakeTake (s : State) (clockFirst : Bool := false) : Host.Outcome State Fault Refusal :=
  whenRunning s (takeOldest clockFirst)

/-- AGEING_EXPIRY (R138). -/
def execAgeingExpiry (s : State) (order : List Nat := []) : Host.Outcome State Fault Refusal :=
  whenRunning s (ageingExpiry order)

/-- ENTRY_BECOMES_AGING (R138): the ageing expiry at which this entry's age passes T_fresh (log 3); its
change is taken first (log 13). -/
def execEntryBecomesAging (address : Nat) (s : State) : Host.Outcome State Fault Refusal :=
  whenDue (s.ageDue address .aging) s (ageingExpiry [address])

/-- ENTRY_BECOMES_STALE (R140): the ageing expiry at which this entry's age passes T_stale (log 3); its
change is taken first (log 13). -/
def execEntryBecomesStale (address : Nat) (s : State) : Host.Outcome State Fault Refusal :=
  whenDue (s.ageDue address .stale) s (ageingExpiry [address])

end Sys2Proof.Machine
end

