-- ==== Sys2Proof/Machine/CraneLink.lean ====
section
/-! DEFINITION. The Link Controller (spec/09_the_crane_link.md): the transmit queue, access to the line, collisions and
backoff, building the periodic frames, reception and the receive ring. Commands: PERIOD_COUNT_EXPIRY,
FRAME_PERIOD_EXPIRY, CARRIER_START, CARRIER_END, LATE_GAP, GAP_END, COLLISION, JAM_END, BACKOFF_END, ATTEMPT_COMPLETE,
START_PATTERN, END_OF_RECEIPT, BACKOFF_REGISTER_SHIFT. -/
namespace Sys2Proof.Machine

/-- The station's address: 0 until the record gives one (R154). -/
def State.address (s : State) : Nat :=
  match s.record with
  | some r => r.address
  | none => 0

/-! ## Attempts and the choice of a frame (R147, R152) -/

/-- The Scene Clock's stamp (R158). -/
def State.stampNow (s : State) : Stamp := ⟨s.clock.time, s.clock.acc⟩

/-- An attempt begins: SEND, the stamp latched, the frame on the wire, a reception abandoned, and its own carrier on the
line (R145, R152, R158, R160, log 9). -/
def beginAttempt (s : State) : State :=
  match s.link.current with
  | none => s
  | some f =>
    let f' := if f.contents.kind.stamped then { f with stamp := some s.stampNow } else f
    s.withLink { s.link with current := some f', phase := .send, wire := wireBytes s.address f s.stampNow,
                             reception := false, carrier := true, line := .busy }

/-- The current frame enters WAIT; it begins its attempt at once when the line is FREE (R152). -/
def enterWait (s : State) : State :=
  let s := s.withLink { s.link with phase := .wait, backoff := 0 }
  if s.link.line = .free then beginAttempt s else s

/-- A frame becomes current with n = 0 and round 1 (R147). -/
def makeCurrent (f : Frame) (s : State) : State :=
  enterWait (s.withLink { s.link with current := some f, attempts := 0, round := 1 })

/-- With no current frame, the oldest cue slot's frame, or else the periodic slot's, becomes current (R147). After a
completion and a SEND_CUE with the periodic slot filled, which frame is current depends on their order: the model follows
R147 there and not R157's closing sentence (log 36). -/
def chooseFrame (s : State) : State :=
  match s.link.current, s.link.cueSlots, s.link.periodic with
  | some _, _, _ => s
  | none, f :: rest, _ => makeCurrent f (s.withLink { s.link with cueSlots := rest })
  | none, [], some f => makeCurrent f (s.withLink { s.link with periodic := none })
  | none, [], none => s

/-- The current frame leaves the queue and the next is chosen (R155, R156). -/
def dropCurrent (s : State) : State :=
  chooseFrame (s.withLink { s.link with current := none, phase := .wait, attempts := 0, round := 1 })

/-- The current frame is on the wire: SEND or JAM (R147). -/
def SendPhase.onWire : SendPhase → Bool
  | .send | .jam => true
  | .wait | .backoff => false

/-- A newly built periodic frame enters the queue (R149). -/
def enqueuePeriodic (f : Frame) (s : State) : State :=
  match s.link.current with
  | none => chooseFrame (s.withLink { s.link with periodic := some f })
  | some c =>
    if c.isPeriodic && !s.link.phase.onWire then s.withLink { s.link with current := some f }
    else s.withLink { s.link with periodic := some f }

/-- A CUE frame can be taken (R150). -/
def LinkController.cueRoom (l : LinkController) : Bool :=
  l.current.isNone || decide (l.cueSlots.length < Config.cueSlots)

/-- A CUE frame is queued (R150). -/
def enqueueCue (f : Frame) (s : State) : State :=
  match s.link.current with
  | none => makeCurrent f s
  | some _ => s.withLink { s.link with cueSlots := s.link.cueSlots ++ [f] }

/-! ## Building frames (R148, R186) -/

/-- The setpoint as reported outside the part (R61, R71). -/
def MotionLimiter.reported (l : MotionLimiter) : Int := clamp l.setpoint Config.subMin Config.subMax

/-- The contents of a STATE frame built now (R71, R95, R148, R190). -/
def State.stateContents (s : State) : StateContents :=
  { move := s.blend.move.code, fault := s.drive.cause.code, measured := s.drive.measured,
    setpoint := s.limiter.reported, velocity := s.limiter.v0, weight := s.blend.w,
    source := (s.sched.report.cue.map fun c => c.source).getD 0,
    number := (s.sched.report.cue.map fun c => c.number).getD 0,
    phase := s.sched.report.phase.code, reason := s.sched.report.reason.code, flags := s.flags }

/-- The contents of the periodic frame of the station's role (R148, R169). -/
def State.periodicContents (s : State) : Contents :=
  if s.axis?.isSome then .state s.stateContents else .stick ⟨s.hand.values, s.hand.switches⟩

/-- The sequence of the next STICK or STATE build (R148). -/
def LinkController.buildSequence (l : LinkController) : Nat := l.nextSequence.getD (l.shiftReg.toNat % 256)

/-- A STICK or STATE frame with the given contents is built and enters the queue (R148, R149). -/
def buildPeriodic (contents : Contents) (s : State) : State :=
  let n := s.link.buildSequence
  let s := s.withLink { s.link with nextSequence := some ((n + 1) % 256) }
  enqueuePeriodic ⟨n, contents, none, match contents with | .state c => c.flags | _ => 0⟩ s

/-- The contents of the station's ANNOUNCE frame (R186, R190). -/
def State.announceContents (s : State) (r : Record) : AnnounceContents :=
  { role := match r.settings with | .axis _ => Role.axis.code | .hand _ => Role.hand.code,
    cause := causeNumber s.start.cause, check := s.start.checkWord.getD 0, label := r.label,
    framePeriod := r.framePeriod }

/-- An ANNOUNCE frame is built and enters the queue (R148, R186). -/
def buildAnnounce (s : State) : State :=
  match s.record with
  | none => s
  | some r => enqueuePeriodic ⟨0, .announce (s.announceContents r), none, 0⟩ s

/-- FRAME_PERIOD_EXPIRY (R148): while the frame period timer runs. -/
def execFramePeriodExpiry (s : State) : Host.Outcome State Fault Refusal :=
  whenDue s.link.periodTimer s fun s => buildPeriodic s.periodicContents s

/-! ## The line (R145, R151) -/

/-- Carrier starts (R151). -/
def LinkController.carrierOn (l : LinkController) : LinkController :=
  { l with carrier := true,
           line := match l.line with
             | .gap | .free => .busy
             | .lateGap => .lateGap
             | .busy => .busy }

/-- Carrier ends, and the gap is timed afresh (R151, R153, R156). -/
def LinkController.carrierOff (l : LinkController) : LinkController :=
  { l with carrier := false, line := .gap, gapTimer := 0 }

/-- A change of the carrier: the running part acts on it; one held in reset keeps only whether it is present, for the
start that follows (R145, R164, log 4). -/
def carrierChange (present : Bool) (running : State → State) (s : State) : Host.Outcome State Fault Refusal :=
  .next (if s.resetHold.isSome then s.withLink { s.link with carrier := present } else running s)

/-- CARRIER_START (R151). -/
def execCarrierStart (s : State) : Host.Outcome State Fault Refusal :=
  carrierChange true (fun s => s.withLink s.link.carrierOn) s

/-- CARRIER_END (R151); while this station drives the line, carrier does not end (R145, log 9). The end of a carrier that
started within LATE_GAP begins the gap afresh like any other: the model follows R151's event there, though a frame that
waited for that gap's end then waits again (log 40). -/
def execCarrierEnd (s : State) : Host.Outcome State Fault Refusal :=
  carrierChange false (fun s => if s.link.phase.onWire then s else s.withLink s.link.carrierOff) s

/-- LATE_GAP (R151). -/
def execLateGap (s : State) : Host.Outcome State Fault Refusal :=
  whenDue (s.link.line == .gap) s fun s =>
    s.withLink { s.link with line := .lateGap, gapTimer := Config.lateGapBits }

/-- The gap ends: FREE or BUSY, and a frame in WAIT begins its attempt whatever the carrier (R151, R152). -/
def gapEnds (s : State) : State :=
  let s := s.withLink { s.link with line := if s.link.carrier then .busy else .free, gapTimer := Config.gapBits }
  if s.link.phase = .wait then beginAttempt s else s

/-- GAP_END (R151). -/
def execGapEnd (s : State) : Host.Outcome State Fault Refusal := whenDue (s.link.line == .lateGap) s gapEnds

/-! ## Collision, jam, backoff (R153 to R155) -/

/-- The backoff drawn at a collision with attempt count n: the low min(n, 10) bits of the register (R154). -/
def drawBackoff (reg : BitVec 17) (n : Nat) : Nat := reg.toNat % 2 ^ min n 10

/-- A read-back mismatch (R153). -/
def collide (s : State) : State :=
  let n := s.link.attempts + 1
  s.withLink { s.link with attempts := n, drawn := drawBackoff s.link.shiftReg n, phase := .jam, wire := jamBytes }

/-- COLLISION (R153). -/
def execCollision (s : State) : Host.Outcome State Fault Refusal := whenDue (s.link.phase == .send) s collide

/-- The outcome of a CUE frame in the recent cue list (R150, R174). -/
def setOutcome (number : Nat) (v : CueStatus) (s : State) : State :=
  s.withPanel { s.panel with recent := s.panel.recent.map fun i => if i.number = number then { i with status := v } else i }

/-- The attempt limit (R155). -/
def attemptLimit (f : Frame) (s : State) : State :=
  match f.contents with
  | .cue c =>
    if s.link.round = 1 then enterWait (s.withLink { s.link with round := 2, attempts := 0 })
    else dropCurrent (setOutcome c.number .lost s)
  | .announce _ | .stick _ | .state _ => dropCurrent s

/-- The backoff begins with the drawn slots; none leaves the frame in WAIT (R153, R154). -/
def startBackoff (s : State) : State :=
  if s.link.drawn = 0 then enterWait s
  else s.withLink { s.link with phase := .backoff, backoff := s.link.drawn * Config.slotBits }

/-- Newer periodic contents move from the slot into the current periodic frame (R149). -/
def moveNewer (s : State) : State :=
  match s.link.current, s.link.periodic with
  | some c, some f => if c.isPeriodic then s.withLink { s.link with current := some f, periodic := none } else s
  | _, _ => s

/-- The jam ends (R153). At n = 16 the newer contents in the periodic slot are dropped with the current frame, so that a
frame period expiry before the jam's end and one after it leave different frames current: the model follows R155 there and
not R157's closing sentence (log 36). -/
def jamEnds (s : State) : State :=
  let s := moveNewer (s.withLink { s.link.carrierOff with wire := [] })
  match s.link.current with
  | none => s
  | some f => if Config.attemptLimit ≤ s.link.attempts then attemptLimit f s else startBackoff s

/-- JAM_END (R153). -/
def execJamEnd (s : State) : Host.Outcome State Fault Refusal := whenDue (s.link.phase == .jam) s jamEnds

/-- BACKOFF_END (R154). -/
def execBackoffEnd (s : State) : Host.Outcome State Fault Refusal := whenDue (s.link.phase == .backoff) s enterWait

/-! ## Completion (R156, R159) -/

/-- What a completed frame does by its kind (R156). -/
def completed (f : Frame) (s : State) : State :=
  match f.contents with
  | .state _ => clearCarried f.standing s
  | .cue c => setOutcome c.number .sent s
  | .announce _ | .stick _ => s

/-- The last CRC bit is read back without a mismatch (R156). -/
def completeAttempt (s : State) : State :=
  match s.link.current with
  | none => s
  | some f => dropCurrent (completed f (s.withLink { s.link.carrierOff with wire := [] }))

/-- ATTEMPT_COMPLETE (R156). -/
def execAttemptComplete (s : State) : Host.Outcome State Fault Refusal :=
  whenDue (s.link.phase == .send) s completeAttempt

/-! ## Bit times and periods (R154, R160) -/

/-- One shift of the backoff register: the highest bit is dropped, and the new lowest bit is the exclusive-or of it and
the bit three places below it (R154). -/
def shiftOnce (r : BitVec 17) : BitVec 17 := (r <<< 1) ||| (BitVec.ofBool (r.getLsbD 16 ^^ r.getLsbD 13)).setWidth 17

/-- The gap timer one bit time on; the events at 32 and 48 are LATE_GAP and GAP_END (R151, log 8). -/
def LinkController.gapTick (l : LinkController) : Nat :=
  match l.line with
  | .gap => min (Config.lateGapBits - 1) (l.gapTimer + 1)
  | .lateGap => min (Config.gapBits - 1) (l.gapTimer + 1)
  | .busy | .free => l.gapTimer

/-- One bit time (R154): the register shifts, and the counters in bit times count (log 8). -/
def bitTime (l : LinkController) : LinkController :=
  { l with shiftReg := shiftOnce l.shiftReg, gapTimer := l.gapTick, backoff := l.backoff - 1 }

/-- BACKOFF_REGISTER_SHIFT (R154). -/
def execBackoffRegisterShift (s : State) : Host.Outcome State Fault Refusal :=
  whenRunning s fun s => s.withLink (bitTime s.link)

/-- PERIOD_COUNT_EXPIRY (R160). -/
def execPeriodCountExpiry (s : State) : Host.Outcome State Fault Refusal :=
  whenRunning s fun s => s.withLink { s.link with periodCount := s.link.periodCount + 1 }

/-! ## Reception (R160 to R163) -/

/-- A start pattern begins a reception: the receiver works, this station is not on the wire, and no reception is in
progress (R160, log 24). -/
def State.patternDue (s : State) : Bool := s.record.isSome && !s.link.phase.onWire && !s.link.reception

/-- Room is reserved in the ring, or the frame is rejected whole and RX_FULL set in axis role (R163). -/
def reserveRoom (s : State) : State :=
  if s.link.ring.length < Config.ringSize then s.withLink { s.link with reception := true }
  else if s.axis?.isSome then setFlag .rxFull s
  else s

/-- START_PATTERN (R160). -/
def execStartPattern (s : State) : Host.Outcome State Fault Refusal := whenDue s.patternDue s reserveRoom

/-- The frame's bytes are received good; `none` for one that is not (R161). -/
def goodFrame (own : Nat) (bytes : List Byte) (whole : Bool) (arrival : Nat) : Option RingRecord :=
  let get := byteAt bytes 0
  let source := (get 0).toNat
  let len := (get 3).toNat
  match frameKindOf (get 1).toNat with
  | none => none
  | some kind =>
    if whole ∧ bytes.length = len + 6 ∧ (crc16 (bytes.take (len + 4))).toNat = readNat get (len + 4) 2 ∧
        len = kind.payloadLength ∧ 1 ≤ source ∧ source ≤ 62 ∧ source ≠ own then
      some ⟨source, kind, (get 2).toNat, (bytes.drop 4).take len, arrival⟩
    else none

/-- The frame passes the accept map's filter (R162). -/
def passesFilter (map : BitVec 64) (r : RingRecord) : Bool :=
  match r.kind with
  | .announce | .cue => true
  | .stick | .state => map.getLsbD (acceptIndex r.source r.kind.code)

/-- The accept map of a peer list (R162). -/
def acceptMapOf (peers : List PeerSpec) : BitVec 64 :=
  peers.foldl (fun m p => m ||| (1#64 <<< acceptIndex p.address p.kind.frameKind.code)) 0

/-- The end of receipt: the reservation ends, and a frame that is good and passes the filter becomes a record
(R161 to R163). -/
def endReceipt (bytes : List Byte) (whole : Bool) (s : State) : State :=
  let l := { s.link with reception := false }
  match goodFrame s.address bytes whole s.link.periodCount.toNat with
  | some r => s.withLink (if passesFilter l.acceptMap r then { l with ring := l.ring ++ [r] } else l)
  | none => s.withLink l

/-- END_OF_RECEIPT (R161). -/
def execEndOfReceipt (bytes : List Byte) (wholeBytes : Bool) (s : State) : Host.Outcome State Fault Refusal :=
  whenDue s.link.reception s (endReceipt bytes wholeBytes)

end Sys2Proof.Machine
end

