-- ==== Sys2Proof/Machine/HandSampler.lean ====
section
/-! DEFINITION. The Hand Sampler (spec/10_hand_role_and_panel_line.md, 10.1): calibration, fault detection and
debouncing. Command: HAND_SAMPLER_EXPIRY. -/
namespace Sys2Proof.Machine

/-- A reading outside the fault range (R167 step 2). -/
def Calibration.faulted (c : Calibration) (r : Nat) : Bool :=
  decide ((r : Int) < c.lo - Config.faultMargin) || decide ((c.hi : Int) + Config.faultMargin < r)

/-- The calibrated value of a reading inside the fault range (R167 step 3). -/
def Calibration.value (c : Calibration) (r : Nat) : Int :=
  if c.centre ≤ r then min Config.fullStick (divTrunc (((r : Int) - c.centre) * Config.fullStick) ((c.hi : Int) - c.centre))
  else -(min Config.fullStick (divTrunc (((c.centre : Int) - r) * Config.fullStick) ((c.centre : Int) - c.lo)))

/-- The channel value of a reading (R167). -/
def Calibration.channel (c : Calibration) (r : Nat) : Int := if c.faulted r then 0 else c.value r

/-- The channels in the fault set after a scan, from a channel number on; bit i is channel i (R167). -/
def faultSet (i : Nat) : List (Calibration × Nat) → BitVec 8
  | [] => 0
  | (c, r) :: rest => (if c.faulted r then 1#8 <<< i else 0) ||| faultSet (i + 1) rest

/-- A switch's history after a sample: the last four, oldest first (R168). -/
def pushSample (closed : Bool) (h : List Bool) : List Bool := (h ++ [closed]).drop (h.length + 1 - 4)

/-- The debounced state from a history (R168). -/
def debounce (h : List Bool) (standing : Bool) : Bool :=
  if h = [true, true, true, true] then true else if h = [false, false, false, false] then false else standing

/-- The switch word from the histories, from a switch number on (R168). -/
def switchWord (standing : BitVec 16) (i : Nat) : List (List Bool) → BitVec 16
  | [] => 0
  | h :: rest => (if debounce h (standing.getLsbD i) then 1#16 <<< i else 0) ||| switchWord standing (i + 1) rest

/-- The histories after a sample of the sixteen switches, from a switch number on (R168). -/
def pushSamples (closed : BitVec 16) (i : Nat) : List (List Bool) → List (List Bool)
  | [] => []
  | h :: rest => pushSample (closed.getLsbD i) h :: pushSamples closed (i + 1) rest

/-- One scan (R167, R168): the channels as one event, the switches as one event. -/
def HandSampler.scan (cals : List Calibration) (readings : List Nat) (closed : BitVec 16) (h : HandSampler) :
    HandSampler :=
  let pairs := cals.zip readings
  let history := pushSamples closed 0 h.history
  { raw := readings.map some, values := pairs.map fun p => p.1.channel p.2, faults := faultSet 0 pairs,
    history := history, switches := switchWord h.switches 0 history }

/-- A scan in hand role (R166). -/
def handScan (readings : Vector (BitVec 10) 8) (closed : BitVec 16) (s : State) : State :=
  match s.hand? with
  | none => s
  | some cals => s.withHand (s.hand.scan cals (readings.toList.map BitVec.toNat) closed)

/-- HAND_SAMPLER_EXPIRY (R167, R168). -/
def execHandSamplerExpiry (readings : Vector (BitVec 10) 8) (closed : BitVec 16) (s : State) :
    Host.Outcome State Fault Refusal :=
  whenRunning s (handScan readings closed)

end Sys2Proof.Machine
end

