-- ==== Sys2Proof/Machine/PanelLine.lean ====
section
/-! DEFINITION. The Panel Line (spec/10_hand_role_and_panel_line.md, 10.3 to 10.6; R192): the parser, the checks of a
record, the requests and their replies. Commands: PANEL_BYTE_RECEIVED, BAD_FRAME_AT_LENGTH, PARSER_TIMEOUT, REPLY_SENT,
REQUEST_UNKNOWN_KIND, SEND_CUE, SET_CLOCK, READ_CLOCK, READ_PEER, READ_ROSTER, READ_CUE, READ_PRESET, READ_SELF. -/
namespace Sys2Proof.Machine

/-! ## Requests and statuses (R172, R192) -/

inductive Request where
  | sendCue | setClock | readClock | readPeer | readRoster | readCue | readPreset | readSelf
  deriving DecidableEq, Repr

/-- The kind byte of a request (R192). -/
def Request.code : Request → Byte
  | .sendCue => 0x11
  | .setClock => 0x12
  | .readClock => 0x13
  | .readPeer => 0x14
  | .readRoster => 0x15
  | .readCue => 0x16
  | .readPreset => 0x17
  | .readSelf => 0x18

/-- The request of a kind byte (R192). -/
def requestOf (b : Byte) : Option Request :=
  [Request.sendCue, .setClock, .readClock, .readPeer, .readRoster, .readCue, .readPreset, .readSelf].find?
    fun r => r.code == b

/-- The length of a request: its kind byte and fields (R192). -/
def Request.length : Request → Nat
  | .sendCue => 20
  | .setClock => 5
  | .readClock => 1
  | .readPeer | .readRoster | .readCue | .readPreset | .readSelf => 2

inductive Status where
  | ok | badFrame | badField | busy | wrongRole | unknownPeer
  deriving DecidableEq, Repr

def Status.code : Status → Nat
  | .ok => 0
  | .badFrame => 1
  | .badField => 2
  | .busy => 3
  | .wrongRole => 4
  | .unknownPeer => 5

/-- The request's kind is served in the station's condition (R172). -/
def State.serves (s : State) (r : Request) : Bool :=
  match r, s.record with
  | .readSelf, _ => true
  | _, none => false
  | .readClock, some _ | .readPeer, some _ => true
  | .readPreset, some _ => s.axis?.isSome
  | .sendCue, some _ | .setClock, some _ | .readRoster, some _ | .readCue, some _ => s.hand?.isSome

/-! ## Items of replies (R192) -/

/-- A set or clear flag; an output that is asserted or not is coded as one (R192, log 18). -/
def boolByte (b : Bool) : List Byte := [if b then 1 else 0]

/-- An item that may be absent: a presence byte, and the item's bytes or as many of 0xFF (R192). Items that are absent
together share one presence byte, but for the last-cue report's (log 18). -/
def optionBytes {α : Type} (size : Nat) (bytes : α → List Byte) : Option α → List Byte
  | some x => 1#8 :: bytes x
  | none => 0#8 :: List.replicate size 0xFF

/-- A list of varying length: its count, then its items (R192). -/
def listBytes {α : Type} (bytes : α → List Byte) (l : List α) : List Byte :=
  bytesOf l.length 1 ++ (l.map bytes).flatten

def Freshness.code : Freshness → Nat
  | .silent => 0
  | .fresh => 1
  | .aging => 2
  | .stale => 3

/-- A partner condition: NONE, SILENT, FRESH, AGING, STALE (R46). -/
def conditionCode : Option Freshness → Nat
  | none => 0
  | some f => f.code + 1

def GuardMode.code : GuardMode → Nat
  | .inForce => 0
  | .safe => 1
  | .fixed => 2

def StopCause.code : StopCause → Nat
  | .halt => 0
  | .interlock => 1
  | .none => 2

def StartPhase.code : StartPhase → Nat
  | .loadingRecord => 0
  | .loadingPresets => 1
  | .announcing => 2
  | .running => 3
  | .badRecord => 4

def Verdict.code : Verdict → Nat
  | .waiting => 0
  | .good => 1
  | .unreadable => 2
  | .badCheck => 3
  | .badValue => 4

def LastRead.code : LastRead → Nat
  | .none => 0
  | .good => 1
  | .failed => 2

def InputState.code : InputState → Nat
  | .active => 0
  | .inactive => 1
  | .unknown => 2

def Brake.code : Brake → Nat
  | .engaged => 0
  | .released => 1

def Direction.code : Direction → Nat
  | .forward => 0
  | .reverse => 1

def SendPhase.code : SendPhase → Nat
  | .wait => 0
  | .send => 1
  | .jam => 2
  | .backoff => 3

/-- The statuses of the recent cue list, in READ_CUE and in READ_SELF section 2 alike (R192, log 18). -/
def CueStatus.code : CueStatus → Nat
  | .queued => 1
  | .sent => 2
  | .lost => 3

def PresetBody.code : PresetBody → Nat
  | .empty => 0
  | .valid _ _ _ => 1
  | .invalid => 2

def SaveState.code : SaveState → Nat
  | .saved => 0
  | .waiting => 1
  | .writing => 2
  | .unsaved => 3

def WritePhase.code : WritePhase → Nat
  | .sending => 0
  | .programming => 1

/-- One unsigned or signed number of one, two, three or four bytes. -/
def num1 (x : Int) : List Byte := bytesOf x 1
def num2 (x : Int) : List Byte := bytesOf x 2
def num3 (x : Int) : List Byte := bytesOf x 3
def num4 (x : Int) : List Byte := bytesOf x 4

/-! ## READ_CLOCK, READ_PEER, READ_ROSTER, READ_CUE, READ_PRESET (R174 to R176) -/

/-- READ_CLOCK's items (R115, R175). -/
def clockItems (r : Record) (s : State) : List Byte :=
  timecodeBytes s.clock.time ++ num2 s.clock.acc ++ boolByte s.clock.synced ++ num1 r.fps ++
  optionBytes 1 (fun a : Nat => num1 a) r.clockSource

/-- A peer's latest contents (R143). -/
def contentsBytes : PeerContents → List Byte
  | .stick c => stickBytes c
  | .state c => stateBytes c

/-- READ_PEER's items (R143). -/
def peerItems (e : PeerEntry) : List Byte :=
  num1 e.address ++ num1 e.kind.frameKind.code ++ num1 e.freshness.code ++ num2 e.age ++
  optionBytes 1 (fun l : Nat => num1 l) e.lastSequence ++ optionBytes 1 (fun c : Nat => num1 c) e.lastCue ++
  optionBytes 4 (fun h : Nat => num4 h) e.heardAt ++ optionBytes 6 stampBytes e.stamp ++
  optionBytes 18 contentsBytes e.contents

/-- One roster item's eleven bytes (R137, R192). -/
def rosterBytes (i : RosterItem) : List Byte :=
  num1 i.address ++ num1 i.announced.role ++ num1 i.announced.cause ++ num2 i.announced.check.toNat ++
  num1 i.announced.label ++ num1 i.announced.framePeriod ++ num4 i.heardAt

/-- READ_ROSTER's items: the number of items, and up to 8 from a position on (R176). -/
def rosterItems (first : Nat) (roster : List RosterItem) : List Byte :=
  num1 roster.length ++ listBytes rosterBytes ((roster.drop first).take 8)

/-- READ_CUE's item (R174); UNKNOWN is 0 (R192). -/
def cueItems (number : Nat) (recent : List RecentCue) : List Byte :=
  num1 (((recent.find? fun i => i.number == number).map fun i => i.status.code).getD 0)

/-- The target of a VALID entry. -/
def PresetBody.target? : PresetBody → Option Int
  | .valid t _ _ => some t
  | .empty | .invalid => none

/-- Stored-at of an entry. -/
def PresetBody.storedAt? : PresetBody → Option Timecode
  | .valid _ a _ => a
  | .empty | .invalid => none

/-- Stored-by of an entry. -/
def PresetBody.storedBy? : PresetBody → Option CueId
  | .valid _ _ b => b
  | .empty | .invalid => none

/-- READ_PRESET's items (R110); attempt and phase share a presence byte (log 18). -/
def presetItems (i : Nat) (t : PresetStore) : List Byte :=
  let e := t.entry i
  num1 e.body.code ++ optionBytes 3 num3 e.body.target? ++ optionBytes 4 timecodeBytes e.body.storedAt? ++
  optionBytes 2 (fun c : CueId => num1 c.source ++ num1 c.number) e.body.storedBy? ++ num1 e.save.code ++
  optionBytes 2 (fun f : InFlight => num1 f.attempt ++ num1 f.phase.code) (t.inFlight.filter fun f => f.index == i)

/-! ## READ_SELF (R177, R189) -/

/-- Section 0, the Start Controller's items (R189); a failing check of none is an absent item (log 18). -/
def stationItems (s : State) : List Byte :=
  let byte := fun x : Nat => num1 x
  (match s.record with
    | some r => num1 (match r.settings with | .axis _ => Role.axis.code | .hand _ => Role.hand.code)
    | none => [0xFF]) ++
  num1 s.address ++ optionBytes 1 byte (s.record.map fun r => r.label) ++
  optionBytes 1 byte (s.record.map fun r => r.framePeriod) ++ optionBytes 1 byte (s.record.map fun r => r.fps) ++
  num1 (causeNumber s.start.cause) ++ num1 s.start.phase.code ++ boolByte s.record.isSome ++
  num1 s.start.verdict.code ++ optionBytes 1 byte s.start.failingCheck ++ optionBytes 1 byte s.start.recordLength ++
  optionBytes 2 (fun c : CheckWord => num2 c.toNat) s.start.checkWord

/-- Section 1, the Link Controller's items (R165); the current frame's five share a presence byte (log 18). -/
def linkItems (r : Record) (l : LinkController) : List Byte :=
  optionBytes 5 (fun f : Frame => num1 f.contents.kind.code ++ num1 f.sequence ++ num1 l.phase.code ++
    num1 l.attempts ++ num1 l.round) l.current ++
  num2 (l.backoff / Config.slotBits : Nat) ++ num1 (l.backoff % Config.slotBits : Nat) ++
  boolByte l.periodic.isSome ++ num1 l.cueSlots.length ++ num1 l.ring.length ++ num4 l.periodCount.toNat ++
  num1 r.framePeriod

/-- The last-cue report (R126, R127). -/
def reportItems (c : CueReport) : List Byte :=
  optionBytes 1 (fun i : CueId => num1 i.source) c.cue ++ optionBytes 1 (fun i : CueId => num1 i.number) c.cue ++
  num1 c.phase.code ++ num1 c.reason.code

/-- One armed cue, sixteen bytes (R127, R192). -/
def armedBytes (fps now : Nat) (e : ArmedCue) : List Byte :=
  num1 e.cue.source ++ num1 e.cue.number ++ num1 e.kind.code ++ num1 e.preset ++ num2 e.duration ++ num2 e.fade ++
  timecodeBytes e.start ++ num4 (e.remaining fps now)

/-- Section 2 in axis role (R127, R177). -/
def cueSelfItems (r : Record) (s : State) : List Byte :=
  reportItems s.sched.report ++ boolByte s.clock.synced ++
  listBytes (armedBytes r.fps (frameNumber r.fps s.clock.time)) s.sched.armed

/-- Section 2 in hand role (R177), with READ_CUE's status codes (log 18). -/
def recentItems (p : PanelLine) : List Byte :=
  num1 p.nextCue ++ listBytes (fun i : RecentCue => num1 i.number ++ num1 i.status.code) p.recent

/-- The plan record's fields in R18's order. -/
def planBytes (p : Plan) : List Byte :=
  num4 p.p0 ++ num4 p.t ++ num2 p.n ++ num2 p.k ++ num1 p.cue.source ++ num1 p.cue.number ++ num2 p.f ++ boolByte p.late

/-- The pending plan's fields: P0 absent, k 0 (R18, log 18). -/
def waitingBytes (p : WaitingPlan) : List Byte :=
  optionBytes 4 num4 none ++ num4 p.t ++ num2 p.n ++ num2 0 ++ num1 p.cue.source ++ num1 p.cue.number ++ num2 p.f ++
  boolByte p.late

/-- Section 3 (R15, R45). -/
def blendItems (s : State) : List Byte :=
  num2 s.presentedVj ++ boolByte s.stick.latch ++ num1 s.blend.move.code ++ num1 s.blend.stopCause.code ++
  optionBytes 17 planBytes s.blend.plan ++ optionBytes 18 waitingBytes s.blend.waiting ++ num2 s.blend.w ++
  num4 s.blend.pj ++ num4 s.blend.d ++ num4 s.blend.c

/-- Section 4 (R59, R71). -/
def couplingItems (ax : AxisSettings) (s : State) : List Byte :=
  optionBytes 3 num3 s.coupling.reference ++ num4 s.coupling.q ++ num1 (conditionCode s.coupling.followCondition) ++
  num1 (conditionCode s.coupling.guardCondition) ++ num1 s.coupling.guardMode.code ++ num3 s.coupling.lhiEff ++
  num4 s.coupling.g ++ num4 s.limiter.reported ++ num2 s.limiter.v0 ++
  num3 (clamp s.limiter.stepPos (-8388608) 8388607) ++ num3 s.limiter.lastSteps ++ num2 ax.vmax ++ num2 ax.accel

/-- The three inputs as they are reported (R95). -/
def inputItems (d : DrivePort) : List Byte :=
  num1 d.low.state.code ++ num1 d.high.state.code ++ num1 d.amp.state.code

/-- Section 5 in axis role (R95); FE_limit is in counts (R75, R192), the drive enable output a flag (log 18). -/
def driveItems (ax : AxisSettings) (d : DrivePort) : List Byte :=
  num3 d.measured ++ num1 d.lastRead.code ++ num1 d.failureRun ++ num1 d.followingRun ++ num1 d.cause.code ++
  boolByte d.further ++ inputItems d ++ boolByte d.lowLock ++ boolByte d.highLock ++ boolByte d.enable ++
  num1 d.brake.code ++ num1 d.direction.code ++ num3 ax.feLimit ++ num1 ax.feTime

/-- Section 5 in a station whose record is not found good (R177, log 31). The end stops are given by their filtered states
with no polarity applied (R83, R86): the model's choice for what R75, R95, R177 and R188 call their raw levels (log 43). -/
def bareDriveItems (d : DrivePort) : List Byte := num3 d.measured ++ num1 d.lastRead.code ++ inputItems d

/-- The number of entries of a kind. -/
def countWhere (t : PresetStore) (p : PresetEntry → Bool) : List Byte := num1 (t.table.countP p)

/-- Section 6 (R110); index, attempt and phase in flight share a presence byte (log 18). -/
def storeItems (t : PresetStore) : List Byte :=
  num1 t.writeBack.length ++
  optionBytes 3 (fun f : InFlight => num1 f.index ++ num1 f.attempt ++ num1 f.phase.code) t.inFlight ++
  countWhere t (fun e => e.body.code == 0) ++ countWhere t (fun e => e.body.code == 1) ++
  countWhere t (fun e => e.body.code == 2) ++ countWhere t (fun e => e.save == .saved) ++
  countWhere t (fun e => e.save == .waiting) ++ countWhere t (fun e => e.save == .writing) ++
  countWhere t (fun e => e.save == .unsaved)

/-- Section 7 (R177). -/
def handItems (h : HandSampler) : List Byte :=
  (h.raw.map fun r => optionBytes 2 (fun x : Nat => num2 x) r).flatten ++ (h.values.map num2).flatten ++
  [h.faults] ++ num2 h.switches.toNat

/-- A section of READ_SELF in the station's condition: `none` where it is not served (R177, R178). -/
def State.selfItems (s : State) (sect : Nat) : Option (List Byte) :=
  match s.record, sect with
  | _, 0 => some (stationItems s)
  | none, 5 => some (bareDriveItems s.drive)
  | none, _ => none
  | some r, 1 => some (linkItems r s.link)
  | some r, 2 => some (match s.axis? with | some _ => cueSelfItems r s | none => recentItems s.panel)
  | some _, 3 => s.axis?.map fun _ => blendItems s
  | some _, 4 => s.axis?.map fun ax => couplingItems ax s
  | some _, 5 => s.axis?.map fun ax => driveItems ax s.drive
  | some _, 6 => s.axis?.map fun _ => storeItems s.presets
  | some _, 7 => s.hand?.map fun _ => handItems s.hand
  | some _, _ => none

/-! ## Serving (R172 to R177) -/

/-- What a request that was served or refused leaves: the state, its status and the items of an OK reply. -/
structure Answer where
  state : State
  status : Status
  items : List Byte
  deriving DecidableEq, Repr

/-- A refusal changes nothing (R172). -/
def refuse (s : State) (v : Status) : Answer := ⟨s, v, []⟩

/-- An OK reply that changes nothing. -/
def give (s : State) (items : List Byte) : Answer := ⟨s, .ok, items⟩

/-- The contents of the CUE frame of a SEND_CUE body (kind byte first) under a cue number (R173, R192). -/
def cueOfBody (number : Nat) (body : List Byte) : CueContents :=
  { readCueContents (0 :: body.drop 1) with number := number }

/-- The field checks of a SEND_CUE (R173); `kind` is its cue kind. -/
def CueContents.fieldsGood (fps : Nat) (c : CueContents) (kind : CueKind) : Bool :=
  (match kind with
    | .go => decide (c.preset ≤ 63) && decide (1 ≤ c.duration) && decide (c.duration ≤ 60000) && decide (c.fade ≤ 1024)
    | .store => decide (c.preset ≤ 63)
    | .halt | .clear | .disarm => true) &&
  decide (c.timed ≤ 1) && (c.timed == 0 || c.start.inRange fps)

/-- A new item of the recent cue list; the oldest goes when there are 8 (R174). -/
def addRecent (number : Nat) (recent : List RecentCue) : List RecentCue :=
  (if Config.recentMax ≤ recent.length then recent.drop 1 else recent) ++ [⟨number, .queued⟩]

/-- A SEND_CUE that the Link Controller takes (R173 steps 1 to 5): the cue number, the recent cue list, the frame. -/
def sendCueTaken (c : CueContents) (s : State) : State :=
  enqueueCue ⟨0, .cue c, none, 0⟩
    (s.withPanel { s.panel with nextCue := (s.panel.nextCue + 1) % 256, recent := addRecent c.number s.panel.recent })

/-- SEND_CUE is served (R173). -/
def serveSendCue (fps : Nat) (body : List Byte) (s : State) : Answer :=
  let c := cueOfBody s.panel.nextCue body
  match cueKindOf c.kind with
  | none => refuse s .badField
  | some kind =>
    if !c.fieldsGood fps kind then refuse s .badField
    else if !s.link.cueRoom then refuse s .busy
    else ⟨sendCueTaken c s, .ok, num1 c.number⟩

/-- SET_CLOCK is served (R115, R175). -/
def serveSetClock (fps : Nat) (body : List Byte) (s : State) : Answer :=
  let t := readTimecode (byteAt body 0) 1
  if t.inRange fps then ⟨loadClock fps ⟨t, 0⟩ s, .ok, []⟩ else refuse s .badField

/-- READ_PEER is served (R143, R176). -/
def serveReadPeer (address : Nat) (s : State) : Answer :=
  if address < 1 ∨ 62 < address then refuse s .badField
  else match s.peers.find address with
    | some e => give s (peerItems e)
    | none => refuse s .unknownPeer

/-- READ_SELF is served (R177). A section outside 0..7 is BAD_FIELD in every condition: the model's choice where the record
is not good, since R172's order of checks would give WRONG_ROLE there (log 34). -/
def serveReadSelf (sect : Nat) (s : State) : Answer :=
  if 7 < sect then refuse s .badField
  else match s.selfItems sect with
    | some items => give s items
    | none => refuse s .wrongRole

/-- A request that passed the checks before its fields is served (R172). `body` is its kind byte and fields. -/
def serve (r : Request) (body : List Byte) (s : State) : Answer :=
  let arg := (byteAt body 0 1).toNat
  match r, s.record with
  | .readSelf, _ => serveReadSelf arg s
  | _, none => refuse s .wrongRole
  | .sendCue, some rec => serveSendCue rec.fps body s
  | .setClock, some rec => serveSetClock rec.fps body s
  | .readClock, some rec => give s (clockItems rec s)
  | .readPeer, some _ => serveReadPeer arg s
  | .readRoster, some _ => if 60 < arg then refuse s .badField else give s (rosterItems arg s.peers.roster)
  | .readCue, some _ => give s (cueItems arg s.panel.recent)
  | .readPreset, some _ => if 63 < arg then refuse s .badField else give s (presetItems arg s.presets)

/-- The checks of a complete record, in R172's order; `sumGood` says whether its byte sum is 0. -/
def answerBody (sumGood : Bool) (body : List Byte) (s : State) : Answer :=
  if !sumGood then refuse s .badFrame
  else match requestOf (byteAt body 0 0) with
    | none => refuse s .badField
    | some r =>
      if body.length ≠ r.length then refuse s .badFrame
      else if !s.serves r then refuse s .wrongRole
      else serve r body s

/-- The reply begins: REPLY, with the reply record (R170, R171, R172). -/
def startReply (kind : Byte) (v : Status) (items : List Byte) (s : State) : State :=
  s.withPanel { s.panel with phase := .reply, reply := panelRecord (kind :: BitVec.ofNat 8 v.code :: items) }

/-- A complete record is taken as one event (R172). -/
def takeRecord (record : List Byte) (s : State) : State :=
  let body := (record.drop 2).dropLast
  let a := answerBody (byteSum record == 0) body s
  startReply (byteAt body 0 0) a.status a.items a.state

/-! ## The parser (R171) -/

/-- The buffer and phase change. -/
def setParser (phase : ParserPhase) (buffer : List Byte) (s : State) : State :=
  s.withPanel { s.panel with phase := phase, buffer := buffer }

/-- A byte is received (R171). -/
def receiveByte (s : State) (b : Byte) : State :=
  match s.panel.phase with
  | .hunt => if b = 0xA5 then setParser .length [b] s else s
  | .length =>
    if 1 ≤ b.toNat ∧ b.toNat ≤ 250 then setParser .body (s.panel.buffer ++ [b]) s
    else startReply 0 .badFrame [] s
  | .body =>
    let buffer := s.panel.buffer ++ [b]
    let s := setParser .body buffer s
    if buffer.length = (byteAt buffer 0 1).toNat + 3 then takeRecord buffer s else s
  | .reply => s

/-- Bytes are received back to back, as a whole record arrives (log 6). -/
def receiveBytes (bytes : List Byte) (s : State) : State := bytes.foldl receiveByte s

/-- A request's record is received whole (R170, R192, log 6). -/
def receiveRequest (r : Request) (fields : List Byte) (s : State) : State :=
  receiveBytes (panelRecord (r.code :: fields)) s

/-! ## Commands -/

/-- PANEL_BYTE_RECEIVED (R171). -/
def execPanelByteReceived (byte : Byte) (s : State) : Host.Outcome State Fault Refusal :=
  whenRunning s fun s => receiveByte s byte

/-- BAD_FRAME_AT_LENGTH (R171): a length byte of 0 or above 250 is received in LENGTH (log 3). -/
def execBadFrameAtLength (length : Byte) (s : State) : Host.Outcome State Fault Refusal :=
  whenDue (s.panel.phase == .length && !(decide (1 ≤ length.toNat) && decide (length.toNat ≤ 250))) s
    fun s => receiveByte s length

/-- PARSER_TIMEOUT (R171). -/
def execParserTimeout (s : State) : Host.Outcome State Fault Refusal :=
  whenDue (s.panel.phase == .length || s.panel.phase == .body) s (setParser .hunt [])

/-- REPLY_SENT (R171). -/
def execReplySent (s : State) : Host.Outcome State Fault Refusal :=
  whenDue (s.panel.phase == .reply) s fun s =>
    s.withPanel { s.panel with phase := .hunt, buffer := [], reply := [] }

/-- The bytes of a record with a given check byte. -/
def rawRecord (body : List Byte) (check : Byte) : List Byte :=
  0xA5#8 :: BitVec.ofNat 8 body.length :: (body ++ [check])

/-- A record with a bad check, or of no request's kind (R172). -/
def unknownRecord (kind : Byte) (fields : List Byte) (check : Byte) : Bool :=
  decide (fields.length ≤ 249) &&
    (byteSum (rawRecord (kind :: fields) check) != 0 || (requestOf kind).isNone)

/-- REQUEST_UNKNOWN_KIND (R172): such a record is received whole (log 6). -/
def execRequestUnknownKind (kind : Byte) (fields : List Byte) (check : Byte) (s : State) :
    Host.Outcome State Fault Refusal :=
  whenDue (unknownRecord kind fields check) s (receiveBytes (rawRecord (kind :: fields) check))

/-- The fields of a SEND_CUE (R192). -/
def cueFields (kind : Byte) (scope : BitVec 64) (preset : Byte) (duration fade : BitVec 16)
    (timed hh mm ss ff : Byte) : List Byte :=
  kind :: (bytesOf scope.toNat 8 ++ (preset :: (bytesOf duration.toNat 2 ++ bytesOf fade.toNat 2)) ++
    [timed, hh, mm, ss, ff])

/-- SEND_CUE (R173). -/
def execSendCue (kind : Byte) (scope : BitVec 64) (preset : Byte) (duration fade : BitVec 16)
    (timed hh mm ss ff : Byte) (s : State) : Host.Outcome State Fault Refusal :=
  whenRunning s (receiveRequest .sendCue (cueFields kind scope preset duration fade timed hh mm ss ff))

/-- SET_CLOCK (R175). -/
def execSetClock (hh mm ss ff : Byte) (s : State) : Host.Outcome State Fault Refusal :=
  whenRunning s (receiveRequest .setClock [hh, mm, ss, ff])

/-- READ_CLOCK (R175). -/
def execReadClock (s : State) : Host.Outcome State Fault Refusal := whenRunning s (receiveRequest .readClock [])

/-- READ_PEER (R176). -/
def execReadPeer (address : Byte) (s : State) : Host.Outcome State Fault Refusal :=
  whenRunning s (receiveRequest .readPeer [address])

/-- READ_ROSTER (R176). -/
def execReadRoster (first : Byte) (s : State) : Host.Outcome State Fault Refusal :=
  whenRunning s (receiveRequest .readRoster [first])

/-- READ_CUE (R174). -/
def execReadCue (number : Byte) (s : State) : Host.Outcome State Fault Refusal :=
  whenRunning s (receiveRequest .readCue [number])

/-- READ_PRESET (R176). -/
def execReadPreset (index : Byte) (s : State) : Host.Outcome State Fault Refusal :=
  whenRunning s (receiveRequest .readPreset [index])

/-- READ_SELF (R177). -/
def execReadSelf (sect : Byte) (s : State) : Host.Outcome State Fault Refusal :=
  whenRunning s (receiveRequest .readSelf [sect])

end Sys2Proof.Machine
end

