-- ==== Sys2Proof/Machine/StartController.lean ====
section
/-! DEFINITION. The Start Controller (spec/11_configuration_and_start.md; record layout R191): reset and start, reading
and checking the record, loading the presets, the announce window. Commands: START, RESET_ENTERED,
RECORD_READ_COMPLETE, RECORD_ADDRESS_TIMEOUT, PRESET_PAGE_READ, PAGE_READ_TIMEOUT, ANNOUNCE_BUILD,
ANNOUNCE_WINDOW_END. -/
namespace Sys2Proof.Machine

/-! ## Reset and start (R179, R180) -/

/-- The more severe of two conditions: POWER, then BROWNOUT, then PIN (R180). -/
def moreSevere : StartCause → StartCause → StartCause
  | .power, _ | _, .power => .power
  | .brownout, _ | _, .brownout => .brownout
  | .pin, .pin => .pin

/-- The most severe condition with one more (R180). -/
def worst (held : Option StartCause) (c : StartCause) : StartCause :=
  match held with
  | some h => moreSevere h c
  | none => c

/-- What became of the memory's supply under a start cause (R109): a PIN start leaves it, a POWER start follows its
loss, a BROWNOUT start may follow either. -/
def supplyUnder (cause : StartCause) (m : MemorySupply) : MemorySupply :=
  match cause, m with
  | .pin, _ => .kept
  | .power, .kept => .lostInCommit
  | .power, m => m
  | .brownout, m => m

/-- The memory after a start that interrupts a commit (R109). The internal write is taken as finished at this start: a
second start that loses the supply before a memory that kept it has finished finds the new page, which is the model's
choice, since R109 speaks of one start (log 38). -/
def interruptCommit (m : MemorySupply) (s : State) : State :=
  match s.memory.commit with
  | none => s
  | some (i, page) =>
    match m with
    | .kept | .lostAfterCommit => (s.setPage i page).setCommit none
    | .lostInCommit => (s.tearPage i).setCommit none

/-- Another station's carrier, as it was last seen: this station's own signal ends when the part enters reset, or at a
start without one (R164, log 9). A part held in reset drives nothing, whatever phase it stood in, so what it has seen
since is another station's. -/
def State.foreignCarrier (s : State) : Bool := s.link.carrier && (s.resetHold.isSome || !s.link.phase.onWire)

/-- The Link Controller after a start (R164), with the carrier that stands through it (log 10). -/
def LinkController.restarted (cause : StartCause) (carrier : Bool) : LinkController :=
  { LinkController.initial cause with carrier := carrier }

/-- Every block's start values (R179 and each chapter's start table); the memory, another station's carrier, the queue and
the free-value counter are not the station's to set. -/
def startValues (cause : StartCause) (s : State) : State :=
  { State.reset with start := .initial cause, link := .restarted cause s.foreignCarrier,
                     memory := s.memory, freeCount := s.freeCount, pending := s.pending }

/-- A start begins (R180). -/
def beginStart (released : StartCause) (m : MemorySupply) (s : State) : State :=
  let cause := worst s.resetHold released
  startValues cause (interruptCommit (supplyUnder cause m) s)

/-- START (R180). -/
def execStart (released : StartCause) (memory : MemorySupply) (s : State) : Host.Outcome State Fault Refusal :=
  .next (beginStart released memory s)

/-- A part that enters reset releases the line: of the carrier only another station's stands (R164, log 9). -/
def releaseLine (s : State) : State := s.withLink { s.link with carrier := s.foreignCarrier }

/-- RESET_ENTERED (R180): the most severe condition is recorded; a start sequence under way ends, its announce window
with it (log 4), and the line is released. -/
def execResetEntered (condition : StartCause) (s : State) : Host.Outcome State Fault Refusal :=
  .next (((releaseLine s).withResetHold (some (worst s.resetHold condition))).withStart
    { s.start with windowTimer := none })

/-! ## The record's fields (R191) -/

/-- The bytes of a record of length L as it is examined: 0xFF at an offset of L or beyond (R191). -/
def recordByte (bytes : List Byte) (len : Nat) (i : Nat) : Byte := if i < len then byteAt bytes 0xFF i else 0xFF

/-- A byte that is 0 when the field is absent. -/
def absentZero (b : Byte) : Option Nat := if b = 0 then none else some b.toNat

/-- A peer's expected kind code (R191). -/
def peerKindOf : Nat → Option PeerKind
  | 2 => some .stick
  | 3 => some .state
  | _ => none

/-- One peer entry; `none` where a field is out of range (R183 check 6). -/
def readPeerSpec (get : Nat → Byte) (own o : Nat) : Option PeerSpec :=
  let a := (get o).toNat
  match peerKindOf (get (o + 1)).toNat with
  | some k => if 1 ≤ a ∧ a ≤ 62 ∧ a ≠ own then some ⟨a, k⟩ else none
  | none => none

/-- The peer list of `n` entries from an offset on (R191). -/
def readPeers (get : Nat → Byte) (own : Nat) : Nat → Nat → Option (List PeerSpec)
  | _, 0 => some []
  | o, n + 1 =>
    match readPeerSpec get own o, readPeers get own (o + 2) n with
    | some p, some rest => if rest.any fun x => x.address == p.address then none else some (p :: rest)
    | _, _ => none

/-- The peer list, at most 16 entries (R183 check 6). -/
def readPeerList (get : Nat → Byte) (own : Nat) : Option (List PeerSpec) :=
  let n := (get 10).toNat
  if n ≤ 16 then readPeers get own 11 n else none

/-- A mapping's sign byte (R191). -/
def signOf (b : Byte) : Option Int := if b = 0x01 then some 1 else if b = 0xFF then some (-1) else none

/-- A mapping's enable switch; the outer `none` is out of range (R1, R191). -/
def switchOf (b : Byte) : Option (Option Nat) :=
  if b = 0xFF then some none else if b.toNat ≤ 15 then some (some b.toNat) else none

/-- An address is in the peer list with this expected kind. -/
def listed (peers : List PeerSpec) (a : Nat) (k : PeerKind) : Bool := peers.any fun p => p.address == a && p.kind == k

/-- One mapping; `none` where it fails check 11. -/
def readMapping (get : Nat → Byte) (peers : List PeerSpec) (o : Nat) : Option Mapping :=
  let source := (get o).toNat
  let channel := (get (o + 1)).toNat
  let gain := readNat get (o + 3) 2
  match signOf (get (o + 2)), switchOf (get (o + 5)) with
  | some sign, some enable =>
    if channel ≤ 7 ∧ gain ≤ 256 ∧ listed peers source .stick then some ⟨source, channel, sign, gain, enable⟩ else none
  | _, _ => none

/-- The mapping table of `n` entries from an offset on. -/
def readMappings (get : Nat → Byte) (peers : List PeerSpec) : Nat → Nat → Option (List Mapping)
  | _, 0 => some []
  | o, n + 1 =>
    match readMapping get peers o, readMappings get peers (o + 6) n with
    | some m, some rest => some (m :: rest)
    | _, _ => none

/-- The mapping table, at most 4 entries (R183 check 11). -/
def readMappingTable (get : Nat → Byte) (peers : List PeerSpec) : Option (List Mapping) :=
  let n := (get 58).toNat
  if n ≤ 4 then readMappings get peers 59 n else none

/-- The calibration of a channel (R166, R191). -/
def readCalibration (get : Nat → Byte) (channel : Nat) : Calibration :=
  let o := 43 + 6 * channel
  ⟨readNat get o 2, readNat get (o + 2) 2, readNat get (o + 4) 2⟩

/-- The calibrations of the eight channels. -/
def readCalibrations (get : Nat → Byte) : List Calibration := [0, 1, 2, 3, 4, 5, 6, 7].map (readCalibration get)

/-- The axis fields as they are spelled, once the checks have passed (R191). -/
def readAxis (get : Nat → Byte) (mappings : List Mapping) : AxisSettings :=
  { llo := readInt get 43 3, lhi := readInt get 46 3, vmax := readNat get 49 2, accel := readNat get 51 2,
    vjog := readNat get 53 2, deadband := readNat get 55 2, expo := (get 57).toNat, mappings := mappings,
    mode := if get 83 = 0 then .mix else .add, fadeRate := readNat get 84 2, trimScale := readNat get 86 2,
    follow := absentZero (get 88), k := readInt get 89 2, guard := absentZero (get 91), l0 := readInt get 92 3,
    l1 := readInt get 95 2, lsafe := readInt get 97 3, interlock := get 100 == 1, parkTime := readNat get 101 2,
    brakeSetTime := readNat get 103 2, brakeReleaseTime := readNat get 105 2, feLimit := readNat get 107 2,
    feTime := (get 109).toNat, lowPolarity := if get 110 = 0 then .activeHigh else .activeLow,
    highPolarity := if get 111 = 0 then .activeHigh else .activeLow,
    stepPolarity := if get 112 = 0 then .normal else .inverted }

/-! ## The checks (R183) -/

/-- A partner's address is absent, or in the peer list with expected kind STATE (R183 check 13). -/
def partnerGood (peers : List PeerSpec) (a : Option Nat) : Bool :=
  match a with
  | none => true
  | some a => listed peers a .state

/-- Checks 1 to 5 and 7, of both roles, with their numbers: true is passed (R183). -/
def commonChecks (get : Nat → Byte) (peers : Option (List PeerSpec)) : List (Nat × Bool) :=
  let n := fun i => (get i).toNat
  let tStale := readNat get 8 2
  [(1, decide (n 1 ≤ 1)), (2, decide (1 ≤ n 2) && decide (n 2 ≤ 62)), (3, decide (2 ≤ n 4) && decide (n 4 ≤ 20)),
   (4, n 5 == 24 || n 5 == 25 || n 5 == 30),
   (5, decide (5 ≤ n 7) && decide (n 7 < tStale) && decide (tStale ≤ 2000)),
   (6, peers.isSome), (7, decide (n 6 ≤ 62))]

/-- Checks 8 to 15, of the axis role (R183). -/
def axisChecks (get : Nat → Byte) (peers : List PeerSpec) (mappings : Option (List Mapping)) : List (Nat × Bool) :=
  let ax := readAxis get []
  [(8, decide (ax.llo < ax.lhi)),
   (9, decide (1 ≤ ax.vmax) && decide (ax.vmax ≤ 16383) && decide (1 ≤ ax.accel) && decide (ax.accel ≤ 4095)),
   (10, decide (1 ≤ ax.vjog) && decide (ax.vjog ≤ ax.vmax) && decide (ax.deadband ≤ 511) && decide (ax.expo ≤ 16)),
   (11, mappings.isSome),
   (12, decide ((get 83).toNat ≤ 1) && decide (1 ≤ ax.fadeRate) && decide (ax.fadeRate ≤ 1024) &&
     decide (ax.trimScale ≤ 1024)),
   (13, partnerGood peers ax.follow && partnerGood peers ax.guard && decide ((get 100).toNat ≤ 1)),
   (14, decide (ax.parkTime ≤ 600) && decide (10 ≤ ax.brakeSetTime) && decide (ax.brakeSetTime ≤ 500) &&
     decide (ax.brakeReleaseTime ≤ 500)),
   (15, decide (1 ≤ ax.feLimit) && decide (1 ≤ ax.feTime) && decide ((get 110).toNat ≤ 1) &&
     decide ((get 111).toNat ≤ 1) && decide ((get 112).toNat ≤ 1))]

/-- Check 16, of the hand role (R183). -/
def handChecks (get : Nat → Byte) : List (Nat × Bool) :=
  [(16, (readCalibrations get).all fun c => decide (c.lo < c.centre) && decide (c.centre < c.hi) && decide (c.hi ≤ 1023))]

/-- The offset after the last field that a check reads (R183, R191); entries past a count are not read. -/
def fieldsEnd (get : Nat → Byte) : Nat → Nat
  | 1 => 2
  | 2 => 3
  | 3 => 5
  | 4 => 6
  | 5 => 10
  | 6 => 11 + 2 * (get 10).toNat
  | 7 => 7
  | 8 => 49
  | 9 => 53
  | 10 => 58
  | 11 => 59 + 6 * (get 58).toNat
  | 12 => 88
  | 13 => 101
  | 14 => 107
  | 15 => 113
  | 16 => 91
  | _ => 0

/-- The first check that fails (R183). A check that reads a field not whole within the length L fails, whatever its value
(R191); that a field which begins within L and ends beyond it is such a field is the model's choice (log 21). -/
def firstFailed (len : Nat) (get : Nat → Byte) (checks : List (Nat × Bool)) : Option Nat :=
  (checks.find? fun c => !(decide (fieldsEnd get c.1 ≤ len) && c.2)).map fun c => c.1

/-- The record's fields with settings (R191). -/
def readCommon (get : Nat → Byte) (peers : List PeerSpec) (settings : RoleSettings) : Record :=
  { address := (get 2).toNat, label := (get 3).toNat, framePeriod := (get 4).toNat, fps := (get 5).toNat,
    clockSource := absentZero (get 6), tFresh := (get 7).toNat, tStale := readNat get 8 2, peers := peers,
    settings := settings }

/-- The contents of a record of length L are examined: the number of the first check that fails, or the record found good
(R183). -/
def examine (len : Nat) (get : Nat → Byte) : Nat ⊕ Record :=
  let peers := readPeerList get (get 2).toNat
  match firstFailed len get (commonChecks get peers) with
  | some n => .inl n
  | none =>
    let peers := peers.getD []
    if get 1 = 0 then
      let mappings := readMappingTable get peers
      match firstFailed len get (axisChecks get peers mappings) with
      | some n => .inl n
      | none => .inr (readCommon get peers (.axis (readAxis get (mappings.getD []))))
    else
      match firstFailed len get (handChecks get) with
      | some n => .inl n
      | none => .inr (readCommon get peers (.hand (readCalibrations get)))

/-! ## Reading the record (R181, R184, R188) -/

/-- The record is refused (R181, R183, R188). -/
def refuseRecord (v : Verdict) (failing : Option Nat) (s : State) : State :=
  s.withStart { s.start with phase := .badRecord, verdict := v, failingCheck := failing }

/-- The announce window opens: its timer at 0, and the first ANNOUNCE is built (R186). -/
def openWindow (s : State) : State :=
  buildAnnounce (s.withStart { s.start with phase := .announcing, windowTimer := some 0 })

/-- What both roles take at the instant the record is found good: peer entries, accept map, backoff seed (R131, R154,
R162, R184). -/
def takeRecordBoth (r : Record) (s : State) : State :=
  let s := (s.withRecord (some r)).withStart { s.start with verdict := .good }
  (s.withPeers { s.peers with entries := r.peers.map PeerEntry.create }).withLink
    { s.link with acceptMap := acceptMapOf r.peers, shiftReg := seed r.address s.start.cause }

/-- What an axis station takes besides: the coupling items, the end-stop inputs afresh (R46, R75, R83, R184). -/
def takeRecordAxis (ax : AxisSettings) (s : State) : State :=
  ((s.withCoupling (s.coupling.configured ax)).withDrive
    { s.drive with low := .initial, high := .initial }).withStart
    { s.start with phase := .loadingPresets, nextPage := 0 }

/-- What a hand station does besides: its axis blocks hold their reset values, and the announce window opens
(R72, R96, R184, R186, log 23). -/
def takeRecordHand (s : State) : State :=
  openWindow ((((s.withBlend .initial).withCoupling .initial).withLimiter .initial).withDrive .initial)

/-- The record is found good (R184). -/
def recordGood (r : Record) (s : State) : State :=
  let s := takeRecordBoth r s
  match r.settings with
  | .axis ax => takeRecordAxis ax s
  | .hand _ => takeRecordHand s

/-- The sequential read ends (R181): length, CRC-16, then the checks. Bytes that the memory no longer drove are 0xFF, in
`bytes` or past its end. R181 says that the record then fails its check: the model's choice is that the CRC-16 over those
bytes decides, so that a record which holds 0xFF in its undriven places can pass (log 42). -/
def recordRead (bytes : List Byte) (s : State) : State :=
  let len := (byteAt bytes 0xFF 0).toNat
  let s := s.withStart { s.start with recordLength := some len }
  if len < 8 ∨ 254 < len then refuseRecord .badCheck none s
  else
    let get := byteAt bytes 0xFF
    let crc := crc16 ((List.range len).map get)
    if crc.toNat ≠ readNat get len 2 then refuseRecord .badCheck none s
    else
      let s := s.withStart { s.start with checkWord := some crc }
      match examine len (recordByte bytes len) with
      | .inl n => refuseRecord .badValue (some n) s
      | .inr r => recordGood r s

/-- RECORD_READ_COMPLETE (R181). -/
def execRecordReadComplete (bytes : List Byte) (s : State) : Host.Outcome State Fault Refusal :=
  whenDue (s.start.phase == .loadingRecord) s (recordRead bytes)

/-- RECORD_ADDRESS_TIMEOUT (R181). -/
def execRecordAddressTimeout (s : State) : Host.Outcome State Fault Refusal :=
  whenDue (s.start.phase == .loadingRecord) s (refuseRecord .unreadable none)

/-! ## Loading the presets (R99, R185) -/

/-- The next page's entry is loaded, and after the last page the announce window opens (R99, R185, R186). -/
def loadEntry (body : PresetBody) (s : State) : State :=
  let i := s.start.nextPage
  let s := (s.withPresets (s.presets.setEntry i ⟨body, .saved⟩)).withStart { s.start with nextPage := i + 1 }
  if Config.presetCount ≤ i + 1 then openWindow s else s

/-- The page a read delivers (R99): what the memory holds, or what the setup tool has written there. -/
def deliver (page : PageRead) (s : State) : State :=
  match page with
  | .held => s
  | .written p => s.setPage s.start.nextPage p.toList

/-- A page read completes (R99). -/
def pageRead (page : PageRead) (s : State) : State :=
  let s := deliver page s
  loadEntry (loadPage s.fps (Memory.readBytes s.memory.cells (pageOffset s.start.nextPage) Config.pageSize)) s

/-- PRESET_PAGE_READ (R99). -/
def execPresetPageRead (page : PageRead) (s : State) : Host.Outcome State Fault Refusal :=
  whenDue (s.start.phase == .loadingPresets) s (pageRead page)

/-- PAGE_READ_TIMEOUT (R185). -/
def execPageReadTimeout (s : State) : Host.Outcome State Fault Refusal :=
  whenDue (s.start.phase == .loadingPresets) s (loadEntry .invalid)

/-! ## The announce window (R186, R187) -/

/-- The next instant of the window at which an ANNOUNCE is built (R186). -/
def nextAnnounce : Option Nat → Option Nat
  | some t => if t < 60 then some 60 else if t < 120 then some 120 else none
  | none => none

/-- ANNOUNCE_BUILD (R186): 60 ms, then 120 ms. -/
def execAnnounceBuild (s : State) : Host.Outcome State Fault Refusal :=
  whenDue (nextAnnounce s.start.windowTimer).isSome s fun s =>
    buildAnnounce (s.withStart { s.start with windowTimer := nextAnnounce s.start.windowTimer })

/-- The end of START in axis role (R17, R86, R187). -/
def leaveStart (s : State) : State := if s.axis?.isSome then endOfStart s else s

/-- The announce window ends (R187). The first periodic frame carries the contents from before the change of move
state, or from after it. -/
def windowEnds (frameFirst : Bool) (s : State) : State :=
  let s := (s.withStart { s.start with phase := .running, windowTimer := none }).withLink
    { s.link with periodTimer := true }
  if frameFirst then leaveStart (buildPeriodic s.periodicContents s)
  else
    let s := leaveStart s
    buildPeriodic s.periodicContents s

/-- ANNOUNCE_WINDOW_END (R187). -/
def execAnnounceWindowEnd (frameFirst : Bool) (s : State) : Host.Outcome State Fault Refusal :=
  whenDue (s.start.phase == .announcing && s.start.windowTimer.isSome) s (windowEnds frameFirst)

end Sys2Proof.Machine
end

