-- ==== Sys2Proof/Machine/Dispatch.lean ====
section
/-! DEFINITION. The dispatch: one arm per command, each one direct call of its meaning. -/
namespace Sys2Proof.Machine
open Sys2Proof

def exec (i : Instr) (s : State) : Host.Outcome State Fault Refusal :=
  match i with
  | .start released memory => Sys2Proof.Machine.execStart released memory s
  | .recordReadComplete bytes => Sys2Proof.Machine.execRecordReadComplete bytes s
  | .recordAddressTimeout => Sys2Proof.Machine.execRecordAddressTimeout s
  | .presetPageRead page => Sys2Proof.Machine.execPresetPageRead page s
  | .pageReadTimeout => Sys2Proof.Machine.execPageReadTimeout s
  | .announceBuild => Sys2Proof.Machine.execAnnounceBuild s
  | .announceWindowEnd frameFirst => Sys2Proof.Machine.execAnnounceWindowEnd frameFirst s
  | .periodExpiry => Sys2Proof.Machine.execPeriodExpiry s
  | .parkTimeElapsed => Sys2Proof.Machine.execParkTimeElapsed s
  | .brakeSetComplete => Sys2Proof.Machine.execBrakeSetComplete s
  | .releaseComplete => Sys2Proof.Machine.execReleaseComplete s
  | .drivePortTimerExpiry low high amp first => Sys2Proof.Machine.execDrivePortTimerExpiry low high amp first s
  | .positionReadComplete idle data error => Sys2Proof.Machine.execPositionReadComplete idle data error s
  | .sceneClockExpiry => Sys2Proof.Machine.execSceneClockExpiry s
  | .frameAdvance => Sys2Proof.Machine.execFrameAdvance s
  | .intakeTake clockFirst => Sys2Proof.Machine.execIntakeTake s clockFirst
  | .ageingExpiry order => Sys2Proof.Machine.execAgeingExpiry s order
  | .entryBecomesAging address => Sys2Proof.Machine.execEntryBecomesAging address s
  | .entryBecomesStale address => Sys2Proof.Machine.execEntryBecomesStale address s
  | .sendingEnd acknowledged => Sys2Proof.Machine.execSendingEnd acknowledged s
  | .programmingAcknowledged => Sys2Proof.Machine.execProgrammingAcknowledged s
  | .programmingTimeout => Sys2Proof.Machine.execProgrammingTimeout s
  | .periodCountExpiry => Sys2Proof.Machine.execPeriodCountExpiry s
  | .framePeriodExpiry => Sys2Proof.Machine.execFramePeriodExpiry s
  | .carrierStart => Sys2Proof.Machine.execCarrierStart s
  | .carrierEnd => Sys2Proof.Machine.execCarrierEnd s
  | .lateGap => Sys2Proof.Machine.execLateGap s
  | .gapEnd => Sys2Proof.Machine.execGapEnd s
  | .collision => Sys2Proof.Machine.execCollision s
  | .jamEnd => Sys2Proof.Machine.execJamEnd s
  | .backoffEnd => Sys2Proof.Machine.execBackoffEnd s
  | .attemptComplete => Sys2Proof.Machine.execAttemptComplete s
  | .startPattern => Sys2Proof.Machine.execStartPattern s
  | .endOfReceipt bytes wholeBytes => Sys2Proof.Machine.execEndOfReceipt bytes wholeBytes s
  | .handSamplerExpiry readings closed => Sys2Proof.Machine.execHandSamplerExpiry readings closed s
  | .badFrameAtLength length => Sys2Proof.Machine.execBadFrameAtLength length s
  | .parserTimeout => Sys2Proof.Machine.execParserTimeout s
  | .replySent => Sys2Proof.Machine.execReplySent s
  | .requestUnknownKind kind fields check => Sys2Proof.Machine.execRequestUnknownKind kind fields check s
  | .sendCue kind scope preset duration fade timed hh mm ss ff => Sys2Proof.Machine.execSendCue kind scope preset duration fade timed hh mm ss ff s
  | .setClock hh mm ss ff => Sys2Proof.Machine.execSetClock hh mm ss ff s
  | .readClock => Sys2Proof.Machine.execReadClock s
  | .readPeer address => Sys2Proof.Machine.execReadPeer address s
  | .readRoster first => Sys2Proof.Machine.execReadRoster first s
  | .readCue number => Sys2Proof.Machine.execReadCue number s
  | .readPreset index => Sys2Proof.Machine.execReadPreset index s
  | .readSelf sect => Sys2Proof.Machine.execReadSelf sect s
  | .panelByteReceived byte => Sys2Proof.Machine.execPanelByteReceived byte s
  | .stepPulseEmitted => Sys2Proof.Machine.execStepPulseEmitted s
  | .resetEntered condition => Sys2Proof.Machine.execResetEntered condition s
  | .backoffRegisterShift => Sys2Proof.Machine.execBackoffRegisterShift s

end Sys2Proof.Machine
end

