-- ==== Sys2Proof/Safety.lean ====
section
/-! DEFINITION. What a safe station is, in the terms the statements use: the laws that the spec's rules name ("This rule
states a law of the device") and the bounds of its lists and counters, each as a property of one state. -/
namespace Sys2Proof.Machine

/-- The configured fields of an axis station that the laws rest on are in range (R183 checks 8 to 10). -/
structure AxisSettings.Good (ax : AxisSettings) : Prop where
  limits : ax.llo < ax.lhi
  vmax : 1 ≤ ax.vmax ∧ ax.vmax ≤ 16383
  accel : 1 ≤ ax.accel ∧ ax.accel ≤ 4095
  vjog : 1 ≤ ax.vjog ∧ ax.vjog ≤ ax.vmax
  deadband : ax.deadband ≤ 511
  expo : ax.expo ≤ 16

/-- The record a station holds was found good (R183). -/
structure Record.Good (r : Record) : Prop where
  address : 1 ≤ r.address ∧ r.address ≤ 62
  fps : r.fps = 24 ∨ r.fps = 25 ∨ r.fps = 30
  fresh : 5 ≤ r.tFresh ∧ r.tFresh < r.tStale ∧ r.tStale ≤ 2000
  peers : r.peers.length ≤ 16 ∧ (r.peers.map PeerSpec.address).Nodup
  axis : ∀ ax, r.settings = .axis ax → ax.Good

/-- Which move states and records go with a start's phases (R17, R179, R184, R187): a record is held only after
LOADING_RECORD, it is a good one, and START is left only when RUNNING begins, in axis role. -/
structure State.StartLaw (s : State) : Prop where
  loading : s.start.phase = .loadingRecord → s.record = none
  record : ∀ r, s.record = some r → r.Good
  axis : s.axis? = none → s.blend.move = .start
  running : s.start.phase ≠ .running → s.blend.move = .start

/-- Outputs and fault cause go with the move state (R74, R87). -/
structure State.DriveLaw (s : State) : Prop where
  enable : s.drive.enable = s.blend.move.driveEnable
  brake : s.drive.brake = s.blend.move.brakeOutput
  cause : s.drive.cause = .none ↔ s.blend.move ≠ .fault
  further : s.drive.further = true → s.blend.move = .fault

/-- A move state with a plan (R16, R18). -/
def MoveState.planned : MoveState → Bool
  | .play | .blend => true
  | .start | .parked | .parking | .releasing | .hold | .jog | .stopping | .interlocked | .fault => false

/-- The stop cause of a move state (R16). -/
def MoveState.allowsCause : MoveState → StopCause → Bool
  | .stopping, .halt | .stopping, .interlock | .interlocked, .interlock => true
  | .stopping, .none | .interlocked, .halt | .interlocked, .none => false
  | .start, c | .parked, c | .parking, c | .releasing, c | .hold, c | .jog, c | .play, c | .blend, c | .fault, c =>
    c == .none

/-- Plan, pending plan, weight, trim and stop cause go with the move state (R16, R18, R22, R24). -/
structure State.BlendLaw (s : State) : Prop where
  plan : s.blend.plan.isSome = s.blend.move.planned
  waiting : s.blend.waiting.isSome = true → s.blend.move = .releasing
  steps : ∀ p, s.blend.plan = some p → 1 ≤ p.n ∧ p.n ≤ 60000 ∧ p.k ≤ p.n
  waitingSteps : ∀ p, s.blend.waiting = some p → 1 ≤ p.n ∧ p.n ≤ 60000
  weightZero : s.blend.move ≠ .blend → s.blend.w = 0
  weightBlend : s.blend.move = .blend → 1 ≤ s.blend.w ∧ s.blend.w ≤ 1023
  mix : ∀ ax, s.axis? = some ax → s.blend.move = .blend → ax.mode = .mix
  trim : s.blend.move ≠ .play → s.blend.d = 0
  trimMix : ∀ ax, s.axis? = some ax → ax.mode = .mix → s.blend.d = 0
  stopCause : s.blend.move.allowsCause s.blend.stopCause = true

/-- C lies within the configured limits in every servo-active state (R25). -/
def State.CommandedLaw (s : State) : Prop :=
  ∀ ax, s.axis? = some ax → s.blend.move.servoActive = true →
    ax.llo * 16 ≤ s.blend.c ∧ s.blend.c ≤ ax.lhi * 16

/-- |v0| is at most Vmax (R64), 0 in a station that has no bounds, and the step position is floor(S / 16) (R69). -/
structure State.SetpointLaw (s : State) : Prop where
  velocity : ∀ ax, s.axis? = some ax → s.limiter.v0.natAbs ≤ ax.vmax
  still : s.axis? = none → s.limiter.v0 = 0
  steps : s.limiter.stepPos = s.limiter.setpoint / 16

/-- The effective upper limit lies within the configured limits, and is Lhi without a guard partner (R46, R52). -/
structure State.GuardLaw (s : State) : Prop where
  within : ∀ ax, s.axis? = some ax → ax.llo ≤ s.coupling.lhiEff ∧ s.coupling.lhiEff ≤ ax.lhi
  fixed : ∀ ax, s.axis? = some ax → ax.guard = none → s.coupling.guardMode = .fixed ∧ s.coupling.lhiEff = ax.lhi

/-- The Scene Clock's fields are in range (R112); before a record is found good it stands at 0 (R111). -/
structure State.ClockLaw (s : State) : Prop where
  stopped : s.record = none → s.clock.time = ⟨0, 0, 0, 0⟩ ∧ s.clock.acc = 0
  fields : ∀ r, s.record = some r →
    s.clock.time.ff < r.fps ∧ s.clock.time.ss < 60 ∧ s.clock.time.mm < 60 ∧ s.clock.time.hh < 24
  acc : s.clock.acc < 1000

/-- The transmit queue's slots hold their kinds of frames, and it, the attempt count and the receive ring keep their bounds
(R147, R154, R155, R163). -/
structure State.LinkLaw (s : State) : Prop where
  periodic : ∀ f, s.link.periodic = some f → f.isPeriodic = true
  cueFrames : ∀ f ∈ s.link.cueSlots, ∃ c, f.contents = .cue c
  idle : s.link.current = none → s.link.periodic = none ∧ s.link.cueSlots = []
  cues : s.link.cueSlots.length ≤ 4
  attempts : s.link.attempts ≤ 16
  below : s.link.phase ≠ .jam → s.link.attempts ≤ 15
  drawn : s.link.drawn ≤ 1023
  ring : s.link.ring.length + (if s.link.reception then 1 else 0) ≤ 8

/-- The write-back list and the writer (R97, R103, R104). -/
structure State.StoreLaw (s : State) : Prop where
  size : s.presets.table.length = 64
  once : s.presets.writeBack.Nodup
  known : ∀ i ∈ s.presets.writeBack, i < 64
  idle : s.presets.inFlight = none → s.presets.writeBack = []
  attempts : ∀ f, s.presets.inFlight = some f → f.index < 64 ∧ 1 ≤ f.attempt ∧ f.attempt ≤ 3
  waiting : ∀ i, i < 64 → ((s.presets.entry i).save = .waiting ↔ i ∈ s.presets.writeBack)
  start : s.blend.move = .start → s.presets.writeBack = [] ∧ s.presets.inFlight = none

/-- The armed list: at most 8 entries, ordered by remaining time, no two of one cue, each with a start time in range and
still to come; empty in a station that takes no cues (R116, R120). -/
structure State.ArmedLaw (s : State) : Prop where
  empty : s.axis? = none → s.sched.armed = []
  size : s.sched.armed.length ≤ 8
  once : (s.sched.armed.map ArmedCue.cue).Nodup
  ahead : ∀ r, s.record = some r → ∀ e ∈ s.sched.armed,
    e.start.inRange r.fps = true ∧ 0 < e.remaining r.fps (frameNumber r.fps s.clock.time)
  order : ∀ r, s.record = some r → s.sched.armed.Pairwise fun a b =>
    a.remaining r.fps (frameNumber r.fps s.clock.time) ≤ b.remaining r.fps (frameNumber r.fps s.clock.time)

/-- The recent cue list, the peer entries and the roster keep their bounds and their order (R130, R137, R174). -/
structure State.ListLaw (s : State) : Prop where
  recent : s.panel.recent.length ≤ 8
  peers : s.peers.entries.length ≤ 16
  distinct : (s.peers.entries.map PeerEntry.address).Nodup
  roster : (s.peers.roster.map RosterItem.address).Pairwise (· < ·)

/-- The settings memory's image is in canonical form (R98, log 19). -/
def State.MemoryLaw (s : State) : Prop := Memory.wf s.memory.cells = true

/-! ## Words the statements share -/

/-- How severe a start cause is (R180). -/
def severity : StartCause → Nat
  | .power => 2
  | .brownout => 1
  | .pin => 0

/-- The Panel Line after it answered a record of this kind and these fields: REPLY, the record in its buffer, and the
reply being sent (R170, R171, R172). -/
def PanelLine.replied (p : PanelLine) (record : List Byte) (kind : Byte) (v : Status) (items : List Byte) : PanelLine :=
  { p with phase := .reply, buffer := record, reply := panelRecord (kind :: BitVec.ofNat 8 v.code :: items) }

/-- The event flags after a handover of `c` in a move state, from the flags standing before it: LIMITED is set when the
clamp of R54 bites in a servo-active state (R55). -/
def limitedFlags (move : MoveState) (g sum : Int) (flags : FlagSet) : FlagSet :=
  if move.servoActive = true ∧ g ≠ sum then flags ||| 0x20 else flags

/-- From `s` to `t` a period expiry handed on the commanded position `c` in a move state, the event flags standing at
`flags` before the handover: C and the previous C are `c`, G is formed from it (R54, R55), the Motion Limiter took its
step for the move state (R63), its count went to the Drive Port (R69, R76, the direction at once: log 41), the outputs follow the move state (R87), and
no other block changed but the Cue Scheduler and the rest of the Blend Engine. -/
structure HandedOver (ax : AxisSettings) (s t : State) (c : Int) (move : MoveState) (flags : FlagSet) : Prop where
  blend : t.blend.move = move ∧ t.blend.c = c ∧ t.blend.prevC = c
  coupling : t.coupling =
    { s.coupling with g := max (ax.llo * 16) (min (c + s.coupling.q) (s.coupling.lhiEff * 16)) }
  limiter : t.limiter = s.limiter.step ax.vmax ax.accel move t.coupling.g s.drive.measured
  drive : t.drive = { s.drive with enable := move.driveEnable, brake := move.brakeOutput,
                                   pulses := t.limiter.lastSteps.natAbs,
                                   direction := stepDirection ax.stepPolarity t.limiter.lastSteps s.drive.direction }
  flags : t.flags = limitedFlags move t.coupling.g (c + s.coupling.q) flags
  armed : t.sched.armed = s.sched.armed
  others : (((((t.withBlend s.blend).withCoupling s.coupling).withLimiter s.limiter).withDrive s.drive).withFlags
    s.flags).withSched s.sched = s

/-- What a firing of the Blend Engine may not touch: everything but the Blend Engine, the Drive Port, the Motion Limiter,
the event flags and the last-cue report. -/
def cueFrame (s t : State) : Prop :=
  ((((t.withBlend s.blend).withDrive s.drive).withLimiter s.limiter).withFlags s.flags).withSched s.sched = s

/-- The state before an expiry allows no transition of HOLD: no interlock, the stick not active, the park time not
reached (R27). -/
def State.holdStays (s : State) (ax : AxisSettings) : Prop :=
  s.interlockHolds ax = false ∧ s.presentedVj = 0 ∧ (ax.parkTime = 0 ∨ s.atRest = false ∨ s.blend.park + 1 < ax.parkTime * 1000)

/-- The peer list passes check 6 (R183): at most 16 entries, each with an address 1..62 other than the station's own and
a kind STICK (2) or STATE (3), no two with one address (R191). -/
def peerListGood (get : Nat → Byte) : Prop :=
  (get 10).toNat ≤ 16 ∧
  (∀ i, i < (get 10).toNat → 1 ≤ (get (11 + 2 * i)).toNat ∧ (get (11 + 2 * i)).toNat ≤ 62 ∧
    get (11 + 2 * i) ≠ get 2 ∧ (get (12 + 2 * i) = 2 ∨ get (12 + 2 * i) = 3)) ∧
  (∀ i j, i < j → j < (get 10).toNat → get (11 + 2 * i) ≠ get (11 + 2 * j))

/-- An address stands in the peer list with an expected kind code (R183). -/
def peerListed (get : Nat → Byte) (address kind : Byte) : Prop :=
  ∃ i, i < (get 10).toNat ∧ get (11 + 2 * i) = address ∧ get (12 + 2 * i) = kind

/-- The mapping table passes check 11 (R183, R191). -/
def mappingTableGood (get : Nat → Byte) : Prop :=
  (get 58).toNat ≤ 4 ∧
  ∀ i, i < (get 58).toNat →
    peerListed get (get (59 + 6 * i)) 2 ∧ (get (60 + 6 * i)).toNat ≤ 7 ∧
    (get (61 + 6 * i) = 0x01 ∨ get (61 + 6 * i) = 0xFF) ∧ readNat get (62 + 6 * i) 2 ≤ 256 ∧
    ((get (64 + 6 * i)).toNat ≤ 15 ∨ get (64 + 6 * i) = 0xFF)

/-- A channel's calibration passes check 16 (R183, R191). -/
def calibrationGood (get : Nat → Byte) (channel : Nat) : Prop :=
  readNat get (43 + 6 * channel) 2 < readNat get (45 + 6 * channel) 2 ∧
  readNat get (45 + 6 * channel) 2 < readNat get (47 + 6 * channel) 2 ∧ readNat get (47 + 6 * channel) 2 ≤ 1023

/-- The numbered checks of R183, each as the condition under which it passes, on the bytes that R191 gives the fields: every
field that the check reads lies whole within the record's length (R191; a field that the length cuts: log 21), and its
values are in range. Checks 8 to 15 are of the axis role, check 16 of the hand role. -/
def recordCheck (len : Nat) (get : Nat → Byte) : Nat → Prop
  | 1 => 2 ≤ len ∧ (get 1 = 0 ∨ get 1 = 1)
  | 2 => 3 ≤ len ∧ 1 ≤ (get 2).toNat ∧ (get 2).toNat ≤ 62
  | 3 => 5 ≤ len ∧ 2 ≤ (get 4).toNat ∧ (get 4).toNat ≤ 20
  | 4 => 6 ≤ len ∧ ((get 5).toNat = 24 ∨ (get 5).toNat = 25 ∨ (get 5).toNat = 30)
  | 5 => 10 ≤ len ∧ 5 ≤ (get 7).toNat ∧ (get 7).toNat < readNat get 8 2 ∧ readNat get 8 2 ≤ 2000
  | 6 => 11 + 2 * (get 10).toNat ≤ len ∧ peerListGood get
  | 7 => 7 ≤ len ∧ (get 6).toNat ≤ 62
  | 8 => 49 ≤ len ∧ readInt get 43 3 < readInt get 46 3
  | 9 => 53 ≤ len ∧ 1 ≤ readNat get 49 2 ∧ readNat get 49 2 ≤ 16383 ∧ 1 ≤ readNat get 51 2 ∧ readNat get 51 2 ≤ 4095
  | 10 => 58 ≤ len ∧ 1 ≤ readNat get 53 2 ∧ readNat get 53 2 ≤ readNat get 49 2 ∧ readNat get 55 2 ≤ 511 ∧
      (get 57).toNat ≤ 16
  | 11 => 59 + 6 * (get 58).toNat ≤ len ∧ mappingTableGood get
  | 12 => 88 ≤ len ∧ (get 83).toNat ≤ 1 ∧ 1 ≤ readNat get 84 2 ∧ readNat get 84 2 ≤ 1024 ∧ readNat get 86 2 ≤ 1024
  | 13 => 101 ≤ len ∧ (get 88 = 0 ∨ peerListed get (get 88) 3) ∧ (get 91 = 0 ∨ peerListed get (get 91) 3) ∧
      (get 100).toNat ≤ 1
  | 14 => 107 ≤ len ∧ readNat get 101 2 ≤ 600 ∧ 10 ≤ readNat get 103 2 ∧ readNat get 103 2 ≤ 500 ∧ readNat get 105 2 ≤ 500
  | 15 => 113 ≤ len ∧ 1 ≤ readNat get 107 2 ∧ 1 ≤ (get 109).toNat ∧ (get 110).toNat ≤ 1 ∧ (get 111).toNat ≤ 1 ∧
      (get 112).toNat ≤ 1
  | 16 => 91 ≤ len ∧ ∀ channel, channel < 8 → calibrationGood get channel
  | _ => True

/-- The checks that apply to a role byte (R183): 1 to 7 to both, 8 to 15 to AXIS (0), 16 to HAND. -/
def checkApplies (role : Byte) (n : Nat) : Prop :=
  (1 ≤ n ∧ n ≤ 7) ∨ (8 ≤ n ∧ n ≤ 15 ∧ role = 0) ∨ (n = 16 ∧ role ≠ 0)

/-- From `s` to `t` the writer ended with page i, its entry at `v` where it was not stored again meanwhile, and went on
with the head of the list (R104, R106, R107). -/
structure WriterFinished (s t : State) (i : Nat) (v : SaveState) : Prop where
  ended : i ∉ s.presets.writeBack → (t.presets.entry i).save = v
  again : i ∈ s.presets.writeBack →
    (t.presets.entry i).save = if s.presets.writeBack.head? = some i then .writing else .waiting
  body : ∀ j, (t.presets.entry j).body = (s.presets.entry j).body
  others : ∀ j, j ≠ i → s.presets.writeBack.head? ≠ some j → t.presets.entry j = s.presets.entry j
  idle : s.presets.writeBack = [] → t.presets.writeBack = [] ∧ t.presets.inFlight = none
  next : ∀ j rest, s.presets.writeBack = j :: rest → t.presets.writeBack = rest ∧
    (t.presets.entry j).save = .writing ∧ t.presets.inFlight = some ⟨j, 1, .sending, (t.presets.entry j).page⟩

/-- The sequence number `n` follows `last` within the window of R117 and R132: ahead by 1 to 127, modulo 256. -/
def newer (last n : Nat) : Prop := 1 ≤ ((n : Int) - last) % 256 ∧ ((n : Int) - last) % 256 ≤ 127

/-- A timecode's fields fit a byte each. -/
def Timecode.fits (t : Timecode) : Prop := t.hh < 256 ∧ t.mm < 256 ∧ t.ss < 256 ∧ t.ff < 256

/-- The contents fit the widths that R190 gives their items. -/
def Contents.fits : Contents → Prop
  | .announce a => a.role < 256 ∧ a.cause < 256 ∧ a.label < 256 ∧ a.framePeriod < 256
  | .stick c => c.values.length = 8 ∧ ∀ v ∈ c.values, -32768 ≤ v ∧ v ≤ 32767
  | .state c => (c.move < 256 ∧ c.fault < 256 ∧ c.weight < 65536 ∧ c.source < 256 ∧ c.number < 256 ∧ c.phase < 256 ∧
      c.reason < 256) ∧ (-8388608 ≤ c.measured ∧ c.measured ≤ 8388607) ∧
      (-2147483648 ≤ c.setpoint ∧ c.setpoint ≤ 2147483647) ∧ (-32768 ≤ c.velocity ∧ c.velocity ≤ 32767)
  | .cue c => (c.number < 256 ∧ c.kind < 256 ∧ c.preset < 256 ∧ c.duration < 65536 ∧ c.fade < 65536 ∧ c.timed < 256) ∧
      c.start.fits

/-- What a receiver reads from a payload is the contents, and the stamp where the kind carries one (R158, R190). -/
def Contents.readBack (payload : List Byte) (stamp : Stamp) : Contents → Prop
  | .announce a => readAnnounce payload = a
  | .stick c => readStick payload = c ∧ readStamp payload = stamp
  | .state c => readState payload = c ∧ readStamp payload = stamp
  | .cue c => readCueContents payload = c

/-! ## Items of replies -/

/-- A number as a reply spells it: `n` bytes, most significant first, in two's complement where it is negative (R192). -/
def spelled (n : Nat) (x : Int) : List Byte := (List.range n).reverse.map fun i => BitVec.ofInt 8 (x / 256 ^ i)

/-- A timecode's four bytes (R192). -/
def Timecode.spelled (t : Timecode) : List Byte := [t.hh, t.mm, t.ss, t.ff].map fun x => BitVec.ofNat 8 x

/-- An item that may be absent: a presence byte, then its bytes, as 0xFF when it is absent (R192). -/
def optionalItem (n : Nat) : Option (List Byte) → List Byte
  | some bytes => 1#8 :: bytes
  | none => 0#8 :: List.replicate n 0xFF#8

/-- The enumerated codes: those of R190 where it gives them, and otherwise the places of the names in the list that defines
them, from 0 (R192; the stop cause's list is log 18's). -/
def codesInOrder : Prop :=
  [FrameKind.announce, .stick, .state, .cue].map FrameKind.code = [1, 2, 3, 4] ∧
  [MoveState.start, .parked, .parking, .releasing, .hold, .jog, .play, .blend, .stopping, .interlocked, .fault].map
    MoveState.code = List.range 11 ∧
  [FaultCause.none, .feedback, .following, .endstopLow, .endstopHigh, .drive].map FaultCause.code = List.range 6 ∧
  [CueKind.go, .halt, .store, .clear, .disarm].map CueKind.code = List.range 5 ∧
  [Phase.none, .armed, .moving, .arrived, .abandoned, .refused, .missed, .done].map Phase.code = List.range 8 ∧
  [Reason.none, .notReady, .invalidPreset, .tooFar, .unsynced, .listFull, .faultActive, .interlock, .stopped, .replaced,
    .takenOver, .faulted].map Reason.code = List.range 12 ∧
  [SendPhase.wait, .send, .jam, .backoff].map SendPhase.code = List.range 4 ∧
  [StopCause.halt, .interlock, .none].map StopCause.code = List.range 3 ∧
  [none, some Freshness.silent, some .fresh, some .aging, some .stale].map conditionCode = List.range 5 ∧
  [GuardMode.inForce, .safe, .fixed].map GuardMode.code = List.range 3 ∧
  [LastRead.none, .good, .failed].map LastRead.code = List.range 3 ∧
  [InputState.active, .inactive, .unknown].map InputState.code = List.range 3 ∧
  [Brake.engaged, .released].map Brake.code = List.range 2 ∧
  [Direction.forward, .reverse].map Direction.code = List.range 2 ∧
  [WritePhase.sending, .programming].map WritePhase.code = List.range 2

/-! ## Frames in the transmit queue -/

/-- The ANNOUNCE frame of a record, a start cause and a check word (R186, R190). -/
def announceFrame (r : Record) (cause : StartCause) (check : CheckWord) : Frame :=
  ⟨0, .announce ⟨match r.settings with | .axis _ => 0 | .hand _ => 1, causeNumber cause, check, r.label, r.framePeriod⟩,
    none, 0⟩

/-- A frame as it goes on the wire: a STICK or STATE frame latches the stamp (R158). -/
def Frame.stampedBy (f : Frame) (stamp : Stamp) : Frame :=
  match f.contents with
  | .stick _ | .state _ => { f with stamp := some stamp }
  | .announce _ | .cue _ => f

/-- From `s` to `t` a periodic frame just built entered the queue (R147, R149, R152): it is current in an empty queue,
waiting or, on a FREE line, at once on the wire; it replaces a current periodic frame off the wire; it fills the periodic
slot otherwise. Nothing outside the Link Controller changes. The carrier and the reception at an attempt are log 9's. -/
structure PeriodicQueued (f : Frame) (s t : State) : Prop where
  waits : s.link.current = none → s.link.cueSlots = [] → s.link.line ≠ .free →
    t.link = { s.link with current := some f, periodic := none, phase := .wait, backoff := 0, attempts := 0, round := 1 }
  starts : s.link.current = none → s.link.cueSlots = [] → s.link.line = .free →
    t.link = { s.link with
      current := some (f.stampedBy ⟨s.clock.time, s.clock.acc⟩), periodic := none, phase := .send, backoff := 0,
      attempts := 0, round := 1, wire := wireBytes s.address f ⟨s.clock.time, s.clock.acc⟩, reception := false,
      carrier := true, line := .busy }
  replaces : ∀ c, s.link.current = some c → c.isPeriodic = true → s.link.phase = .wait ∨ s.link.phase = .backoff →
    t.link = { s.link with current := some f }
  fills : ∀ c, s.link.current = some c → c.isPeriodic = false ∨ s.link.phase = .send ∨ s.link.phase = .jam →
    t.link = { s.link with periodic := some f }
  others : t.withLink s.link = s

/-! ## Armed cues on the clock -/

/-- The due armed cues fire one after another in list order, each leaving the list as it fires, until none is due; a late
one sets LATE (R121, R122). What a firing does to the cues after it, it does before they are examined. -/
inductive FiresInOrder (ax : AxisSettings) (due : ArmedCue → Prop) (late : ArmedCue → Bool) : State → State → Prop where
  | done (s : State) : (∀ e ∈ s.sched.armed, ¬due e) → FiresInOrder ax due late s s
  | next (s t : State) (before : List ArmedCue) (e : ArmedCue) (after : List ArmedCue) :
    s.sched.armed = before ++ e :: after → (∀ x ∈ before, ¬due x) → due e →
    FiresInOrder ax due late
      (fire ax ⟨e.cue, e.kind, e.preset, e.duration, e.fade, late e⟩
        ((s.withSched { s.sched with armed := before ++ after }).withFlags
          (if late e then s.flags ||| 0x10 else s.flags))) t →
    FiresInOrder ax due late s t

/-- From `s` to `t` the armed list was ordered by remaining time from frame `now`, equal ones in the order they had
(R123), and nothing else changed. -/
structure Reordered (fps now : Nat) (s t : State) : Prop where
  order : t.sched.armed.Pairwise fun a b => a.remaining fps now ≤ b.remaining fps now
  stable : ∀ k, (t.sched.armed.filter fun e => e.remaining fps now == k) =
    s.sched.armed.filter fun e => e.remaining fps now == k
  others : t.withSched { t.sched with armed := s.sched.armed } = s

/-- What the Cue Scheduler makes of a load of the clock from frame `old` to frame `new`, the clock loaded in `s`: nothing
at D = 0; firings at a short jump forward, those before `new` late (R122); MISSED for every cue passed over by a long one;
firings at `new` alone after a jump backward; and the list reordered after all of them (R123). -/
def JumpTaken (ax : AxisSettings) (fps old new : Nat) (s t : State) : Prop :=
  let d := dayDistance fps new old
  let passed := fun e : ArmedCue => 0 < e.remaining fps old ∧ e.remaining fps old ≤ d
  (d = 0 → t = s) ∧
  (1 ≤ d → d ≤ 2 * fps → ∃ u, FiresInOrder ax passed (fun e => decide (frameNumber fps e.start ≠ new)) s u ∧
    Reordered fps new u t) ∧
  (2 * fps < d → d ≤ 43200 * fps →
    let missed := s.sched.armed.filter fun e => decide (passed e)
    Reordered fps new ((s.withSched
      ⟨s.sched.armed.filter fun e => !decide (passed e), match missed.getLast? with
        | some e => ⟨some e.cue, .missed, .none⟩
        | none => s.sched.report⟩).withFlags (if missed = [] then s.flags else s.flags ||| 0x08)) t) ∧
  (43200 * fps < d → ∃ u, FiresInOrder ax (fun e => frameNumber fps e.start = new) (fun _ => false) s u ∧
    Reordered fps new u t)

/-- The distance of a stamp's position from the clock's, in thousandths of a frame, the shorter way round the day
(R111, R113). -/
def stampDistance (fps : Nat) (st : Stamp) (c : SceneClock) : Int :=
  let p : Int := frameNumber fps st.time * 1000 + st.acc
  let q : Int := frameNumber fps c.time * 1000 + c.acc
  min ((p - q) % (86400000 * fps)) ((q - p) % (86400000 * fps))

/-- From `s` to `t` the Scene Clock compared an accepted entry's stamp (R113, R114): only the clock source's, and only in
range; within two periods the clock is in step, beyond them it is loaded; either sets the synced flag. -/
structure StampHeard (r : Record) (e : PeerEntry) (s t : State) : Prop where
  foreign : r.clockSource ≠ some e.address → t = s
  ignored : ∀ st, r.clockSource = some e.address → e.stamp = some st →
    ¬(st.time.inRange r.fps = true ∧ st.acc ≤ 999) → t = s
  inStep : ∀ st, r.clockSource = some e.address → e.stamp = some st → st.time.inRange r.fps = true → st.acc ≤ 999 →
    stampDistance r.fps st s.clock ≤ 2 * r.fps → t = s.withClock { s.clock with synced := true }
  loadedAlone : ∀ st, r.clockSource = some e.address → e.stamp = some st → st.time.inRange r.fps = true → st.acc ≤ 999 →
    2 * r.fps < stampDistance r.fps st s.clock → s.axis? = none → t = s.withClock ⟨st.time, st.acc, true⟩
  loaded : ∀ st ax, r.clockSource = some e.address → e.stamp = some st → st.time.inRange r.fps = true → st.acc ≤ 999 →
    2 * r.fps < stampDistance r.fps st s.clock → s.axis? = some ax →
    JumpTaken ax r.fps (frameNumber r.fps s.clock.time) (frameNumber r.fps st.time)
      (s.withClock ⟨st.time, st.acc, true⟩) t

/-! ## What the Peer Table hands on -/

/-- From `s` to `t` the Stick Shaper and the Coupling Unit of an axis station were handed an acceptance of an entry (R8,
R12, R48, R133). -/
structure AcceptanceHeard (ax : AxisSettings) (e : PeerEntry) (s t : State) : Prop where
  stick : t.stick = if ax.maps e.address
    then ⟨jogDemand ax s.peers, s.stick.latch && decide (jogDemand ax s.peers ≠ 0)⟩ else s.stick
  coupling : t.coupling = (couplingAccepted ax e s).coupling
  others : (t.withStick s.stick).withCoupling s.coupling = s

/-- From `s` to `t` they were handed a change of an entry's freshness without an acceptance: a recompute for a mapped STICK
peer (R8, R12); the conditions recorded (R58), the reference, Q and G held (R51), and the guard in force while it is FRESH
or AGING with STATE contents, and else in SAFE (R52, R53). -/
structure ChangeHeard (ax : AxisSettings) (e : PeerEntry) (s t : State) : Prop where
  stick : t.stick = if e.kind = .stick ∧ ax.maps e.address = true
    then ⟨jogDemand ax s.peers, s.stick.latch && decide (jogDemand ax s.peers ≠ 0)⟩ else s.stick
  held : t.coupling.reference = s.coupling.reference ∧ t.coupling.q = s.coupling.q ∧ t.coupling.g = s.coupling.g
  follow : t.coupling.followCondition =
    if ax.follow = some e.address then some e.freshness else s.coupling.followCondition
  unguarded : ax.guard ≠ some e.address → t.coupling.guardCondition = s.coupling.guardCondition ∧
    t.coupling.guardMode = s.coupling.guardMode ∧ t.coupling.lhiEff = s.coupling.lhiEff
  guarded : ax.guard = some e.address → t.coupling.guardCondition = some e.freshness
  safe : ax.guard = some e.address → e.freshness = .silent ∨ e.freshness = .stale ∨ e.state? = none →
    t.coupling.guardMode = .safe ∧ t.coupling.lhiEff = max ax.llo (min ax.lsafe ax.lhi)
  inForce : ∀ p, ax.guard = some e.address → e.freshness = .fresh ∨ e.freshness = .aging → e.state? = some p →
    t.coupling.guardMode = .inForce ∧
    t.coupling.lhiEff = max ax.llo (min (min ax.lhi (ax.l0 + ax.l1 * p.measured / 4096)) ax.lhi)
  others : (t.withStick s.stick).withCoupling s.coupling = s

/-- Changes of freshness of several entries, each an event of its own: the entry changes and is handed on before the next
one changes (R138, R139). -/
inductive ChangesHeard (ax : AxisSettings) : List PeerEntry → State → State → Prop where
  | nil (s : State) : ChangesHeard ax [] s s
  | cons (e : PeerEntry) (l : List PeerEntry) (s u t : State) :
    ChangeHeard ax e (s.withPeers (s.peers.put e)) u → ChangesHeard ax l u t → ChangesHeard ax (e :: l) s t

end Sys2Proof.Machine
end

