-- ==== Sys2Proof/WellFormed.lean ====
section
/-! DEFINITION. Which commands can come at all: operands that no partner could deliver are ill formed. exec gives an
ill-formed command a meaning too (log 2); nothing is assumed of it. -/
namespace Sys2Proof
open Sys2Proof.Machine

/-- An address of a station (R182). -/
def addressInRange (a : Nat) : Bool := decide (1 ≤ a) && decide (a ≤ 62)

/-- The length bytes that LENGTH answers with BAD_FRAME (R171): 0, or above 250. -/
def badLength (b : Byte) : Bool := b == 0 || decide (250 < b.toNat)

/-- A command that can come. -/
def Instr.wellFormed : Instr → Bool
  | .recordReadComplete bytes => decide (bytes.length ≤ 256)
  | .ageingExpiry order => order.all addressInRange
  | .entryBecomesAging address => addressInRange address
  | .entryBecomesStale address => addressInRange address
  | .badFrameAtLength length => badLength length
  | .requestUnknownKind kind fields check => unknownRecord kind fields check
  | .start _ _ => true
  | .recordAddressTimeout => true
  | .presetPageRead _ => true
  | .pageReadTimeout => true
  | .announceBuild => true
  | .announceWindowEnd _ => true
  | .periodExpiry => true
  | .parkTimeElapsed => true
  | .brakeSetComplete => true
  | .releaseComplete => true
  | .drivePortTimerExpiry _ _ _ _ => true
  | .positionReadComplete _ _ _ => true
  | .sceneClockExpiry => true
  | .frameAdvance => true
  | .intakeTake _ => true
  | .sendingEnd _ => true
  | .programmingAcknowledged => true
  | .programmingTimeout => true
  | .periodCountExpiry => true
  | .framePeriodExpiry => true
  | .carrierStart => true
  | .carrierEnd => true
  | .lateGap => true
  | .gapEnd => true
  | .collision => true
  | .jamEnd => true
  | .backoffEnd => true
  | .attemptComplete => true
  | .startPattern => true
  | .endOfReceipt _ _ => true
  | .handSamplerExpiry _ _ => true
  | .parserTimeout => true
  | .replySent => true
  | .sendCue _ _ _ _ _ _ _ _ _ _ => true
  | .setClock _ _ _ _ => true
  | .readClock => true
  | .readPeer _ => true
  | .readRoster _ => true
  | .readCue _ => true
  | .readPreset _ => true
  | .readSelf _ => true
  | .panelByteReceived _ => true
  | .stepPulseEmitted => true
  | .resetEntered _ => true
  | .backoffRegisterShift => true

end Sys2Proof
end

