-- ==== Sys2Proof/Certificates/Slice0/Obligations.lean ====
section
/-! DEFINITION. The statements for the provers, in the order of OBLIGATIONS.json: the step and the queue; start and
record; the servo chain; the Drive Port; presets; clock and cues; peers; the crane link; hand inputs and the panel line;
encodings; and the laws that every command keeps. -/

open Sys2Proof Sys2Proof.Machine

/-! ## The step and the queue -/

/-- The model's choice (log 1): a step runs the command at the front of the queue on the station with the queue's rest,
and idles on an empty queue. -/
def Obligations.StepTakesFrontCommand : Prop :=
  ∀ s : State,
    (∀ (c : Instr) (rest : List Instr), s.pending = c :: rest → step s = exec c (s.withPending rest)) ∧
    (s.pending = [] → step s = .next s)

/-- No command stops the station (log 27) or changes its queue (log 1); a part held in reset takes no command but START
and RESET_ENTERED, and of CARRIER_START and CARRIER_END it keeps whether carrier is present (R145, R180; the model's
reading, log 4), and no other command ends or begins a reset. -/
def Obligations.EveryCommandAnswersNext : Prop :=
  ∀ (c : Instr) (s : State), ∃ t, exec c s = .next t ∧ t.pending = s.pending ∧
    ((∀ r m, c ≠ .start r m) → (∀ k, c ≠ .resetEntered k) → t.resetHold = s.resetHold ∧
      (s.resetHold.isSome = true → t = match c with
        | .carrierStart => s.withLink { s.link with carrier := true }
        | .carrierEnd => s.withLink { s.link with carrier := false }
        | _ => s))

/-! ## Start and record -/

/-- A start sets every block to its chapter's start values (the start tables of the rules cited; C, previous C and the
coupling items before a record are the model's choice, logs 15 and 16). Another station's carrier stands through the
start, and this station's own has ended there or as the part entered reset (R164; the model's reading, logs 9 and 10). -/
def Obligations.StartSetsEveryBlock : Prop :=
  ∀ (released : StartCause) (m : MemorySupply) (s : State), ∃ t, exec (.start released m) s = .next t ∧
    (t.start.phase = .loadingRecord ∧ t.start.verdict = .waiting ∧ t.start.failingCheck = none ∧
      t.start.recordLength = none ∧ t.start.checkWord = none ∧ t.start.windowTimer = none ∧ t.start.nextPage = 0) ∧
    t.record = none ∧ t.stick = ⟨0, true⟩ ∧
    t.blend = ⟨.start, .none, none, none, 0, 0, 0, 0, 0, 0, 0⟩ ∧
    t.coupling = ⟨none, 0, none, none, .fixed, 0, 0⟩ ∧ t.limiter = ⟨0, 0, 0, 0⟩ ∧
    t.drive = ⟨0, .none, 0, 0, .none, false, false, false, ⟨.unknown, none⟩, ⟨.unknown, none⟩, ⟨.unknown, none⟩, 0,
      false, .engaged, .forward⟩ ∧
    t.presets = ⟨List.replicate 64 ⟨.empty, .saved⟩, [], none⟩ ∧ t.memory.commit = none ∧
    t.clock = ⟨⟨0, 0, 0, 0⟩, 0, false⟩ ∧ t.sched = ⟨[], ⟨none, .none, .none⟩⟩ ∧ t.intake = none ∧
    t.peers = ⟨[], []⟩ ∧
    (t.link.current = none ∧ t.link.periodic = none ∧ t.link.cueSlots = [] ∧ t.link.phase = .wait ∧
      t.link.attempts = 0 ∧ t.link.round = 1 ∧ t.link.backoff = 0 ∧ t.link.line = .gap ∧ t.link.gapTimer = 0 ∧
      t.link.nextSequence = none ∧ t.link.periodTimer = false ∧ t.link.reception = false ∧ t.link.ring = [] ∧
      t.link.acceptMap = 0 ∧ t.link.periodCount = 0) ∧
    t.link.carrier = (s.link.carrier &&
      (s.resetHold.isSome || !decide (s.link.phase = .send ∨ s.link.phase = .jam))) ∧
    t.flags = 0 ∧
    t.hand = ⟨List.replicate 8 none, List.replicate 8 0, 0, List.replicate 16 [], 0⟩ ∧
    t.panel = ⟨.hunt, [], [], 0, []⟩ ∧ t.resetHold = none ∧ t.pending = s.pending

/-- The start cause is the most severe condition since the previous start, and the backoff register is seeded with it
and the address 0 (R154, R180). That RESET_ENTERED stops the window timer, ends this station's own signal on the line, and
leaves every block and output else as it stood is the model's reading, logs 4 and 9. -/
def Obligations.MostSevereConditionIsTheCause : Prop :=
  (∀ (k : StartCause) (s : State), ∃ t h, exec (.resetEntered k) s = .next t ∧ t.resetHold = some h ∧
    severity h = max (severity k) ((s.resetHold.map severity).getD 0) ∧
    t.start = { s.start with windowTimer := none } ∧
    t.link = { s.link with carrier := s.link.carrier &&
      (s.resetHold.isSome || !decide (s.link.phase = .send ∨ s.link.phase = .jam)) } ∧
    ((t.withResetHold s.resetHold).withStart s.start).withLink s.link = s) ∧
  (∀ (k : StartCause) (m : MemorySupply) (s : State), ∃ t, exec (.start k m) s = .next t ∧
    severity t.start.cause = max (severity k) ((s.resetHold.map severity).getD 0) ∧
    t.link.shiftReg = BitVec.ofNat 17 (65536 + (2 - severity t.start.cause)))

/-- What a page being committed holds after a start (R109): the new page, unless the memory lost its supply in the
commit; then the page is torn, a free value (log 20). No other byte of the memory changes. That the commit ends at this
start, whatever a second start then does, is the model's choice, log 38. -/
def Obligations.StartEndsThePageWrite : Prop :=
  ∀ (k : StartCause) (m : MemorySupply) (s : State), s.MemoryLaw → ∃ t, exec (.start k m) s = .next t ∧
    (s.memory.commit = none → t.memory = s.memory ∧ t.freeCount = s.freeCount) ∧
    (∀ i page, s.memory.commit = some (i, page) → page.length = 16 →
      (∀ a, a < pageOffset i ∨ pageOffset i + 16 ≤ a → Memory.read t.memory.cells a = Memory.read s.memory.cells a) ∧
      ((t.start.cause = .pin ∨ m = .lostAfterCommit ∨ (t.start.cause = .brownout ∧ m = .kept)) →
        Memory.readBytes t.memory.cells (pageOffset i) 16 = page ∧ t.freeCount = s.freeCount) ∧
      ((t.start.cause = .power ∨ t.start.cause = .brownout) ∧ m = .lostInCommit →
        Memory.readBytes t.memory.cells (pageOffset i) 16 = tornBytes s.freeCount ∧ t.freeCount = s.freeCount + 1))

/-- A record that cannot be read, whose length or CRC-16 is bad, or whose check n is the first to fail, is refused: the
verdict, the failing check, BAD_RECORD, the record length as read, and nothing else in the station changes (R181, R183,
R188). Bytes that the memory no longer drove count as 0xFF for the CRC-16, the model's choice, log 42. -/
def Obligations.RefusedRecordChangesOnlyTheVerdict : Prop :=
  ∀ s : State, s.resetHold = none → s.start.phase = .loadingRecord →
    exec .recordAddressTimeout s =
      .next (s.withStart { s.start with phase := .badRecord, verdict := .unreadable, failingCheck := none }) ∧
    ∀ (bytes : List Byte) (len : Nat), len = (bytes.getD 0 0xFF).toNat →
      (len < 8 ∨ 254 < len → exec (.recordReadComplete bytes) s =
        .next (s.withStart { s.start with phase := .badRecord, verdict := .badCheck, failingCheck := none,
                                          recordLength := some len })) ∧
      (8 ≤ len → len ≤ 254 → len + 2 ≤ bytes.length →
        ((crc16 (bytes.take len)).toNat ≠ (bytes.getD len 0).toNat * 256 + (bytes.getD (len + 1) 0).toNat →
          exec (.recordReadComplete bytes) s =
            .next (s.withStart { s.start with phase := .badRecord, verdict := .badCheck, failingCheck := none,
                                              recordLength := some len })) ∧
        ((crc16 (bytes.take len)).toNat = (bytes.getD len 0).toNat * 256 + (bytes.getD (len + 1) 0).toNat →
          ∀ n, examine len (recordByte bytes len) = .inl n → exec (.recordReadComplete bytes) s =
            .next (s.withStart { s.start with phase := .badRecord, verdict := .badValue, failingCheck := some n,
                                              recordLength := some len, checkWord := some (crc16 (bytes.take len)) })))

/-- The numbered checks in order: the examination answers the first check that fails, and finds the record good exactly
when none does (R183, on the layout of R191); the record then holds its fields in range, each as its offset of R191 spells
it. A record too short for its role fails, and the check reported is the first that reads a field at its length or beyond
(R191); that a field which begins within the length and ends beyond it counts as such a field is the model's choice,
log 21. -/
def Obligations.FirstFailingCheckIsReported : Prop :=
  (∀ (len : Nat) (get : Nat → Byte),
    (∀ n, examine len get = .inl n ↔ checkApplies (get 1) n ∧ ¬recordCheck len get n ∧
      ∀ m, m < n → checkApplies (get 1) m → recordCheck len get m) ∧
    ((∃ r, examine len get = .inr r) ↔ ∀ n, checkApplies (get 1) n → recordCheck len get n) ∧
    (∀ r, examine len get = .inr r → r.Good ∧
      let one := fun i : Nat => (get i).toNat
      let two := fun i : Nat => one i * 256 + one (i + 1)
      let signedTwo := fun i : Nat => (get i ++ get (i + 1)).toInt
      let signedThree := fun i : Nat => (get i ++ get (i + 1) ++ get (i + 2)).toInt
      let present := fun i : Nat => if one i = 0 then none else some (one i)
      r.address = one 2 ∧ r.label = one 3 ∧ r.framePeriod = one 4 ∧ r.fps = one 5 ∧ r.clockSource = present 6 ∧
      r.tFresh = one 7 ∧ r.tStale = two 8 ∧
      r.peers = (List.range (one 10)).map (fun i => ⟨one (11 + 2 * i), if one (12 + 2 * i) = 2 then .stick else .state⟩) ∧
      (one 1 = 0 → r.settings = .axis
        { llo := signedThree 43, lhi := signedThree 46, vmax := two 49, accel := two 51, vjog := two 53,
          deadband := two 55, expo := one 57,
          mappings := (List.range (one 58)).map fun i =>
            ⟨one (59 + 6 * i), one (60 + 6 * i), if one (61 + 6 * i) = 0xFF then -1 else 1, two (62 + 6 * i),
              if one (64 + 6 * i) = 0xFF then none else some (one (64 + 6 * i))⟩,
          mode := if one 83 = 0 then .mix else .add, fadeRate := two 84, trimScale := two 86, follow := present 88,
          k := signedTwo 89, guard := present 91, l0 := signedThree 92, l1 := signedTwo 95, lsafe := signedThree 97,
          interlock := decide (one 100 = 1), parkTime := two 101, brakeSetTime := two 103, brakeReleaseTime := two 105,
          feLimit := two 107, feTime := one 109, lowPolarity := if one 110 = 0 then .activeHigh else .activeLow,
          highPolarity := if one 111 = 0 then .activeHigh else .activeLow,
          stepPolarity := if one 112 = 0 then .normal else .inverted }) ∧
      (one 1 = 1 → r.settings = .hand ((List.range 8).map fun c =>
        ⟨two (43 + 6 * c), two (45 + 6 * c), two (47 + 6 * c)⟩)))) ∧
  ∀ (bytes : List Byte) (len : Nat), 8 ≤ len →
    (bytes.getD 1 0xFF = 0 → len < 113 → ∃ n, examine len (recordByte bytes len) = .inl n) ∧
    (bytes.getD 1 0xFF = 1 → len < 91 → ∃ n, examine len (recordByte bytes len) = .inl n) ∧
    ∀ i, recordByte bytes len i = if i < len then bytes.getD i 0xFF else 0xFF

/-- A good record, its fields read as the statement before says, is handed to every block of an axis station (R46, R131,
R154, R162, R184); a hand station's opens the announce window, its first ANNOUNCE built at once (R184, R186), and the model
sets its axis blocks to their start values here, log 23. The carrier and the reception at an attempt are log 9's.
Bytes that the memory no longer drove count as 0xFF for the CRC-16, the model's choice, log 42. -/
def Obligations.GoodRecordIsHandedToTheBlocks : Prop :=
  ∀ (bytes : List Byte) (s : State) (len : Nat) (r : Record), s.resetHold = none → s.start.phase = .loadingRecord →
    len = (bytes.getD 0 0xFF).toNat → 8 ≤ len → len ≤ 254 → len + 2 ≤ bytes.length →
    (crc16 (bytes.take len)).toNat = (bytes.getD len 0).toNat * 256 + (bytes.getD (len + 1) 0).toNat →
    examine len (recordByte bytes len) = .inr r →
    ∃ t, exec (.recordReadComplete bytes) s = .next t ∧ t.record = some r ∧ t.start.verdict = .good ∧
      t.start.recordLength = some len ∧ t.start.checkWord = some (crc16 (bytes.take len)) ∧
      t.peers.roster = s.peers.roster ∧
      t.peers.entries = r.peers.map (fun p => ⟨p.address, p.kind, none, .silent, 0, none, none, none, none⟩) ∧
      t.link.acceptMap = acceptMapOf r.peers ∧
      t.link.shiftReg = BitVec.ofNat 17 (65536 + r.address * 4 + causeNumber s.start.cause) ∧
      (∀ ax, r.settings = .axis ax → t.start.phase = .loadingPresets ∧ t.start.nextPage = 0 ∧
        t.drive = { s.drive with low := ⟨.unknown, none⟩, high := ⟨.unknown, none⟩ } ∧
        (ax.guard = none → t.coupling.guardMode = .fixed ∧ t.coupling.lhiEff = ax.lhi ∧
          t.coupling.guardCondition = none) ∧
        (∀ g, ax.guard = some g → t.coupling.guardMode = .safe ∧ t.coupling.guardCondition = some .silent ∧
          t.coupling.lhiEff = max ax.llo (min ax.lsafe ax.lhi)) ∧
        t.coupling.followCondition = (ax.follow.map fun _ => .silent) ∧
        t.blend = s.blend ∧ t.limiter = s.limiter ∧ t.stick = s.stick) ∧
      (∀ ax, r.settings = .axis ax →
        t.link = { s.link with acceptMap := t.link.acceptMap, shiftReg := t.link.shiftReg }) ∧
      (∀ cals, r.settings = .hand cals → t.start.phase = .announcing ∧ t.start.windowTimer = some 0 ∧
        t.blend = .initial ∧ t.coupling = .initial ∧ t.limiter = .initial ∧ t.drive = .initial ∧ t.stick = s.stick ∧
        PeriodicQueued (announceFrame r s.start.cause (crc16 (bytes.take len)))
          (t.withLink { s.link with acceptMap := t.link.acceptMap, shiftReg := t.link.shiftReg }) t) ∧
      t.presets = s.presets ∧ t.memory = s.memory ∧ t.clock = s.clock ∧ t.sched = s.sched ∧ t.hand = s.hand ∧
      t.panel = s.panel ∧ t.flags = s.flags ∧ t.link.ring = s.link.ring

/-- A page read loads its entry EMPTY, VALID or INVALID, SAVED (R99); the page is what the memory's image holds, or what
the setup tool has written there (the image is the model's choice, log 19); a page that is not acknowledged leaves its
entry INVALID (R99, R185). Before the last page nothing else changes; the last opens the announce window and builds the
first ANNOUNCE (R185, R186). The carrier and the reception at an attempt are log 9's. -/
def Obligations.PageReadLoadsItsEntry : Prop :=
  ∀ (s : State) (r : Record), s.resetHold = none → s.start.phase = .loadingPresets → s.record = some r →
    s.start.nextPage < 64 → s.MemoryLaw →
    (∀ page : PageRead,
      let bytes := match page with
        | .held => Memory.readBytes s.memory.cells (pageOffset s.start.nextPage) 16
        | .written p => p.toList
      ∃ t, exec (.presetPageRead page) s = .next t ∧
        (∀ a, Memory.read t.memory.cells a =
          if pageOffset s.start.nextPage ≤ a ∧ a < pageOffset s.start.nextPage + 16 then
            bytes.getD (a - pageOffset s.start.nextPage) 0 else Memory.read s.memory.cells a) ∧
        t.memory.commit = s.memory.commit ∧
        t.presets = { s.presets with table := s.presets.table.set s.start.nextPage ⟨loadPage r.fps bytes, .saved⟩ } ∧
        (s.start.nextPage < 63 → t.start = { s.start with nextPage := s.start.nextPage + 1 } ∧
          ((t.withMemory s.memory).withPresets s.presets).withStart s.start = s) ∧
        (s.start.nextPage = 63 → t.start = { s.start with nextPage := 64, phase := .announcing, windowTimer := some 0 } ∧
          PeriodicQueued (announceFrame r s.start.cause (s.start.checkWord.getD 0)) (t.withLink s.link) t ∧
          (((t.withMemory s.memory).withPresets s.presets).withStart s.start).withLink s.link = s)) ∧
    ∃ t, exec .pageReadTimeout s = .next t ∧
      t.presets = { s.presets with table := s.presets.table.set s.start.nextPage ⟨.invalid, .saved⟩ } ∧
      (s.start.nextPage < 63 → t.start = { s.start with nextPage := s.start.nextPage + 1 } ∧
        (t.withPresets s.presets).withStart s.start = s) ∧
      (s.start.nextPage = 63 → t.start = { s.start with nextPage := 64, phase := .announcing, windowTimer := some 0 } ∧
        PeriodicQueued (announceFrame r s.start.cause (s.start.checkWord.getD 0)) (t.withLink s.link) t ∧
        ((t.withPresets s.presets).withStart s.start).withLink s.link = s)

/-- What a page's bytes make of an entry (R99). -/
def Obligations.PageContentsDecideValidity : Prop :=
  ∀ (fps : Nat) (page : List Byte), page.length = 16 →
    ((∀ b ∈ page, b = 0xFF) → loadPage fps page = .empty) ∧
    ((¬∀ b ∈ page, b = 0xFF) →
      ((page.getD 0 0 = 0xA6 ∧
          (crc16 (page.take 10)).toNat = (page.getD 10 0).toNat * 256 + (page.getD 11 0).toNat) →
        ∃ target a b, loadPage fps page = .valid target a b ∧
          target = (page.getD 1 0 ++ page.getD 2 0 ++ page.getD 3 0).toInt ∧
          (a = if (page.getD 4 0).toNat ≤ 23 ∧ (page.getD 5 0).toNat ≤ 59 ∧ (page.getD 6 0).toNat ≤ 59 ∧
                (page.getD 7 0).toNat < fps then
              some ⟨(page.getD 4 0).toNat, (page.getD 5 0).toNat, (page.getD 6 0).toNat, (page.getD 7 0).toNat⟩
            else none) ∧
          (b = if 1 ≤ (page.getD 8 0).toNat ∧ (page.getD 8 0).toNat ≤ 62 then
              some ⟨(page.getD 8 0).toNat, (page.getD 9 0).toNat⟩ else none)) ∧
      (¬(page.getD 0 0 = 0xA6 ∧
          (crc16 (page.take 10)).toNat = (page.getD 10 0).toNat * 256 + (page.getD 11 0).toNat) →
        loadPage fps page = .invalid))

/-- An ANNOUNCE carries role, start cause, check word, label and frame period (R186) and enters the queue as a periodic
frame (R147, R149), at 60 and at 120 ms of the window; nothing outside the Link Controller and the window timer changes.
The carrier and the reception at an attempt are log 9's. -/
def Obligations.AnnounceFrameIsBuilt : Prop :=
  ∀ (s : State) (r : Record) (w : Nat), s.resetHold = none → s.record = some r → s.start.windowTimer = some w →
    w < 120 →
    ∃ t, exec .announceBuild s = .next t ∧
      t.start = { s.start with windowTimer := some (if w < 60 then 60 else 120) } ∧
      PeriodicQueued (announceFrame r s.start.cause (s.start.checkWord.getD 0)) (t.withLink s.link) t ∧
      (t.withStart s.start).withLink s.link = s

/-- The announce window ends with no condition standing: RUNNING, the frame period timer running, and a first periodic
frame with the next sequence number, which enters the queue as it stands, in the place of an ANNOUNCE still waiting, or
at once on a FREE line (R148, R149, R152, R187). An axis station is PARKED, and its STATE frame carries START or PARKED
as it is taken first or second (R17); a hand station's STICK frame carries its channel values and switch word (R169).
The order of frame and move state is the command's operand (the model's choice, log 11); the carrier and the reception
at an attempt are log 9's. -/
def Obligations.WindowEndStartsPeriodicFrames : Prop :=
  ∀ (frameFirst : Bool) (s : State) (w : Nat), s.resetHold = none → s.start.phase = .announcing →
    s.start.windowTimer = some w →
    let n := s.link.nextSequence.getD (s.link.shiftReg.toNat % 256)
    let timed := { s.link with periodTimer := true, nextSequence := some ((n + 1) % 256) }
    (∀ ax, s.axis? = some ax → s.blend.move = .start → s.drive.failureRun < 5 → s.drive.low.state ≠ .active →
      s.drive.high.state ≠ .active → s.drive.amp.state ≠ .active →
      ∃ t f, exec (.announceWindowEnd frameFirst) s = .next t ∧
        t.start = { s.start with phase := .running, windowTimer := none } ∧
        t.blend = { s.blend with move := .parked } ∧ t.drive = { s.drive with enable := false, brake := .engaged } ∧
        f.sequence = n ∧ f.stamp = none ∧ f.standing = s.flags ∧
        f.contents = .state ⟨if frameFirst then 0 else 1, s.drive.cause.code, s.drive.measured,
          max (-134217728) (min s.limiter.setpoint 134217712), s.limiter.v0, s.blend.w,
          (s.sched.report.cue.map CueId.source).getD 0, (s.sched.report.cue.map CueId.number).getD 0,
          s.sched.report.phase.code, s.sched.report.reason.code, s.flags⟩ ∧
        PeriodicQueued f (t.withLink timed) t ∧
        (((t.withStart s.start).withBlend s.blend).withDrive s.drive).withLink s.link = s) ∧
    (∀ cals, s.hand? = some cals →
      ∃ t f, exec (.announceWindowEnd frameFirst) s = .next t ∧
        t.start = { s.start with phase := .running, windowTimer := none } ∧
        f.sequence = n ∧ f.stamp = none ∧ f.contents = .stick ⟨s.hand.values, s.hand.switches⟩ ∧
        PeriodicQueued f (t.withLink timed) t ∧ (t.withStart s.start).withLink s.link = s)

/-- The conditions standing at the end of START are taken as raised, in order: the first is the fault cause, a further
one sets the further mark (R86, R187). -/
def Obligations.EndOfStartRaisesWhatStands : Prop :=
  ∀ (frameFirst : Bool) (s : State) (ax : AxisSettings) (w : Nat), s.resetHold = none →
    s.start.phase = .announcing → s.start.windowTimer = some w → s.axis? = some ax →
    let first : FaultCause :=
      if 5 ≤ s.drive.failureRun then .feedback else if s.drive.low.state = .active then .endstopLow
      else if s.drive.high.state = .active then .endstopHigh else .drive
    let standing := (if 5 ≤ s.drive.failureRun then 1 else 0) + (if s.drive.low.state = .active then 1 else 0) +
      (if s.drive.high.state = .active then 1 else 0) + (if s.drive.amp.state = .active then 1 else 0)
    1 ≤ standing →
    ∃ t, exec (.announceWindowEnd frameFirst) s = .next t ∧ t.start.phase = .running ∧ t.blend.move = .fault ∧
      t.drive.cause = first ∧ (t.drive.further = true ↔ 2 ≤ standing) ∧ t.drive.enable = false ∧
      t.drive.brake = .engaged ∧ t.limiter.setpoint = s.drive.measured * 16 ∧ t.blend.c = s.drive.measured * 16

/-! ## The servo chain -/

/-- The raw value of a mapping by freshness, contents and enable switch (R2, R3), its contribution (R4), and the combined
deflection J as the clamped sum (R4). -/
def Obligations.StickValuesCombineIntoJ : Prop :=
  (∀ (peers : PeerTable) (m : Mapping),
    (peers.find m.source = none → rawValue peers m = 0) ∧
    (∀ e, peers.find m.source = some e →
      (e.freshness = .silent ∨ e.freshness = .stale ∨ e.stick? = none → rawValue peers m = 0) ∧
      (∀ c, e.freshness = .fresh ∨ e.freshness = .aging → e.stick? = some c →
        ((∀ i, m.enable = some i → c.switches.getLsbD i = true) →
          rawValue peers m = max (-2047) (min (c.values.getD m.channel 0) 2047)) ∧
        (∀ i, m.enable = some i → c.switches.getLsbD i = false → rawValue peers m = 0)))) ∧
  (∀ (m : Mapping) (x : Int), (m.sign = 1 ∨ m.sign = -1) → m.gain ≤ 256 → x.natAbs ≤ 2047 →
    (contribution m x).natAbs ≤ 2047 ∧ (0 ≤ x → contribution m x = m.sign * (x * m.gain / 256)) ∧
    contribution m (-x) = -contribution m x ∧ (m.gain = 256 → contribution m x = m.sign * x)) ∧
  (∀ (peers : PeerTable) (ms : List Mapping),
    combined peers ms = max (-2047) (min ((ms.map fun m => contribution m (rawValue peers m)).sum) 2047) ∧
    (combined peers ms).natAbs ≤ 2047)

/-- Deadband, expo and jog speed: each stage's formula on positive inputs, its symmetry, and its range (R5, R6, R7); a
recompute sets the computed Vj and clears the latch exactly at 0, and nothing else changes (R8, R9, R12). -/
def Obligations.ShapingStagesFollowTheirFormulas : Prop :=
  (∀ (d : Nat) (j : Int), d ≤ 511 → j.natAbs ≤ 2047 →
    (j.natAbs ≤ d → removeDeadband d j = 0) ∧
    (d < j → removeDeadband d j = (j - d) * 2047 / (2047 - d)) ∧
    removeDeadband d (-j) = -removeDeadband d j ∧ (removeDeadband d j).natAbs ≤ 2047 ∧
    removeDeadband d 2047 = 2047 ∧ removeDeadband d (d + 1) = 1 ∧ removeDeadband 0 j = j) ∧
  (∀ (e : Nat) (x : Int), e ≤ 16 → x.natAbs ≤ 2047 →
    (0 ≤ x → bendExpo e x = (x * (16 - e) * 2047 + x * x * e) / (16 * 2047)) ∧
    bendExpo e (-x) = -bendExpo e x ∧ (bendExpo e x).natAbs ≤ 2047 ∧ bendExpo e 2047 = 2047 ∧ bendExpo 0 x = x) ∧
  (∀ (v : Nat) (x : Int), x.natAbs ≤ 2047 →
    (0 ≤ x → scaleJog v x = x * v / 2047) ∧ scaleJog v (-x) = -scaleJog v x ∧ (scaleJog v x).natAbs ≤ v ∧
    scaleJog v 2047 = v ∧ (x.natAbs * v < 2047 → scaleJog v x = 0)) ∧
  (∀ (ax : AxisSettings) (peers : PeerTable), ax.Good → (jogDemand ax peers).natAbs ≤ ax.vjog ∧
    (jogDemand ax peers).natAbs ≤ ax.vmax) ∧
  (∀ (ax : AxisSettings) (s : State),
    (recompute ax s).stick.computed = jogDemand ax s.peers ∧
    ((recompute ax s).stick.latch = true ↔ s.stick.latch = true ∧ jogDemand ax s.peers ≠ 0) ∧
    (recompute ax s).presentedVj = (if s.stick.latch then 0 else jogDemand ax s.peers) ∧
    (recompute ax s).withStick s.stick = s)

/-- The plan position: its formula, between P0 and T at every step, at T from step N on, and never turning back (R19). -/
def Obligations.PlanPositionStaysBetween : Prop :=
  ∀ p : Plan, 1 ≤ p.n → p.k ≤ p.n →
    (let u := p.k * 65536 / p.n
     p.position = p.p0 + Int.tdiv ((p.t - p.p0) * (u * u * (196608 - 2 * u) / 4294967296 : Nat)) 65536) ∧
    min p.p0 p.t ≤ p.position ∧ p.position ≤ max p.p0 p.t ∧ (p.k = 0 → p.position = p.p0) ∧
    (p.k = p.n → p.position = p.t) ∧
    (∀ k, p.k ≤ k → k ≤ p.n → planE (planU p.k p.n) ≤ planE (planU k p.n))

/-- The setpoint request: the braking bound is the largest speed that can still stop, and the new velocity, setpoint and
step count are as R64 and R69 give them, within Vmax and A. -/
def Obligations.SetpointRequestFollowsTheBrakingBound : Prop :=
  ∀ (vmax a : Nat) (move : MoveState) (g measured : Int) (l : MotionLimiter), 1 ≤ a →
    move ∈ [.hold, .jog, .play, .blend, .interlocked] →
    let e := g - l.setpoint
    let l' := l.step vmax a move g measured
    (∃ b : Nat, b * (b + a) ≤ 2 * a * e.natAbs ∧ (∀ v : Nat, v * (v + a) ≤ 2 * a * e.natAbs → v ≤ b) ∧
      l'.v0 = max (l.v0 - a) (min (e.sign * (min vmax (min b e.natAbs) : Nat)) (l.v0 + a))) ∧
    l'.setpoint = l.setpoint + l'.v0 ∧ l'.stepPos = l'.setpoint / 16 ∧ l'.lastSteps = l'.stepPos - l.stepPos ∧
    (l'.v0 - l.v0).natAbs ≤ a ∧ (l.v0.natAbs ≤ vmax → l'.v0.natAbs ≤ vmax) ∧
    (vmax ≤ 16383 → l.v0.natAbs ≤ vmax → l.stepPos = l.setpoint / 16 → l'.lastSteps.natAbs ≤ 1024)

/-- The Motion Limiter outside a request: a deceleration in STOPPING that does not read G (R66), the setpoint held in
PARKING and RELEASING (R67), and tracking in START, PARKED and FAULT (R63, R68). -/
def Obligations.SetpointStopsHoldsOrTracks : Prop :=
  ∀ (vmax a : Nat) (g measured : Int) (l : MotionLimiter),
    (let l' := l.step vmax a .stopping g measured
     l'.v0.natAbs = l.v0.natAbs - a ∧ (0 ≤ l.v0 → 0 ≤ l'.v0) ∧ (l.v0 ≤ 0 → l'.v0 ≤ 0) ∧
     l'.setpoint = l.setpoint + l'.v0 ∧ l'.stepPos = l'.setpoint / 16 ∧ l'.lastSteps = l'.stepPos - l.stepPos) ∧
    (∀ move, move = .parking ∨ move = .releasing →
      l.step vmax a move g measured = { l with v0 := 0, lastSteps := 0 }) ∧
    (∀ move, move = .start ∨ move = .parked ∨ move = .fault →
      l.step vmax a move g measured = ⟨measured * 16, 0, measured, 0⟩)

/-- The Coupling Unit: R captured at the first STATE frame, Q and Lhi_eff from the partners' positions, and G with the
LIMITED flag (R49, R50, R52, R54, R55). -/
def Obligations.PartnersMoveTheTarget : Prop :=
  (∀ (ax : AxisSettings) (e : PeerEntry) (p : StateContents) (s : State), e.state? = some p → e.freshness = .fresh →
    let t := couplingAccepted ax e s
    (ax.follow = some e.address →
      (∃ r, t.coupling.reference = some r ∧ r = s.coupling.reference.getD p.measured ∧
        t.coupling.q = max (-134217728) (min (ax.k * (p.measured - r) / 256) 134217712)) ∧
      t.coupling.followCondition = some .fresh) ∧
    (ax.follow ≠ some e.address → t.coupling.reference = s.coupling.reference ∧ t.coupling.q = s.coupling.q ∧
      t.coupling.followCondition = s.coupling.followCondition) ∧
    (ax.guard = some e.address → t.coupling.guardMode = .inForce ∧ t.coupling.guardCondition = some .fresh ∧
      t.coupling.lhiEff = max ax.llo (min (min ax.lhi (ax.l0 + ax.l1 * p.measured / 4096)) ax.lhi) ∧
      (ax.llo ≤ ax.lhi → ax.llo ≤ t.coupling.lhiEff ∧ t.coupling.lhiEff ≤ ax.lhi)) ∧
    (ax.guard ≠ some e.address → t.coupling.guardMode = s.coupling.guardMode ∧
      t.coupling.guardCondition = s.coupling.guardCondition ∧ t.coupling.lhiEff = s.coupling.lhiEff) ∧
    t.coupling.g = s.coupling.g ∧ t.withCoupling s.coupling = s) ∧
  (∀ (ax : AxisSettings) (e : PeerEntry) (s : State), e.state? = none → couplingAccepted ax e s = s) ∧
  (∀ (ax : AxisSettings) (s : State),
    let t := formTarget ax s
    t.coupling = { s.coupling with
      g := max (ax.llo * 16) (min (s.blend.c + s.coupling.q) (s.coupling.lhiEff * 16)) } ∧
    t.flags = limitedFlags s.blend.move t.coupling.g (s.blend.c + s.coupling.q) s.flags ∧
    (ax.llo ≤ s.coupling.lhiEff → ax.llo * 16 ≤ t.coupling.g ∧ t.coupling.g ≤ s.coupling.lhiEff * 16) ∧
    (t.withCoupling s.coupling).withFlags s.flags = s)

/-- A period expiry outside the servo-active states: C, the previous C and the setpoint track the measured position and
no pulses are handed on, before a good record and in START, FAULT and, with the stick inactive, PARKED (R17, R25, R63,
R68); a hand station's axis blocks do not move (R60, R72, R96). -/
def Obligations.PeriodExpiryTracksOutsideServo : Prop :=
  ∀ s : State, s.resetHold = none →
    (s.record = none → exec .periodExpiry s = .next
      ((s.withBlend { s.blend with c := s.drive.measured * 16, prevC := s.drive.measured * 16 }).withLimiter
        ⟨s.drive.measured * 16, 0, s.drive.measured, 0⟩)) ∧
    (∀ r, s.record = some r → s.axis? = none → exec .periodExpiry s = .next s) ∧
    (∀ ax, s.axis? = some ax → s.DriveLaw →
      (s.blend.move = .start ∨ s.blend.move = .fault ∨ (s.blend.move = .parked ∧ s.presentedVj = 0)) →
      ∃ t, exec .periodExpiry s = .next t ∧ HandedOver ax s t (s.drive.measured * 16) s.blend.move s.flags ∧
        t.blend = { s.blend with c := s.drive.measured * 16, prevC := s.drive.measured * 16 } ∧ t.sched = s.sched)

/-- HOLD and JOG at a period expiry without interlock: C held or moved by Vj, clamped and locked (R25, R26); HOLD
counts toward parking or passes to JOG, JOG stays or passes to HOLD (R27, R38). A locked direction is the one in which C
does not pass the previous C, for every C that a move state computes: at the low lock the larger of the two stands, at
the high lock the smaller, at both the previous C. The lock takes the previous C within the limits: the model's reading,
log 14.
That a direction changes at the handover itself is the model's choice, log 41. -/
def Obligations.HoldAndJogAtAnExpiry : Prop :=
  ∀ (s : State) (ax : AxisSettings), s.resetHold = none → s.axis? = some ax → s.DriveLaw →
    s.interlockHolds ax = false →
    let held := lockC ax s.drive s.blend.prevC (ax.limit s.blend.c)
    let moved := lockC ax s.drive s.blend.prevC (ax.limit (s.blend.c + s.presentedVj))
    let within := fun x : Int => max (ax.llo * 16) (min x (ax.lhi * 16))
    (∀ x : Int, lockC ax s.drive s.blend.prevC (ax.limit x) =
      match s.drive.lowLock, s.drive.highLock with
      | false, false => within x
      | true, false => max (within x) (within s.blend.prevC)
      | false, true => min (within x) (within s.blend.prevC)
      | true, true => within s.blend.prevC) ∧
    (s.blend.move = .hold → s.holdStays ax → ∃ t, exec .periodExpiry s = .next t ∧
      HandedOver ax s t held .hold s.flags ∧ t.sched = s.sched ∧
      t.blend = { s.blend with c := held, prevC := held, park := if s.atRest then s.blend.park + 1 else 0 }) ∧
    (s.blend.move = .hold → s.presentedVj ≠ 0 → ∃ t, exec .periodExpiry s = .next t ∧
      HandedOver ax s t held .jog s.flags ∧ t.sched = s.sched ∧
      t.blend = { s.blend with move := .jog, c := held, prevC := held, park := 0 }) ∧
    (s.blend.move = .jog → ∃ t, exec .periodExpiry s = .next t ∧ t.sched = s.sched ∧
      (if s.presentedVj = 0 ∧ s.atRest = true then
        HandedOver ax s t moved .hold s.flags ∧
          t.blend = { s.blend with move := .hold, c := moved, prevC := moved, park := 0 }
      else HandedOver ax s t moved .jog s.flags ∧ t.blend = { s.blend with c := moved, prevC := moved }))

/-- PLAY at a period expiry without interlock, arrival or push: the plan takes its next step and C is Pp + D, clamped
and locked; in ADD mode the trim takes the scaled stick and is reset from C (R20, R22, R24, R25, R26). The lock is
the model's reading, log 14.
That a direction changes at the handover itself is the model's choice, log 41. -/
def Obligations.PlayFollowsThePlan : Prop :=
  ∀ (s : State) (ax : AxisSettings) (p : Plan), s.resetHold = none → s.axis? = some ax → s.DriveLaw →
    s.interlockHolds ax = false → s.blend.move = .play → s.blend.plan = some p → p.k ≤ p.n →
    let q := if p.k < p.n then { p with k := p.k + 1 } else p
    ¬(q.k = q.n ∧ s.atRest = true) →
    (ax.mode = .mix → s.blend.w = 0 → s.presentedVj = 0 → ∃ t, exec .periodExpiry s = .next t ∧
      (let c := lockC ax s.drive s.blend.prevC (ax.limit (q.position + s.blend.d))
       HandedOver ax s t c .play s.flags ∧ t.sched = s.sched ∧
       t.blend = { s.blend with plan := some q, c := c, prevC := c })) ∧
    (ax.mode = .add → ∃ t, exec .periodExpiry s = .next t ∧
      (let d := s.blend.d + Int.tdiv (s.presentedVj * ax.trimScale) 1024
       let c := lockC ax s.drive s.blend.prevC (ax.limit (q.position + d))
       HandedOver ax s t c .play s.flags ∧ t.sched = s.sched ∧
       t.blend = { s.blend with plan := some q, d := c - q.position, c := c, prevC := c }))

/-- A push in PLAY in MIX mode: the weight rises by the fade rate and PLAY passes to BLEND with the jog stream at the
previous C; a rise to 1024 at once is a takeover (R22, R27, R29). The lock, and the clamp at the takeover, are the
model's reading, log 14.
That a direction changes at the handover itself is the model's choice, log 41. -/
def Obligations.PushInPlayBeginsTheBlend : Prop :=
  ∀ (s : State) (ax : AxisSettings) (p : Plan), s.resetHold = none → s.axis? = some ax → s.DriveLaw →
    s.interlockHolds ax = false → s.blend.move = .play → s.blend.plan = some p → p.k ≤ p.n → ax.mode = .mix →
    s.blend.w = 0 → s.presentedVj ≠ 0 → 1 ≤ p.f →
    let q := if p.k < p.n then { p with k := p.k + 1 } else p
    let c := lockC ax s.drive s.blend.prevC (ax.limit (q.position + s.blend.d))
    let back := lockC ax s.drive s.blend.prevC (ax.limit s.blend.prevC)
    ∃ t, exec .periodExpiry s = .next t ∧
      (p.f < 1024 → HandedOver ax s t c .blend s.flags ∧ t.sched = s.sched ∧
        t.blend = { s.blend with move := .blend, plan := some q, w := p.f, pj := s.blend.prevC, c := c, prevC := c }) ∧
      (1024 ≤ p.f → HandedOver ax s t back .jog (s.flags ||| 0x02) ∧
        t.sched.report = ⟨some p.cue, .abandoned, .takenOver⟩ ∧
        t.blend = { s.blend with move := .jog, plan := none, waiting := none, w := 0, d := 0, pj := s.blend.prevC,
                                 c := back, prevC := back })

/-- BLEND at a period expiry without interlock: the weight fades by f, the jog stream takes Vj, C is the crossfade
rounded down, clamped and locked; weight 0 returns to PLAY, weight 1024 is the takeover (R22, R23, R25, R26, R27,
R29). The lock is the model's reading, log 14.
That a direction changes at the handover itself is the model's choice, log 41. -/
def Obligations.BlendCrossfadesPlanAndStick : Prop :=
  ∀ (s : State) (ax : AxisSettings) (p : Plan), s.resetHold = none → s.axis? = some ax → s.DriveLaw →
    s.interlockHolds ax = false → s.blend.move = .blend → s.blend.plan = some p → p.k ≤ p.n → ax.mode = .mix →
    let q := if p.k < p.n then { p with k := p.k + 1 } else p
    let v := s.presentedVj
    let w := if v ≠ 0 then min 1024 (s.blend.w + p.f) else s.blend.w - p.f
    let locked := (s.drive.lowLock = true ∧ v < 0) ∨ (s.drive.highLock = true ∧ 0 < v)
    let pj := ax.limit (if locked then s.blend.pj else s.blend.pj + v)
    let c := lockC ax s.drive s.blend.prevC (ax.limit ((q.position * (1024 - w) + pj * w) / 1024))
    let taken := lockC ax s.drive s.blend.prevC pj
    ∃ t, exec .periodExpiry s = .next t ∧
      (0 < w ∧ w < 1024 → HandedOver ax s t c .blend s.flags ∧ t.sched = s.sched ∧
        t.blend = { s.blend with plan := some q, w := w, pj := pj, c := c, prevC := c }) ∧
      (w = 0 → HandedOver ax s t c .play s.flags ∧ t.sched = s.sched ∧
        t.blend = { s.blend with move := .play, plan := some q, w := 0, pj := pj, c := c, prevC := c }) ∧
      (w = 1024 → HandedOver ax s t taken .jog (s.flags ||| 0x02) ∧
        t.sched.report = ⟨some p.cue, .abandoned, .takenOver⟩ ∧
        t.blend = { s.blend with move := .jog, plan := none, waiting := none, w := 0, d := 0, pj := pj, c := taken,
                                 prevC := taken })

/-- Arrival: at the last step and at rest, PLAY passes to HOLD with C on the target (and the trim, in ADD mode), and
ARRIVED is reported (R28). The lock is the model's reading, log 14.
That a direction changes at the handover itself is the model's choice, log 41. -/
def Obligations.PlanArrivesAtRest : Prop :=
  ∀ (s : State) (ax : AxisSettings) (p : Plan), s.resetHold = none → s.axis? = some ax → s.DriveLaw →
    s.interlockHolds ax = false → s.blend.move = .play → s.blend.plan = some p → 1 ≤ p.n → p.k ≤ p.n →
    p.n ≤ p.k + 1 → s.atRest = true → (ax.mode = .mix → s.blend.w = 0 ∧ s.presentedVj = 0) →
    let d := s.blend.d + (if ax.mode = .add then Int.tdiv (s.presentedVj * ax.trimScale) 1024 else 0)
    let c := lockC ax s.drive s.blend.prevC (ax.limit (p.t + d))
    ∃ t, exec .periodExpiry s = .next t ∧ HandedOver ax s t c .hold s.flags ∧
      t.sched.report = ⟨some p.cue, .arrived, .none⟩ ∧
      t.blend = { s.blend with move := .hold, plan := none, d := 0, c := c, prevC := c, park := 0 }

/-- The interlock condition stops an axis in HOLD, JOG, PLAY or BLEND: STOPPING with cause INTERLOCK, the plan abandoned
with FAULTED, the deceleration begun from the C that this expiry's stage 4 gave by the move state (R25, R26, R36). The
lock is the model's reading, log 14.
That a direction changes at the handover itself is the model's choice, log 41. -/
def Obligations.InterlockStopsTheAxis : Prop :=
  ∀ (s : State) (ax : AxisSettings), s.resetHold = none → s.axis? = some ax → s.DriveLaw → s.BlendLaw →
    s.interlockHolds ax = true → s.blend.move ∈ [.hold, .jog, .play, .blend] →
    let v := s.presentedVj
    let stopped := fun (t : State) (x pj : Int) =>
      let c := lockC ax s.drive s.blend.prevC (ax.limit x)
      HandedOver ax s t c .stopping s.flags ∧
        t.blend = { s.blend with move := .stopping, stopCause := .interlock, plan := none, waiting := none, w := 0,
                                 d := 0, pj := pj, c := c, prevC := c }
    ∃ t, exec .periodExpiry s = .next t ∧
      (s.blend.move = .hold → t.sched = s.sched ∧ stopped t s.blend.c s.blend.pj) ∧
      (s.blend.move = .jog → t.sched = s.sched ∧ stopped t (s.blend.c + v) s.blend.pj) ∧
      (∀ p, s.blend.plan = some p →
        let q := if p.k < p.n then { p with k := p.k + 1 } else p
        t.sched = { s.sched with report := ⟨some p.cue, .abandoned, .faulted⟩ } ∧
        (s.blend.move = .play →
          stopped t (q.position + (s.blend.d + if ax.mode = .add then Int.tdiv (v * ax.trimScale) 1024 else 0))
            s.blend.pj) ∧
        (s.blend.move = .blend →
          let w := if v ≠ 0 then min 1024 (s.blend.w + p.f) else s.blend.w - p.f
          let locked := (s.drive.lowLock = true ∧ v < 0) ∨ (s.drive.highLock = true ∧ 0 < v)
          let pj := ax.limit (if locked then s.blend.pj else s.blend.pj + v)
          stopped t ((q.position * (1024 - w) + pj * w) / 1024) pj))

/-- STOPPING and INTERLOCKED at a period expiry: the stop goes on while v0 is not 0, ends in HOLD or INTERLOCKED with
C at the setpoint reached, and INTERLOCKED is left when no partner reports FAULT (R27, R35, R37). The lock is the
model's reading, log 14.
That a direction changes at the handover itself is the model's choice, log 41. -/
def Obligations.StopEndsAtRest : Prop :=
  ∀ (s : State) (ax : AxisSettings), s.resetHold = none → s.axis? = some ax → s.DriveLaw →
    let held := lockC ax s.drive s.blend.prevC (ax.limit s.blend.c)
    let reached := lockC ax s.drive s.blend.prevC (ax.limit s.limiter.setpoint)
    let cause := if s.interlockHolds ax then .interlock else s.blend.stopCause
    (s.blend.move = .stopping → ∃ t, exec .periodExpiry s = .next t ∧ t.sched = s.sched ∧
      (s.limiter.v0 ≠ 0 → HandedOver ax s t held .stopping s.flags ∧
        t.blend = { s.blend with stopCause := cause, c := held, prevC := held }) ∧
      (s.limiter.v0 = 0 → cause = .interlock → HandedOver ax s t reached .interlocked s.flags ∧
        t.blend = { s.blend with move := .interlocked, stopCause := .interlock, c := reached, prevC := reached,
                                 park := 0 }) ∧
      (s.limiter.v0 = 0 → cause ≠ .interlock → HandedOver ax s t reached .hold s.flags ∧
        t.blend = { s.blend with move := .hold, stopCause := .none, c := reached, prevC := reached, park := 0 })) ∧
    (s.blend.move = .interlocked → ∃ t, exec .periodExpiry s = .next t ∧ t.sched = s.sched ∧
      (s.interlockHolds ax = true → HandedOver ax s t held .interlocked s.flags ∧
        t.blend = { s.blend with c := held, prevC := held }) ∧
      (s.interlockHolds ax = false → HandedOver ax s t held .hold s.flags ∧
        t.blend = { s.blend with move := .hold, stopCause := .none, c := held, prevC := held, park := 0 }))

/-- Parking: the park time passes HOLD to PARKING with the brake set and the drive still on (R38, R39, R88), and the
brake set time passes PARKING to PARKED with the drive off and the setpoint on the measured position (R39, R40). The
two named events are the period expiries at which they fall due (the model's reading, log 3); the lock is log 14's. -/
def Obligations.ParkingSetsTheBrake : Prop :=
  ∀ (s : State) (ax : AxisSettings), s.resetHold = none → s.axis? = some ax → s.DriveLaw → s.presentedVj = 0 →
    (s.blend.move = .hold → s.interlockHolds ax = false → s.atRest = true → ax.parkTime ≠ 0 →
      ax.parkTime * 1000 ≤ s.blend.park + 1 →
      let held := lockC ax s.drive s.blend.prevC (ax.limit s.blend.c)
      ∃ t, exec .parkTimeElapsed s = .next t ∧ HandedOver ax s t held .parking s.flags ∧ t.sched = s.sched ∧
        t.blend = { s.blend with move := .parking, c := held, prevC := held, park := s.blend.park + 1,
                                 brake := ax.brakeSetTime }) ∧
    (s.blend.move = .parking → 2 ≤ s.blend.brake → ∃ t, exec .periodExpiry s = .next t ∧
      HandedOver ax s t s.blend.c .parking s.flags ∧ t.sched = s.sched ∧
      t.blend = { s.blend with prevC := s.blend.c, brake := s.blend.brake - 1 }) ∧
    (s.blend.move = .parking → s.blend.brake ≤ 1 → ∃ t, exec .brakeSetComplete s = .next t ∧
      HandedOver ax s t s.blend.c .parked s.flags ∧ t.sched = s.sched ∧
      t.blend = { s.blend with move := .parked, prevC := s.blend.c, brake := 0 })

/-- Release: a stick in PARKED or PARKING begins it with its full time at the measured position, and with a release time of
0 completes it at that expiry, in JOG or, interlocked, STOPPING (R39, R40, R41); otherwise it completes into the pending
plan, JOG, HOLD or, interlocked, STOPPING (R41). RELEASE_COMPLETE is the expiry at which
it falls due (the model's reading, log 3); the lock is log 14's. That the following-error run stands as it was at the entry
into a servo-active state, where R81 concludes that it is 0, is the model's choice, log 35.
That a direction changes at the handover itself is the model's choice, log 41. -/
def Obligations.ReleaseCompletesIntoPlanOrStick : Prop :=
  ∀ (s : State) (ax : AxisSettings), s.resetHold = none → s.axis? = some ax → s.DriveLaw →
    let m := s.drive.measured
    (s.blend.move = .parked ∨ s.blend.move = .parking → s.presentedVj ≠ 0 → 0 < ax.brakeReleaseTime →
      ∃ t, exec .periodExpiry s = .next t ∧ t.sched = s.sched ∧ t.limiter = ⟨m * 16, 0, m, 0⟩ ∧
        t.blend = { s.blend with move := .releasing, c := m * 16, prevC := m * 16, brake := ax.brakeReleaseTime } ∧
        t.drive = { s.drive with enable := true, brake := .released, pulses := 0 }) ∧
    (s.blend.move = .parked ∨ s.blend.move = .parking → s.presentedVj ≠ 0 → ax.brakeReleaseTime = 0 →
      s.blend.plan = none → s.blend.waiting = none →
      let c := lockC ax s.drive s.blend.prevC (ax.limit (m * 16))
      let tracked := s.withLimiter { s.limiter with setpoint := m * 16, v0 := 0, stepPos := m }
      ∃ t, exec .periodExpiry s = .next t ∧ t.sched = s.sched ∧
        (s.interlockHolds ax = false → HandedOver ax tracked t c .jog s.flags ∧
          t.blend = { s.blend with move := .jog, c := c, prevC := c, park := 0, brake := 0 }) ∧
        (s.interlockHolds ax = true → HandedOver ax tracked t c .stopping s.flags ∧
          t.blend = { s.blend with move := .stopping, stopCause := .interlock, w := 0, d := 0, c := c, prevC := c,
                                   park := 0, brake := 0 })) ∧
    (s.blend.move = .releasing → 2 ≤ s.blend.brake → ∃ t, exec .periodExpiry s = .next t ∧
      HandedOver ax s t s.blend.c .releasing s.flags ∧ t.sched = s.sched ∧
      t.blend = { s.blend with prevC := s.blend.c, brake := s.blend.brake - 1 }) ∧
    (s.blend.move = .releasing → s.blend.brake ≤ 1 →
      let start := ax.limit s.limiter.setpoint
      let c := lockC ax s.drive s.blend.prevC start
      ∃ t, exec .releaseComplete s = .next t ∧
        (s.interlockHolds ax = false → t.sched = s.sched ∧
          (∀ p, s.blend.waiting = some p → HandedOver ax s t c .play s.flags ∧
            t.blend = { s.blend with move := .play, plan := some ⟨start, p.t, p.n, 0, p.cue, p.f, p.late⟩,
                                     waiting := none, w := 0, d := 0, c := c, prevC := c, park := 0, brake := 0 }) ∧
          (s.blend.waiting = none →
            let move := if s.presentedVj ≠ 0 then .jog else .hold
            HandedOver ax s t c move s.flags ∧
            t.blend = { s.blend with move := move, c := c, prevC := c, park := 0, brake := 0 })) ∧
        (s.interlockHolds ax = true → s.blend.plan = none → HandedOver ax s t c .stopping s.flags ∧
          t.blend = { s.blend with move := .stopping, stopCause := .interlock, waiting := none, w := 0, d := 0, c := c,
                                   prevC := c, park := 0, brake := 0 } ∧
          t.sched.report = match s.blend.waiting with
            | some p => ⟨some p.cue, .abandoned, .faulted⟩
            | none => s.sched.report))

/-! ## Cues -/

/-- A GO that starts at once, or is refused: the plan record, the report, and what a refusal leaves (R18, R31, R32); the
GOs that wait for the brake are the next statement's. -/
def Obligations.GoStartsThePlan : Prop :=
  ∀ (ax : AxisSettings) (f : Firing) (s : State), f.kind = .go →
    (s.blend.move = .start ∨ s.blend.move = .fault →
      fire ax f s = s.withSched { s.sched with report := ⟨some f.cue, .refused, .notReady⟩ }) ∧
    (s.blend.move ∈ [.parked, .parking, .releasing] → s.presets.target? f.preset = none →
      fire ax f s = s.withSched { s.sched with report := ⟨some f.cue, .refused, .invalidPreset⟩ }) ∧
    (s.blend.move = .interlocked ∨ (s.blend.move = .stopping ∧ s.blend.stopCause = .interlock) →
      fire ax f s = s.withSched { s.sched with report := ⟨some f.cue, .refused, .interlock⟩ }) ∧
    (s.blend.move ∈ [.hold, .jog, .play, .blend] ∨ (s.blend.move = .stopping ∧ s.blend.stopCause ≠ .interlock) →
      (s.presets.target? f.preset = none →
        fire ax f s = s.withSched { s.sched with report := ⟨some f.cue, .refused, .invalidPreset⟩ }) ∧
      (∀ target, s.presets.target? f.preset = some target →
        let p0 := if s.blend.move = .stopping then ax.limit s.limiter.setpoint else s.blend.c
        let fade := if f.fade = 0 then ax.fadeRate else min f.fade 1024
        let t := fire ax f s
        t.blend = { s.blend with move := .play, waiting := none, w := 0, d := 0, c := p0,
                                 stopCause := if s.blend.move = .stopping then .none else s.blend.stopCause,
                                 plan := some ⟨p0, target * 16, max 1 (min f.duration 60000), 0, f.cue, fade, f.late⟩ } ∧
        t.sched = { s.sched with report := ⟨some f.cue, .moving, .none⟩ } ∧
        t.drive = { s.drive with enable := true, brake := .released } ∧
        t.limiter = s.limiter ∧ t.flags = s.flags ∧ cueFrame s t))

/-- A GO in PARKED, PARKING or RELEASING makes a pending plan shortened by the brake count, LATE when it is clipped; with
a release time of 0 it starts at once, or stops by the interlock (R33, R41, R45). That MOVING is posted before that stop's
ABANDONED/FAULTED is the model's choice, log 33, and that the last step count and the pulses stand at the entry into
RELEASING its reading, log 29. -/
def Obligations.GoWaitsForTheBrake : Prop :=
  ∀ (ax : AxisSettings) (f : Firing) (s : State) (target : Int), f.kind = .go →
    s.presets.target? f.preset = some target →
    let n := max 1 (min f.duration 60000)
    let fade := if f.fade = 0 then ax.fadeRate else min f.fade 1024
    let m := s.drive.measured
    let t := fire ax f s
    (s.blend.move = .parked ∨ s.blend.move = .parking → 0 < ax.brakeReleaseTime →
      t.blend = { s.blend with move := .releasing, c := m * 16, brake := ax.brakeReleaseTime,
                               waiting := some ⟨target * 16, max 1 (n - ax.brakeReleaseTime), f.cue, fade,
                               f.late || decide (n ≤ ax.brakeReleaseTime)⟩ } ∧
      t.limiter = { s.limiter with setpoint := m * 16, v0 := 0, stepPos := m } ∧
      t.drive = { s.drive with enable := true, brake := .released } ∧
      t.flags = (if n ≤ ax.brakeReleaseTime then s.flags ||| 0x10 else s.flags)) ∧
    (s.blend.move = .releasing →
      t.blend = { s.blend with w := 0, d := 0, plan := none,
                               waiting := some ⟨target * 16, max 1 (n - s.blend.brake), f.cue, fade,
                               f.late || decide (n ≤ s.blend.brake)⟩ } ∧
      t.limiter = s.limiter ∧ t.drive = s.drive ∧
      t.flags = (if n ≤ s.blend.brake then s.flags ||| 0x10 else s.flags)) ∧
    (s.blend.move = .parked ∨ s.blend.move = .parking → ax.brakeReleaseTime = 0 → s.interlockHolds ax = false →
      t.blend = { s.blend with move := .play, c := ax.limit (m * 16), brake := 0, park := 0, w := 0, d := 0,
                               waiting := none, plan := some ⟨ax.limit (m * 16), target * 16, n, 0, f.cue, fade, f.late⟩ } ∧
      t.flags = s.flags) ∧
    (s.blend.move = .parked ∨ s.blend.move = .parking → ax.brakeReleaseTime = 0 → s.interlockHolds ax = true →
      s.blend.plan = none → t.blend.move = .stopping ∧ t.blend.stopCause = .interlock ∧ t.blend.plan = none ∧
        t.blend.waiting = none ∧ t.sched = { s.sched with report := ⟨some f.cue, .abandoned, .faulted⟩ }) ∧
    (s.blend.move ∈ [.parked, .parking, .releasing] → cueFrame s t ∧
      (0 < ax.brakeReleaseTime ∨ s.blend.move = .releasing ∨ s.interlockHolds ax = false →
        t.sched = { s.sched with report := ⟨some f.cue, .moving, .none⟩ }))

/-- A HALT stops what moves, drops the plan or the pending plan, sets the latch, empties the armed list and reports DONE;
a DISARM removes its own source's armed cues (R11, R34, R124). -/
def Obligations.HaltAndDisarmWithdrawCues : Prop :=
  ∀ (ax : AxisSettings) (f : Firing) (s : State),
    (f.kind = .halt →
      let t := fire ax f s
      t.stick = { s.stick with latch := true } ∧ t.sched = ⟨[], ⟨some f.cue, .done, .none⟩⟩ ∧
      (s.blend.move ∈ [.jog, .play, .blend] →
        t.blend = { s.blend with move := .stopping, stopCause := .halt, plan := none, waiting := none, w := 0, d := 0 } ∧
        t.drive = { s.drive with enable := true, brake := .released }) ∧
      (s.blend.move = .releasing →
        t.blend = { s.blend with plan := none, waiting := none, w := 0, d := 0 } ∧ t.drive = s.drive) ∧
      (s.blend.move ∈ [.hold, .stopping, .interlocked, .parking, .parked, .start, .fault] →
        t.blend = s.blend ∧ t.drive = s.drive) ∧
      (((t.withStick s.stick).withBlend s.blend).withDrive s.drive).withSched s.sched = s) ∧
    (f.kind = .disarm →
      fire ax f s = s.withSched ⟨s.sched.armed.filter fun e => e.cue.source != f.cue.source,
        ⟨some f.cue, .done, .none⟩⟩)

/-- A CLEAR in FAULT is accepted exactly when the amplifier-fault input is not ACTIVE and the last read is GOOD: PARKED,
a direction lock for each stop still ACTIVE, the cause gone, the latch set; elsewhere it only reports DONE
(R43, R91, R93). -/
def Obligations.ClearReturnsFromFault : Prop :=
  ∀ (ax : AxisSettings) (f : Firing) (s : State), f.kind = .clear →
    (s.blend.move ≠ .fault → fire ax f s = s.withSched { s.sched with report := ⟨some f.cue, .done, .none⟩ }) ∧
    (s.blend.move = .fault → s.drive.amp.state = .active ∨ s.drive.lastRead ≠ .good →
      fire ax f s = s.withSched { s.sched with report := ⟨some f.cue, .refused, .faultActive⟩ }) ∧
    (s.blend.move = .fault → s.drive.amp.state ≠ .active → s.drive.lastRead = .good →
      fire ax f s = (((s.withBlend { s.blend with move := .parked }).withDrive
        { s.drive with cause := .none, further := false, enable := false, brake := .engaged,
                       lowLock := s.drive.lowLock || decide (s.drive.low.state = .active),
                       highLock := s.drive.highLock || decide (s.drive.high.state = .active) }).withStick
        { s.stick with latch := true }).withSched { s.sched with report := ⟨some f.cue, .done, .none⟩ })

/-- A STORE captures floor(C / 16), the timecode and its cue, marks the entry and queues its index once, the idle writer
taking it at once; or it is refused and changes only the report (R100, R101, R104, R105). -/
def Obligations.StoreCapturesTheCommandedPosition : Prop :=
  ∀ (ax : AxisSettings) (f : Firing) (s : State), f.kind = .store →
    (s.blend.move = .start ∨ s.blend.move = .fault →
      fire ax f s = s.withSched { s.sched with report := ⟨some f.cue, .refused, .notReady⟩ }) ∧
    (s.blend.move ≠ .start → s.blend.move ≠ .fault → 64 ≤ f.preset →
      fire ax f s = s.withSched { s.sched with report := ⟨some f.cue, .refused, .invalidPreset⟩ }) ∧
    (s.blend.move ≠ .start → s.blend.move ≠ .fault → f.preset < 64 → s.StoreLaw →
      let t := fire ax f s
      (t.presets.entry f.preset).body = .valid (s.blend.c / 16) (some s.clock.time) (some f.cue) ∧
      (∀ i, i < 64 → i ≠ f.preset → t.presets.entry i = s.presets.entry i) ∧
      t.sched = { s.sched with report := ⟨some f.cue, .done, .none⟩ } ∧
      (s.presets.inFlight = none →
        (t.presets.entry f.preset).save = .writing ∧ t.presets.writeBack = [] ∧
        t.presets.inFlight = some ⟨f.preset, 1, .sending, (t.presets.entry f.preset).page⟩) ∧
      (s.presets.inFlight.isSome = true →
        (t.presets.entry f.preset).save = .waiting ∧ t.presets.inFlight = s.presets.inFlight ∧
        t.presets.writeBack =
          if f.preset ∈ s.presets.writeBack then s.presets.writeBack else s.presets.writeBack ++ [f.preset]) ∧
      (t.withPresets s.presets).withSched s.sched = s)

/-! ## The Drive Port -/

/-- The three inputs at one expiry: each takes the two-sample rule with its polarity (R75, R83); one that goes from
ACTIVE to INACTIVE clears its lock (R84, R93); those that go ACTIVE raise their causes in the order they are taken:
nothing in START, the further mark in FAULT, otherwise the fault entry with the first as its cause (R84, R85, R89,
R90). The order is the command's operand (the model's choice, log 11). -/
def Obligations.InputsFilterAndRaise : Prop :=
  ∀ (low high amp : Bool) (first : InputLine) (s : State) (ax : AxisSettings), s.resetHold = none →
    s.axis? = some ax →
    let next := fun (f : InputFilter) (a : Bool) =>
      InputFilter.mk (if f.sample = some a then (if a then .active else .inactive) else f.state) (some a)
    let lowNext := next s.drive.low (if ax.lowPolarity = .activeHigh then low else !low)
    let highNext := next s.drive.high (if ax.highPolarity = .activeHigh then high else !high)
    let ampNext := next s.drive.amp amp
    let risen : InputLine → Bool
      | .lowStop => decide (lowNext.state = .active ∧ s.drive.low.state ≠ .active)
      | .highStop => decide (highNext.state = .active ∧ s.drive.high.state ≠ .active)
      | .amplifier => decide (ampNext.state = .active ∧ s.drive.amp.state ≠ .active)
    let rises := (inputOrder first).filter risen
    let filtered := { s.drive with
      low := lowNext, high := highNext, amp := ampNext,
      lowLock := s.drive.lowLock && !decide (s.drive.low.state = .active ∧ lowNext.state = .inactive),
      highLock := s.drive.highLock && !decide (s.drive.high.state = .active ∧ highNext.state = .inactive) }
    ∃ t, exec (.drivePortTimerExpiry low high amp first) s = .next t ∧
      (rises = [] ∨ s.blend.move = .start → t = s.withDrive filtered) ∧
      (rises ≠ [] → s.blend.move = .fault → t = s.withDrive { filtered with further := true }) ∧
      (∀ line rest, rises = line :: rest → s.blend.move ≠ .start → s.blend.move ≠ .fault →
        t.blend.move = .fault ∧
        t.drive = { filtered with enable := false, brake := .engaged, pulses := 0, followingRun := 0,
                                  cause := lineCause line, further := !rest.isEmpty } ∧
        (((t.withBlend s.blend).withDrive s.drive).withLimiter s.limiter).withSched s.sched = s)

/-- A read of the position line: a good one takes the position and, in a servo-active state, compares the following error
(R78, R81); a failed one keeps the position and raises FEEDBACK when the run reaches 5 (R78, R79). -/
def Obligations.PositionReadTakesOrCounts : Prop :=
  ∀ (idle error : Bool) (data : BitVec 24) (s : State) (ax : AxisSettings), s.resetHold = none → s.axis? = some ax →
    (idle = true → error = false →
      let good := { s.drive with measured := data.toInt, lastRead := .good, failureRun := 0 }
      let run := if ax.feLimit < (s.limiter.setpoint / 16 - data.toInt).natAbs then min 255 (s.drive.followingRun + 1)
        else 0
      (s.blend.move.servoActive = false → exec (.positionReadComplete idle data error) s =
        .next (s.withDrive { good with followingRun := 0 })) ∧
      (s.blend.move.servoActive = true → run < ax.feTime → exec (.positionReadComplete idle data error) s =
        .next (s.withDrive { good with followingRun := run })) ∧
      (s.blend.move.servoActive = true → ax.feTime ≤ run → exec (.positionReadComplete idle data error) s =
        .next (raise .following (s.withDrive { good with followingRun := run })))) ∧
    (idle = false ∨ error = true →
      let failed := { s.drive with lastRead := .failed, failureRun := min 255 (s.drive.failureRun + 1) }
      (s.drive.failureRun ≠ 4 → exec (.positionReadComplete idle data error) s = .next (s.withDrive failed)) ∧
      (s.drive.failureRun = 4 → exec (.positionReadComplete idle data error) s =
        .next (raise .feedback (s.withDrive failed))))

/-- Taking a fault: nothing in START (R79, R84, R85), the further mark in FAULT (R90), else the outputs off, the pulses
ended, the cause recorded (R89), the plan abandoned with FAULTED and C and the setpoint on the measured position (R42,
R68); from there a GO is refused, a HALT sets the latch and leaves the Drive Port, and C tracks (R89). That the last
step count stands is the model's reading, log 29. -/
def Obligations.FaultEntryStopsTheAxis : Prop :=
  ∀ (cause : FaultCause) (s : State),
    let m := s.drive.measured
    let t := raise cause s
    (s.blend.move = .start → t = s) ∧
    (s.blend.move = .fault → t = s.withDrive { s.drive with further := true }) ∧
    (s.blend.move ≠ .start → s.blend.move ≠ .fault →
      t.drive = { s.drive with enable := false, brake := .engaged, pulses := 0, cause := cause, further := false,
                               followingRun := 0 } ∧
      t.blend = { s.blend with move := .fault, stopCause := .none, plan := none, waiting := none, w := 0, d := 0,
                               c := m * 16, park := 0, brake := 0 } ∧
      t.limiter = { s.limiter with setpoint := m * 16, v0 := 0, stepPos := m } ∧
      t.sched.armed = s.sched.armed ∧
      t.sched.report = (match s.blend.plan, s.blend.waiting with
        | some p, _ => ⟨some p.cue, .abandoned, .faulted⟩
        | none, some p => ⟨some p.cue, .abandoned, .faulted⟩
        | none, none => s.sched.report) ∧
      (((t.withBlend s.blend).withDrive s.drive).withLimiter s.limiter).withSched s.sched = s ∧
      ∀ ax : AxisSettings,
        (∀ f : Firing, f.kind = .go →
          fire ax f t = t.withSched { t.sched with report := ⟨some f.cue, .refused, .notReady⟩ }) ∧
        (∀ f : Firing, f.kind = .halt → (fire ax f t).stick = { t.stick with latch := true } ∧
          (fire ax f t).drive = t.drive) ∧
        (s.resetHold = none → s.axis? = some ax → ∃ u, exec .periodExpiry t = .next u ∧
          u.blend = { t.blend with c := m * 16, prevC := m * 16 }))

/-- Three single counts: a step pulse leaves one pulse less to send (R76); the period count counts 1 ms periods
modulo 2^32 (R160); a bit time shifts the backoff register, its new lowest bit the exclusive-or of bits 16 and 13 (R154), which
never leaves it at 0, and counts the backoff and the gap (R151, R154; the model's choice, log 8). -/
def Obligations.SingleCountsCount : Prop :=
  ∀ s : State, s.resetHold = none →
    (0 < s.drive.pulses →
      exec .stepPulseEmitted s = .next (s.withDrive { s.drive with pulses := s.drive.pulses - 1 })) ∧
    (∃ t, exec .periodCountExpiry s = .next t ∧
      t.link.periodCount.toNat = (s.link.periodCount.toNat + 1) % 4294967296 ∧
      t.withLink { t.link with periodCount := s.link.periodCount } = s) ∧
    (∃ t, exec .backoffRegisterShift s = .next t ∧
      t.link.shiftReg.getLsbD 0 = (s.link.shiftReg.getLsbD 16 != s.link.shiftReg.getLsbD 13) ∧
      (∀ i, i < 16 → t.link.shiftReg.getLsbD (i + 1) = s.link.shiftReg.getLsbD i) ∧
      (s.link.shiftReg ≠ 0 → t.link.shiftReg ≠ 0) ∧ t.link.backoff = s.link.backoff - 1 ∧
      (s.link.line = .gap → s.link.gapTimer < 31 → t.link.gapTimer = s.link.gapTimer + 1) ∧
      (s.link.line = .lateGap → s.link.gapTimer < 47 → t.link.gapTimer = s.link.gapTimer + 1) ∧
      t.withLink { t.link with shiftReg := s.link.shiftReg, gapTimer := s.link.gapTimer, backoff := s.link.backoff } = s)

/-! ## The Preset Store's writer -/

/-- The writer: SENDING acknowledged begins the programming, and the memory commits the page (R104); an acknowledged poll
leaves the page in the memory and the entry SAVED (R106); an attempt that fails is tried again with the entry as it then
stands, and after the third the entry is UNSAVED and STORE_FAILED is set (R107); a page that was never acknowledged may
hold anything (R109, log 20). -/
def Obligations.WriterTriesThreeTimes : Prop :=
  ∀ (s : State) (i n : Nat) (page : List Byte), s.resetHold = none → s.StoreLaw → s.MemoryLaw →
    (s.presets.inFlight = some ⟨i, n, .sending, page⟩ →
      exec (.sendingEnd true) s =
        .next ((s.withPresets { s.presets with inFlight := some ⟨i, n, .programming, page⟩ }).withMemory
          { s.memory with commit := some (i, page) }) ∧
      (n < 3 → exec (.sendingEnd false) s = .next (s.withPresets
        { s.presets with inFlight := some ⟨i, n + 1, .sending, (s.presets.entry i).page⟩ })) ∧
      (n = 3 → ∃ t, exec (.sendingEnd false) s = .next t ∧ WriterFinished s t i .unsaved ∧
        t.flags = s.flags ||| 0x04 ∧ (t.withPresets s.presets).withFlags s.flags = s)) ∧
    (s.presets.inFlight = some ⟨i, n, .programming, page⟩ → page.length = 16 →
      (∃ t, exec .programmingAcknowledged s = .next t ∧ WriterFinished s t i .saved ∧ t.memory.commit = none ∧
        Memory.readBytes t.memory.cells (pageOffset i) 16 = page ∧
        (∀ a, a < pageOffset i ∨ pageOffset i + 16 ≤ a → Memory.read t.memory.cells a = Memory.read s.memory.cells a) ∧
        (t.withPresets s.presets).withMemory s.memory = s) ∧
      (∃ t, exec .programmingTimeout s = .next t ∧ t.memory.commit = none ∧ t.freeCount = s.freeCount + 1 ∧
        Memory.readBytes t.memory.cells (pageOffset i) 16 = tornBytes s.freeCount ∧
        (∀ a, a < pageOffset i ∨ pageOffset i + 16 ≤ a → Memory.read t.memory.cells a = Memory.read s.memory.cells a) ∧
        (n < 3 → t.flags = s.flags ∧
          t.presets = { s.presets with inFlight := some ⟨i, n + 1, .sending, (s.presets.entry i).page⟩ }) ∧
        (n = 3 → t.flags = s.flags ||| 0x04 ∧ WriterFinished s t i .unsaved) ∧
        (((t.withPresets s.presets).withMemory s.memory).withFlags s.flags).withFreeCount s.freeCount = s))

/-! ## Clock and cues -/

/-- The Scene Clock counts: the accumulator takes the frame rate and the frame advances at 1000 (R112), its number by
one modulo the day (R111); a frame advance that no armed cue waits for changes the clock alone, and one that the head
of the armed list alone waits for fires it, the entry leaving the list; several fire one after another in list order, and
a HALT that comes first empties the list (R121). FRAME_ADVANCE is that expiry (the model's reading, log 3). -/
def Obligations.ClockCountsFramesAndFires : Prop :=
  ∀ (s : State) (r : Record), s.resetHold = none → s.record = some r → r.Good → s.ClockLaw →
    let c := s.clock.tick r.fps
    (s.clock.acc + r.fps < 1000 →
      exec .sceneClockExpiry s = .next (s.withClock { s.clock with acc := s.clock.acc + r.fps })) ∧
    (1000 ≤ s.clock.acc + r.fps →
      c.acc = s.clock.acc + r.fps - 1000 ∧ c.synced = s.clock.synced ∧ c.time.inRange r.fps = true ∧
      frameNumber r.fps c.time = (frameNumber r.fps s.clock.time + 1) % (86400 * r.fps) ∧
      exec .frameAdvance s = exec .sceneClockExpiry s ∧
      ((∀ e ∈ s.sched.armed, frameNumber r.fps e.start ≠ frameNumber r.fps c.time) →
        exec .sceneClockExpiry s = .next (s.withClock c)) ∧
      (s.axis? = none → exec .sceneClockExpiry s = .next (s.withClock c)) ∧
      (∀ ax, s.axis? = some ax → ∃ t, exec .frameAdvance s = .next t ∧
        FiresInOrder ax (fun e => frameNumber r.fps e.start = frameNumber r.fps c.time) (fun _ => false)
          (s.withClock c) t ∧
        t.sched.armed.Sublist s.sched.armed ∧
        (∀ e ∈ t.sched.armed, frameNumber r.fps e.start ≠ frameNumber r.fps c.time)) ∧
      (∀ ax e rest, s.axis? = some ax → s.sched.armed = e :: rest → e.kind = .halt →
        frameNumber r.fps e.start = frameNumber r.fps c.time →
        ∃ t, exec .frameAdvance s = .next t ∧ t.sched = ⟨[], ⟨some e.cue, .done, .none⟩⟩ ∧ t.stick.latch = true) ∧
      (∀ ax e rest, s.axis? = some ax → s.sched.armed = e :: rest →
        frameNumber r.fps e.start = frameNumber r.fps c.time →
        (∀ x ∈ rest, frameNumber r.fps x.start ≠ frameNumber r.fps c.time) →
        exec .frameAdvance s = .next (fire ax ⟨e.cue, e.kind, e.preset, e.duration, e.fade, false⟩
          ((s.withClock c).withSched { s.sched with armed := rest }))))

/-- A CUE frame at the Intake: one for this axis station, of one of the five kinds, from a source with an entry and newer
than the last from it, is taken once, replacing an armed entry of its own number; any other changes nothing (R117).
Without a start time it fires at once (R118). With one it is refused TOO_FAR out of range and UNSYNCED on a clock not
synced, fires on its frame, fires late one or two frames after it, is armed in its place by remaining time up to an hour
ahead, or refused LIST_FULL; it is TOO_FAR up to half a day ahead, and MISSED beyond (R119, R120). A hand station
discards it (R128). -/
def Obligations.CuesAreTakenOnce : Prop :=
  ∀ (s : State) (r : Record) (rec : RingRecord) (rest : List RingRecord) (clockFirst : Bool), s.resetHold = none →
    s.record = some r → r.Good → s.link.ring = rec :: rest → rec.kind = .cue →
    let c := readCueContents rec.payload
    let base := (s.withLink { s.link with ring := rest }).withIntake (some rec)
    (s.axis? = none ∨ c.scope.getLsbD r.address = false ∨ 4 < c.kind ∨ s.peers.find rec.source = none ∨
        (∃ e l, s.peers.find rec.source = some e ∧ e.lastCue = some l ∧ ¬newer l c.number) →
      exec (.intakeTake clockFirst) s = .next (base.withIntake none)) ∧
    (∀ (ax : AxisSettings) (e : PeerEntry) (kind : CueKind), s.axis? = some ax → c.scope.getLsbD r.address = true →
      cueKindOf c.kind = some kind → s.peers.find rec.source = some e → (∀ l, e.lastCue = some l → newer l c.number) →
      let cue : ArmedCue := ⟨⟨rec.source, c.number⟩, kind, c.preset, c.duration, c.fade, c.start⟩
      let kept := s.sched.armed.filter fun x => decide (x.cue ≠ cue.cue)
      let taken := (base.withPeers (s.peers.put { e with lastCue := some c.number })).withSched
        { s.sched with armed := kept }
      let fired := fun (late : Bool) (u : State) => (fire ax ⟨cue.cue, kind, c.preset, c.duration, c.fade, late⟩ u)
      let reported := fun (phase : Phase) (reason : Reason) => taken.withSched ⟨kept, ⟨some cue.cue, phase, reason⟩⟩
      let ends := fun u : State => exec (.intakeTake clockFirst) s = .next (u.withIntake none)
      (c.timed = 0 → ends (fired false taken)) ∧
      (c.timed ≠ 0 → c.start.inRange r.fps = false → ends (reported .refused .tooFar)) ∧
      (c.timed ≠ 0 → c.start.inRange r.fps = true → s.clock.synced = false → ends (reported .refused .unsynced)) ∧
      (c.timed ≠ 0 → c.start.inRange r.fps = true → s.clock.synced = true →
        let now := frameNumber r.fps s.clock.time
        let ahead := dayDistance r.fps (frameNumber r.fps c.start) now
        let behind := dayDistance r.fps now (frameNumber r.fps c.start)
        (ahead = 0 → ends (fired false taken)) ∧
        (behind = 1 ∨ behind = 2 → ends (fired true (taken.withFlags (s.flags ||| 0x10)))) ∧
        (1 ≤ ahead → ahead ≤ 3600 * r.fps →
          (8 ≤ kept.length → ends (reported .refused .listFull)) ∧
          (kept.length < 8 → ∃ before after, kept = before ++ after ∧
            ends (taken.withSched ⟨before ++ cue :: after, ⟨some cue.cue, .armed, .none⟩⟩) ∧
            (∀ x ∈ before, x.remaining r.fps now ≤ ahead) ∧
            (∀ x, after.head? = some x → ahead < x.remaining r.fps now))) ∧
        (3600 * r.fps < ahead → ahead ≤ 43200 * r.fps → ends (reported .refused .tooFar)) ∧
        (43200 * r.fps < ahead → 2 < behind →
          ends ((reported .missed .none).withFlags (s.flags ||| 0x08)))))

/-! ## Peers -/

/-- A STICK or STATE frame at the Intake: a newer one of the expected kind becomes its entry's contents, FRESH with age 0,
and is handed to the Stick Shaper, the Coupling Unit and, from the clock source, the Scene Clock, which compares the stamp
and loads it, armed cues firing or missed at the jump (R8, R49, R52, R113, R114, R122, R123, R132, R133); the command says
whether the clock comes first (R13, log 12). Another is discarded (R129, R132). An ANNOUNCE clears the sequence and cue
windows, hands on a change of freshness (R136), and in hand role writes its roster item (R137); that it clears L follows
R136 and not R129's sentence, the model's choice, log 39. The ring's oldest record leaves it either way (R128). -/
def Obligations.IntakeUpdatesItsEntry : Prop :=
  ∀ (s : State) (r : Record) (rec : RingRecord) (rest : List RingRecord) (clockFirst : Bool), s.resetHold = none →
    s.record = some r → s.link.ring = rec :: rest →
    let base := (s.withLink { s.link with ring := rest }).withIntake (some rec)
    (∀ e, s.peers.find rec.source = some e → rec.kind = e.kind.frameKind →
      (e.freshness = .silent ∨ e.freshness = .stale ∨ ∀ l, e.lastSequence = some l → newer l rec.sequence) →
      let heard : PeerEntry := ⟨e.address, e.kind, some rec.sequence, .fresh, 0,
        some (match e.kind with
          | .stick => .stick (readStick rec.payload)
          | .state => .state (readState rec.payload)),
        some (readStamp rec.payload), some rec.arrival, e.lastCue⟩
      let put := base.withPeers (s.peers.put heard)
      let blocks := fun u v : State =>
        (s.axis? = none → v = u) ∧ ∀ ax, s.axis? = some ax → AcceptanceHeard ax heard u v
      put.peers.find rec.source = some heard ∧ (∀ a, a ≠ rec.source → put.peers.find a = s.peers.find a) ∧
      ∃ u t, exec (.intakeTake clockFirst) s = .next (t.withIntake none) ∧
        (clockFirst = false → blocks put u ∧ StampHeard r heard u t) ∧
        (clockFirst = true → StampHeard r heard put u ∧ blocks u t)) ∧
    (rec.kind = .stick ∨ rec.kind = .state →
      (s.peers.find rec.source = none ∨ (∃ e, s.peers.find rec.source = some e ∧ (rec.kind ≠ e.kind.frameKind ∨
        ((e.freshness = .fresh ∨ e.freshness = .aging) ∧ ∃ l, e.lastSequence = some l ∧ ¬newer l rec.sequence)))) →
      exec (.intakeTake clockFirst) s = .next (base.withIntake none)) ∧
    (rec.kind = .announce → ∃ t, exec (.intakeTake clockFirst) s = .next t ∧
      (∀ a, a ≠ rec.source → t.peers.find a = s.peers.find a) ∧
      (s.peers.find rec.source = none → t.peers.entries = s.peers.entries ∧ t.stick = s.stick ∧
        t.coupling = s.coupling) ∧
      (∀ e, s.peers.find rec.source = some e →
        let heard := { e with
          lastSequence := none, lastCue := none, heardAt := some rec.arrival, age := 0, freshness := .fresh }
        t.peers.entries = (s.peers.put heard).entries ∧ t.peers.find rec.source = some heard ∧
        (e.freshness = .fresh ∨ s.axis? = none → t.stick = s.stick ∧ t.coupling = s.coupling) ∧
        (∀ ax, e.freshness ≠ .fresh → s.axis? = some ax → ∃ u, ChangeHeard ax heard (s.withPeers (s.peers.put heard)) u ∧
          t.stick = u.stick ∧ t.coupling = u.coupling)) ∧
      (s.hand? = none → t.peers.roster = s.peers.roster) ∧
      (s.hand?.isSome = true → s.ListLaw → ∀ i : RosterItem, i ∈ t.peers.roster ↔
        i = ⟨rec.source, readAnnounce rec.payload, rec.arrival⟩ ∨ (i ∈ s.peers.roster ∧ i.address ≠ rec.source)) ∧
      (((t.withPeers s.peers).withStick s.stick).withCoupling s.coupling) = base.withIntake none)

/-- An ageing expiry: every entry that is not SILENT grows older, FRESH passes to AGING past T_fresh and AGING to STALE
past T_stale (R138). Each change is an event of its own, handed to the Stick Shaper and the Coupling Unit before the next
(R8, R14, R51, R53, R58, R138, R139), in an order that the command gives: any order of the changed entries can be given
(log 13). A passage into STALE sets SOURCE_LOST and PARTNER_LOST in axis role (R140) and, for the clock source, clears the
synced flag (R114). The two named changes are such expiries (the model's reading, log 3). -/
def Obligations.AgeingChangesFreshness : Prop :=
  (∀ l : List Nat, visitOrder [] l = l) ∧
  (∀ order l : List Nat, (visitOrder order l).Perm l ∧ (order.Perm l → l.Nodup → visitOrder order l = order)) ∧
  ∀ (s : State) (r : Record) (order : List Nat), s.resetHold = none → s.record = some r →
    (s.peers.entries.map PeerEntry.address).Nodup →
    let older := fun e : PeerEntry => if e.freshness = .silent then e else { e with age := min 65535 (e.age + 1) }
    let next := fun e : PeerEntry =>
      if e.freshness = .silent then e
      else
        let a := min 65535 (e.age + 1)
        { e with age := a, freshness :=
                 if e.freshness = .fresh ∧ r.tFresh < a then .aging
                 else if e.freshness = .aging ∧ r.tStale < a then .stale else e.freshness }
    let changed := (s.peers.entries.filter fun e => decide ((next e).freshness ≠ e.freshness)).map next
    let lost := s.peers.entries.filter fun e => decide (e.freshness ≠ .stale ∧ (next e).freshness = .stale)
    ∃ t, exec (.ageingExpiry order) s = .next t ∧
      t.peers = { s.peers with entries := s.peers.entries.map next } ∧
      (s.axis? = none → t.flags = s.flags ∧ t.stick = s.stick ∧ t.coupling = s.coupling) ∧
      (∀ ax, s.axis? = some ax →
        t.flags = s.flags ||| (if lost.any fun e => decide (e.kind = .stick) then 0x80 else 0) |||
          (if lost.any fun e => decide (ax.follow = some e.address ∨ ax.guard = some e.address) then 0x40 else 0)) ∧
      (∀ ax, s.axis? = some ax → ∃ l u, l.Perm changed ∧
        l.map PeerEntry.address = (visitOrder order (s.peers.entries.map PeerEntry.address)).filter
          (fun a => decide (a ∈ changed.map PeerEntry.address)) ∧
        ChangesHeard ax l (s.withPeers { s.peers with entries := s.peers.entries.map older }) u ∧
        t.stick = u.stick ∧ t.coupling = u.coupling) ∧
      (t.clock = { s.clock with
        synced := s.clock.synced && !lost.any fun e => decide (r.clockSource = some e.address) }) ∧
      (((((t.withPeers s.peers).withStick s.stick).withCoupling s.coupling).withClock s.clock).withFlags s.flags) = s ∧
      (∀ e ∈ s.peers.entries, e.freshness ≠ .aging → (next e).freshness = .aging →
        ∃ u, exec (.entryBecomesAging e.address) s = .next u ∧ exec (.ageingExpiry [e.address]) s = .next u) ∧
      (∀ e ∈ s.peers.entries, e.freshness ≠ .stale → (next e).freshness = .stale →
        ∃ u, exec (.entryBecomesStale e.address) s = .next u ∧ exec (.ageingExpiry [e.address]) s = .next u)

/-! ## The crane link -/

/-- The line: carrier makes GAP and FREE BUSY but not LATE_GAP, its end begins the gap, and the gap ends in FREE, in
BUSY, or, with a frame in WAIT, in that frame's attempt, its stamp latched from the Scene Clock (R151, R152, R158).
This station's own carrier and the end of a foreign one meanwhile are the model's reading, log 9. That LATE_GAP and GAP_END
are taken whatever the gap timer shows is log 8's choice, and that the end of a carrier that started within LATE_GAP
begins the gap afresh, against R152's sentence, is log 40's. -/
def Obligations.LineFollowsTheCarrier : Prop :=
  ∀ s : State, s.resetHold = none →
    exec .carrierStart s = .next (s.withLink { s.link with
      carrier := true, line := if s.link.line = .lateGap then .lateGap else .busy }) ∧
    (s.link.phase = .wait ∨ s.link.phase = .backoff →
      exec .carrierEnd s = .next (s.withLink { s.link with carrier := false, line := .gap, gapTimer := 0 })) ∧
    (s.link.line = .gap →
      exec .lateGap s = .next (s.withLink { s.link with line := .lateGap, gapTimer := 32 })) ∧
    (s.link.line = .lateGap →
      (s.link.phase ≠ .wait ∨ s.link.current = none →
        exec .gapEnd s = .next (s.withLink { s.link with
          line := if s.link.carrier then .busy else .free, gapTimer := 48 })) ∧
      (∀ f, s.link.phase = .wait → s.link.current = some f →
        let stamp : Stamp := ⟨s.clock.time, s.clock.acc⟩
        exec .gapEnd s = .next (s.withLink { s.link with
          line := .busy, gapTimer := 48, carrier := true, reception := false, phase := .send,
          wire := wireBytes s.address f stamp,
          current := some (match f.contents with
            | .stick _ | .state _ => { f with stamp := some stamp }
            | .announce _ | .cue _ => f) })))

/-- A collision counts, draws the backoff from the register and jams (R153, R154); the jam's end begins the gap,
takes newer periodic contents (R149), and backs off by slots of 64 bit times, or waits when none is drawn (R154); at
16 collisions a CUE frame has a second round and any other frame leaves the queue, the newer contents it took with it, a
CUE frame then LOST, and the oldest CUE frame, else the periodic one, becomes current and waits (R147, R155; the periodic
slot holds no CUE frame, a law of every step); a backoff ends in WAIT, or on a FREE line in an attempt (R152, R154). This station's own carrier is the model's
reading, log 9; its choices are a jam that begins with 1 (log 37), a BACKOFF_END taken whatever the count of the backoff
shows (log 8), phase, count and round without a current frame (log 25), and R155 before R157's closing sentence
(log 36). -/
def Obligations.CollisionsBackOff : Prop :=
  ∀ s : State, s.resetHold = none →
    (s.link.phase = .send → exec .collision s = .next (s.withLink { s.link with
      attempts := s.link.attempts + 1, phase := .jam, wire := [0xAA, 0xAA, 0xAA, 0xAA],
      drawn := s.link.shiftReg.toNat % 2 ^ min (s.link.attempts + 1) 10 })) ∧
    (∀ f, s.link.phase = .jam → s.link.current = some f →
      let newer := match s.link.periodic with
        | some g => if f.isPeriodic then some g else none
        | none => none
      let l := { s.link with
        wire := [], carrier := false, line := .gap, gapTimer := 0, current := some (newer.getD f),
        periodic := if newer.isSome then none else s.link.periodic }
      (s.link.attempts < 16 → exec .jamEnd s = .next (s.withLink
        (if s.link.drawn = 0 then { l with phase := .wait, backoff := 0 }
          else { l with phase := .backoff, backoff := s.link.drawn * 64 }))) ∧
      (∀ c, 16 ≤ s.link.attempts → f.contents = .cue c → s.link.round = 1 →
        exec .jamEnd s = .next (s.withLink { l with phase := .wait, backoff := 0, attempts := 0, round := 2 })) ∧
      (16 ≤ s.link.attempts → (f.isPeriodic = true ∨ s.link.round ≠ 1) →
        (∀ g, s.link.periodic = some g → g.isPeriodic = true) → ∃ t, exec .jamEnd s = .next t ∧
        (let dropped := { l with current := none, phase := .wait, attempts := 0, round := 1 }
         t.link = match l.cueSlots, l.periodic with
          | g :: rest, _ => { dropped with current := some g, cueSlots := rest, backoff := 0 }
          | [], some g => { dropped with current := some g, periodic := none, backoff := 0 }
          | [], none => dropped) ∧
        (∀ c, f.contents = .cue c → t.panel = { s.panel with
          recent := s.panel.recent.map fun x => if x.number = c.number then ⟨x.number, .lost⟩ else x }) ∧
        (f.isPeriodic = true → t.panel = s.panel) ∧ (t.withLink s.link).withPanel s.panel = s)) ∧
    (s.link.phase = .backoff →
      (s.link.line ≠ .free → exec .backoffEnd s = .next (s.withLink { s.link with phase := .wait, backoff := 0 })) ∧
      (∀ f, s.link.line = .free → s.link.current = some f →
        let stamp : Stamp := ⟨s.clock.time, s.clock.acc⟩
        exec .backoffEnd s = .next (s.withLink { s.link with
          current := some (f.stampedBy stamp), phase := .send, backoff := 0, line := .busy, carrier := true,
          reception := false, wire := wireBytes s.address f stamp })))

/-- A completed frame leaves the queue, the gap begins, and the oldest CUE frame, else the periodic one, becomes current
and waits (R147, R156); a STATE frame clears the flags that stood set since its build, in the waiting frame's account too
(R159); a CUE frame is SENT (R156, R174). Phase, count and round without a current frame are the model's
choice, log 25. -/
def Obligations.CompletedFrameLeavesTheQueue : Prop :=
  ∀ (s : State) (f : Frame), s.resetHold = none → s.link.phase = .send → s.link.current = some f →
    let cleared : FlagSet := match f.contents with
      | .state _ => f.standing
      | _ => 0
    let waiting := s.link.periodic.map fun g => { g with standing := g.standing &&& ~~~cleared }
    let ended := { s.link with wire := [], carrier := false, line := .gap, gapTimer := 0, phase := .wait, attempts := 0,
                               round := 1, current := none, periodic := waiting }
    ∃ t, exec .attemptComplete s = .next t ∧
      (s.link.cueSlots = [] → s.link.periodic = none → t.link = ended) ∧
      (∀ g, s.link.cueSlots = [] → waiting = some g →
        t.link = { ended with current := some g, periodic := none, backoff := 0 }) ∧
      (∀ g rest, s.link.cueSlots = g :: rest →
        t.link = { ended with current := some g, cueSlots := rest, backoff := 0 }) ∧
      t.flags = s.flags &&& ~~~cleared ∧
      (∀ c, f.contents = .cue c → t.panel = { s.panel with
        recent := s.panel.recent.map fun x => if x.number = c.number then ⟨x.number, .sent⟩ else x }) ∧
      (f.isPeriodic = true → t.panel = s.panel) ∧
      ((t.withLink s.link).withFlags s.flags).withPanel s.panel = s

/-- At a frame period expiry the station builds its STATE or STICK frame with the next sequence number (R148, R169); it
becomes current in an empty queue, replaces a current periodic frame in WAIT or BACKOFF, and otherwise fills the periodic
slot (R147, R149). The carrier and the reception at an attempt are log 9's. -/
def Obligations.PeriodicFrameIsBuilt : Prop :=
  ∀ s : State, s.resetHold = none → s.link.periodTimer = true →
    let n := s.link.nextSequence.getD (s.link.shiftReg.toNat % 256)
    ∃ t f, exec .framePeriodExpiry s = .next t ∧ f.sequence = n ∧ f.stamp = none ∧
      (s.axis?.isSome = true → f.standing = s.flags ∧ f.contents = .state ⟨s.blend.move.code, s.drive.cause.code,
        s.drive.measured, max (-134217728) (min s.limiter.setpoint 134217712), s.limiter.v0, s.blend.w,
        (s.sched.report.cue.map CueId.source).getD 0, (s.sched.report.cue.map CueId.number).getD 0,
        s.sched.report.phase.code, s.sched.report.reason.code, s.flags⟩) ∧
      (s.axis? = none → f.contents = .stick ⟨s.hand.values, s.hand.switches⟩) ∧
      PeriodicQueued f (s.withLink { s.link with nextSequence := some ((n + 1) % 256) }) t

/-- Reception: a start pattern reserves a place in the ring, or the frame is rejected and RX_FULL set in axis role (R160,
R163); at the end of receipt a frame of a known kind with its length, a sender's address and a good CRC-16 becomes a
record when the accept map passes it, and any other is discarded (R161, R162). -/
def Obligations.ReceptionFillsTheRing : Prop :=
  ∀ s : State, s.resetHold = none →
    (s.record.isSome = true → s.link.phase = .wait ∨ s.link.phase = .backoff → s.link.reception = false →
      (s.link.ring.length < 8 → exec .startPattern s = .next (s.withLink { s.link with reception := true })) ∧
      (8 ≤ s.link.ring.length → exec .startPattern s =
        .next (if s.axis?.isSome then s.withFlags (s.flags ||| 0x01) else s))) ∧
    (s.link.reception = true → ∀ (bytes : List Byte) (whole : Bool),
      let good := fun kind : FrameKind =>
        whole = true ∧ bytes.length = kind.payloadLength + 6 ∧ (bytes.getD 1 0).toNat = kind.code ∧
        (bytes.getD 3 0).toNat = kind.payloadLength ∧ 1 ≤ (bytes.getD 0 0).toNat ∧ (bytes.getD 0 0).toNat ≤ 62 ∧
        (bytes.getD 0 0).toNat ≠ s.address ∧
        (crc16 (bytes.take (kind.payloadLength + 4))).toNat =
          (bytes.getD (kind.payloadLength + 4) 0).toNat * 256 + (bytes.getD (kind.payloadLength + 5) 0).toNat
      let passes := fun kind : FrameKind => kind = .announce ∨ kind = .cue ∨
        s.link.acceptMap.getLsbD ((crc16 [bytes.getD 0 0, BitVec.ofNat 8 kind.code]).toNat / 1024) = true
      (∀ kind, good kind → passes kind → exec (.endOfReceipt bytes whole) s =
        .next (s.withLink { s.link with reception := false, ring := s.link.ring ++ [⟨(bytes.getD 0 0).toNat, kind,
                                        (bytes.getD 2 0).toNat, (bytes.drop 4).take kind.payloadLength, s.link.periodCount.toNat⟩] })) ∧
      ((∀ kind, ¬(good kind ∧ passes kind)) → exec (.endOfReceipt bytes whole) s =
        .next (s.withLink { s.link with reception := false })))

/-! ## Hand inputs and the panel line -/

/-- A scan of a hand station: each reading within 40 of its calibration gives its value, rounded toward zero and limited to
2047, and any other 0 and a bit of the fault set (R167); a switch takes a state that its last four samples agree on, and
otherwise stands (R168). -/
def Obligations.HandScanCalibratesAndDebounces : Prop :=
  ∀ (readings : Vector (BitVec 10) 8) (closed : BitVec 16) (s : State) (cals : List Calibration), s.resetHold = none →
    s.hand? = some cals → cals.length = 8 → s.hand.history.length = 16 →
    ∃ t, exec (.handSamplerExpiry readings closed) s = .next t ∧ t.withHand s.hand = s ∧
      t.hand.raw = readings.toList.map (fun r => some r.toNat) ∧ t.hand.values.length = 8 ∧
      (∀ (i : Nat) (cal : Calibration) (r : BitVec 10), cals[i]? = some cal → readings.toList[i]? = some r →
        let x : Int := r.toNat
        (x < cal.lo - 40 ∨ cal.hi + 40 < x → t.hand.values[i]? = some 0 ∧ t.hand.faults.getLsbD i = true) ∧
        (cal.lo - 40 ≤ x → x ≤ cal.hi + 40 → t.hand.faults.getLsbD i = false ∧
          (cal.centre ≤ x → t.hand.values[i]? = some (min 2047 ((x - cal.centre) * 2047 / (cal.hi - cal.centre)))) ∧
          (x < cal.centre →
            t.hand.values[i]? = some (-(min 2047 ((cal.centre - x) * 2047 / (cal.centre - cal.lo))))))) ∧
      (∀ (i : Nat) (h : List Bool), s.hand.history[i]? = some h →
        t.hand.history[i]? = some ((h ++ [closed.getLsbD i]).reverse.take 4).reverse ∧
        t.hand.switches.getLsbD i =
          if h.reverse.take 3 = List.replicate 3 (closed.getLsbD i) then closed.getLsbD i
          else s.hand.switches.getLsbD i)

/-- SEND_CUE with good fields and room queues its CUE frame under the next cue number, QUEUED in the recent cue list,
and answers OK with the number (R150, R173, R174): behind a current frame, or itself current, waiting or, on a FREE
line, at once on the wire (R147, R152). SET_CLOCK loads the timecode with accumulator 0 (R115, R175). A
request command is its whole record received in HUNT (the model's reading, log 6); the carrier and the reception at an
attempt are log 9's. -/
def Obligations.HandStationSendsCuesAndSetsTheClock : Prop :=
  ∀ (s : State) (r : Record), s.resetHold = none → s.record = some r → s.hand?.isSome = true → s.panel.phase = .hunt →
    (∀ (kind : Byte) (scope : BitVec 64) (preset : Byte) (duration fade : BitVec 16) (timed hh mm ss ff : Byte),
      kind.toNat ≤ 4 →
      (kind = 0 → preset.toNat ≤ 63 ∧ 1 ≤ duration.toNat ∧ duration.toNat ≤ 60000 ∧ fade.toNat ≤ 1024) →
      (kind = 2 → preset.toNat ≤ 63) →
      (timed = 0 ∨ (timed = 1 ∧ hh.toNat ≤ 23 ∧ mm.toNat ≤ 59 ∧ ss.toNat ≤ 59 ∧ ff.toNat < r.fps)) →
      (s.link.current = none ∨ s.link.cueSlots.length < 4) →
      let f : Frame := ⟨0, .cue ⟨s.panel.nextCue, kind.toNat, scope, preset.toNat, duration.toNat, fade.toNat,
        timed.toNat, ⟨hh.toNat, mm.toNat, ss.toNat, ff.toNat⟩⟩, none, 0⟩
      ∃ t, exec (.sendCue kind scope preset duration fade timed hh mm ss ff) s = .next t ∧
        t.panel = ({ s.panel with
          nextCue := (s.panel.nextCue + 1) % 256,
          recent := (if 8 ≤ s.panel.recent.length then s.panel.recent.drop 1 else s.panel.recent) ++
            [⟨s.panel.nextCue, .queued⟩] } : PanelLine).replied
          (panelRecord (0x11 :: cueFields kind scope preset duration fade timed hh mm ss ff)) 0x11 .ok
          [BitVec.ofNat 8 s.panel.nextCue] ∧
        (s.link.current.isSome = true → t.link = { s.link with cueSlots := s.link.cueSlots ++ [f] }) ∧
        (s.link.current = none → s.link.line ≠ .free →
          t.link = { s.link with current := some f, attempts := 0, round := 1, phase := .wait, backoff := 0 }) ∧
        (s.link.current = none → s.link.line = .free → t.link = { s.link with
          current := some f, attempts := 0, round := 1, phase := .send, backoff := 0,
          wire := wireBytes s.address f ⟨s.clock.time, s.clock.acc⟩, reception := false, carrier := true,
          line := .busy }) ∧
        (t.withPanel s.panel).withLink s.link = s) ∧
    (∀ hh mm ss ff : Byte, hh.toNat ≤ 23 → mm.toNat ≤ 59 → ss.toNat ≤ 59 → ff.toNat < r.fps →
      exec (.setClock hh mm ss ff) s = .next ((s.withClock
        { s.clock with time := ⟨hh.toNat, mm.toNat, ss.toNat, ff.toNat⟩, acc := 0 }).withPanel
        (s.panel.replied (panelRecord [0x12, hh, mm, ss, ff]) 0x12 .ok [])))

/-- A read is answered from the state and changes nothing but the Panel Line (R172, R174 to R177), with the bytes of its
items, the enumerated ones by their codes: READ_CLOCK, READ_CUE, READ_PEER, READ_ROSTER, READ_PRESET and every section of
READ_SELF, each served exactly in its conditions (R15, R45, R59, R71, R95, R110, R127, R143, R165, R174 to R178, R189,
R190, R192). A kind that the station's role does not serve, or any but READ_SELF before a good record, is WRONG_ROLE, a
field out of range BAD_FIELD, an address that has no entry UNKNOWN_PEER (R172, R175, R176, R177); a SET_CLOCK out of range
is BAD_FIELD (R175), and so is a SEND_CUE of an unknown cue kind, with a field that its kind checks out of range, a
start-time flag above 1 or a start time out of range; any other SEND_CUE for which there is no room is BUSY (R173, R192).
A request command is its whole record received in HUNT (the model's reading, log 6); the items' widths, their shared
presence bytes, the stop cause's codes and the roster's two counts follow log 18, the setpoint and the step position beyond
their widths log 30, section 5 before a good record logs 17, 31 and 43; a READ_SELF of a section above 7 before a good
record follows log 34. -/
def Obligations.ReadsAnswerFromTheState : Prop :=
  ∀ (s : State) (a : Byte), s.resetHold = none → s.panel.phase = .hunt →
    let answer := fun (kind : Byte) (fields : List Byte) (v : Status) (items : List Byte) =>
      (Host.Outcome.next (s.withPanel (s.panel.replied (panelRecord (kind :: fields)) kind v items)) :
        Host.Outcome State Fault Refusal)
    let one := fun x : Nat => spelled 1 x
    let flag := fun b : Bool => if b then [1#8] else [0#8]
    exec (.readSelf a) s = (if 7 < a.toNat then answer 0x18 [a] .badField []
      else match s.selfItems a.toNat with
        | some items => answer 0x18 [a] .ok items
        | none => answer 0x18 [a] .wrongRole []) ∧
    s.selfItems 0 = some (
      (match s.record.map Record.settings with | some (.axis _) => [0] | some (.hand _) => [1] | none => [0xFF]) ++
      one ((s.record.map Record.address).getD 0) ++ optionalItem 1 (s.record.map fun r => one r.label) ++
      optionalItem 1 (s.record.map fun r => one r.framePeriod) ++ optionalItem 1 (s.record.map fun r => one r.fps) ++
      one (2 - severity s.start.cause) ++
      (match s.start.phase with
        | .loadingRecord => [0] | .loadingPresets => [1] | .announcing => [2] | .running => [3] | .badRecord => [4]) ++
      flag s.record.isSome ++
      (match s.start.verdict with
        | .waiting => [0] | .good => [1] | .unreadable => [2] | .badCheck => [3] | .badValue => [4]) ++
      optionalItem 1 (s.start.failingCheck.map one) ++ optionalItem 1 (s.start.recordLength.map one) ++
      optionalItem 2 (s.start.checkWord.map fun w => spelled 2 w.toNat)) ∧
    codesInOrder ∧
    (∀ n, s.selfItems n = none ↔ ¬(n = 0 ∨ ((n = 1 ∨ n = 2) ∧ s.record.isSome = true) ∨
      ((n = 3 ∨ n = 4 ∨ n = 6) ∧ s.axis?.isSome = true) ∨ (n = 5 ∧ (s.record = none ∨ s.axis?.isSome = true)) ∨
      (n = 7 ∧ s.hand?.isSome = true))) ∧
    (∀ r, s.record = some r → s.selfItems 1 = some (
      optionalItem 5 (s.link.current.map fun f => one f.contents.kind.code ++ one f.sequence ++ one s.link.phase.code ++
        one s.link.attempts ++ one s.link.round) ++
      spelled 2 (s.link.backoff / 64 : Nat) ++ one (s.link.backoff % 64) ++ flag s.link.periodic.isSome ++
      one s.link.cueSlots.length ++ one s.link.ring.length ++ spelled 4 s.link.periodCount.toNat ++ one r.framePeriod)) ∧
    (∀ r, s.record = some r → s.axis?.isSome = true → s.selfItems 2 = some (
      optionalItem 1 (s.sched.report.cue.map fun c => one c.source) ++
      optionalItem 1 (s.sched.report.cue.map fun c => one c.number) ++
      one s.sched.report.phase.code ++ one s.sched.report.reason.code ++ flag s.clock.synced ++
      one s.sched.armed.length ++ (s.sched.armed.map fun e =>
        one e.cue.source ++ one e.cue.number ++ one e.kind.code ++ one e.preset ++ spelled 2 e.duration ++
        spelled 2 e.fade ++ e.start.spelled ++ spelled 4 (e.remaining r.fps (frameNumber r.fps s.clock.time))).flatten)) ∧
    (s.hand?.isSome = true → s.selfItems 2 = some (
      one s.panel.nextCue ++ one s.panel.recent.length ++ (s.panel.recent.map fun i => one i.number ++
        (match i.status with | .queued => [1] | .sent => [2] | .lost => [3])).flatten)) ∧
    (∀ ax, s.axis? = some ax →
      s.selfItems 3 = some (spelled 2 s.presentedVj ++ flag s.stick.latch ++ one s.blend.move.code ++
        one s.blend.stopCause.code ++
        optionalItem 17 (s.blend.plan.map fun p => spelled 4 p.p0 ++ spelled 4 p.t ++ spelled 2 p.n ++ spelled 2 p.k ++
          one p.cue.source ++ one p.cue.number ++ spelled 2 p.f ++ flag p.late) ++
        optionalItem 18 (s.blend.waiting.map fun p => optionalItem 4 none ++ spelled 4 p.t ++ spelled 2 p.n ++ [0, 0] ++
          one p.cue.source ++ one p.cue.number ++ spelled 2 p.f ++ flag p.late) ++
        spelled 2 s.blend.w ++ spelled 4 s.blend.pj ++ spelled 4 s.blend.d ++ spelled 4 s.blend.c) ∧
      s.selfItems 4 = some (optionalItem 3 (s.coupling.reference.map (spelled 3)) ++ spelled 4 s.coupling.q ++
        one (conditionCode s.coupling.followCondition) ++ one (conditionCode s.coupling.guardCondition) ++
        one s.coupling.guardMode.code ++ spelled 3 s.coupling.lhiEff ++ spelled 4 s.coupling.g ++
        spelled 4 (max (-134217728) (min s.limiter.setpoint 134217712)) ++ spelled 2 s.limiter.v0 ++
        spelled 3 (max (-8388608) (min s.limiter.stepPos 8388607)) ++ spelled 3 s.limiter.lastSteps ++
        spelled 2 ax.vmax ++ spelled 2 ax.accel) ∧
      s.selfItems 5 = some (spelled 3 s.drive.measured ++ one s.drive.lastRead.code ++ one s.drive.failureRun ++
        one s.drive.followingRun ++ one s.drive.cause.code ++ flag s.drive.further ++ one s.drive.low.state.code ++
        one s.drive.high.state.code ++ one s.drive.amp.state.code ++ flag s.drive.lowLock ++ flag s.drive.highLock ++
        flag s.drive.enable ++ one s.drive.brake.code ++ one s.drive.direction.code ++ spelled 3 ax.feLimit ++
        one ax.feTime) ∧
      (let count := fun p : PresetEntry → Bool => one (s.presets.table.countP p)
       s.selfItems 6 = some (one s.presets.writeBack.length ++
        optionalItem 3 (s.presets.inFlight.map fun f => one f.index ++ one f.attempt ++ one f.phase.code) ++
        count (fun e => decide (e.body = .empty)) ++
        count (fun e => match e.body with | .valid _ _ _ => true | _ => false) ++
        count (fun e => decide (e.body = .invalid)) ++ count (fun e => decide (e.save = .saved)) ++
        count (fun e => decide (e.save = .waiting)) ++ count (fun e => decide (e.save = .writing)) ++
        count (fun e => decide (e.save = .unsaved))))) ∧
    (s.record = none → s.selfItems 5 = some (spelled 3 s.drive.measured ++ one s.drive.lastRead.code ++
      one s.drive.low.state.code ++ one s.drive.high.state.code ++ one s.drive.amp.state.code)) ∧
    (s.hand?.isSome = true → s.selfItems 7 = some (
      (s.hand.raw.map fun x => optionalItem 2 (x.map fun n => spelled 2 n)).flatten ++
      (s.hand.values.map (spelled 2)).flatten ++ [s.hand.faults] ++ spelled 2 s.hand.switches.toNat)) ∧
    (∀ r, s.record = some r →
      exec .readClock s = answer 0x13 [] .ok (s.clock.time.spelled ++ spelled 2 s.clock.acc ++ flag s.clock.synced ++
        one r.fps ++ optionalItem 1 (r.clockSource.map one)) ∧
      exec (.readPeer a) s = (if a.toNat < 1 ∨ 62 < a.toNat then answer 0x14 [a] .badField []
        else match s.peers.find a.toNat with
          | some e => answer 0x14 [a] .ok (one e.address ++ (match e.kind with | .stick => [2] | .state => [3]) ++
              (match e.freshness with | .silent => [0] | .fresh => [1] | .aging => [2] | .stale => [3]) ++
              spelled 2 e.age ++ optionalItem 1 (e.lastSequence.map one) ++ optionalItem 1 (e.lastCue.map one) ++
              optionalItem 4 (e.heardAt.map fun h => spelled 4 h) ++
              optionalItem 6 (e.stamp.map fun st => st.time.spelled ++ spelled 2 st.acc) ++
              optionalItem 18 (e.contents.map fun
                | .stick c => (c.values.map (spelled 2)).flatten ++ spelled 2 c.switches.toNat
                | .state c => one c.move ++ one c.fault ++ spelled 3 c.measured ++ spelled 4 c.setpoint ++
                    spelled 2 c.velocity ++ spelled 2 c.weight ++ one c.source ++ one c.number ++ one c.phase ++
                    one c.reason ++ [c.flags]))
          | none => answer 0x14 [a] .unknownPeer [])) ∧
    (s.record = none → exec .readClock s = answer 0x13 [] .wrongRole [] ∧
      exec (.readPeer a) s = answer 0x14 [a] .wrongRole []) ∧
    (s.axis?.isSome = true → exec (.readPreset a) s =
      (if 63 < a.toNat then answer 0x17 [a] .badField []
        else
          let e := s.presets.entry a.toNat
          answer 0x17 [a] .ok (
            (match e.body with
              | .empty => 0 :: (optionalItem 3 none ++ optionalItem 4 none ++ optionalItem 2 none)
              | .valid target storedAt storedBy => 1 :: (optionalItem 3 (some (spelled 3 target)) ++
                  optionalItem 4 (storedAt.map Timecode.spelled) ++
                  optionalItem 2 (storedBy.map fun c => one c.source ++ one c.number))
              | .invalid => 2 :: (optionalItem 3 none ++ optionalItem 4 none ++ optionalItem 2 none)) ++
            (match e.save with | .saved => [0] | .waiting => [1] | .writing => [2] | .unsaved => [3]) ++
            match s.presets.inFlight with
              | some f => if f.index = a.toNat then optionalItem 2 (some (one f.attempt ++
                  (match f.phase with | .sending => [0] | .programming => [1]))) else optionalItem 2 none
              | none => optionalItem 2 none))) ∧
    (s.axis? = none → exec (.readPreset a) s = answer 0x17 [a] .wrongRole []) ∧
    (s.hand?.isSome = true →
      exec (.readRoster a) s = (if 60 < a.toNat then answer 0x15 [a] .badField []
        else
          let items := (s.peers.roster.drop a.toNat).take 8
          answer 0x15 [a] .ok (one s.peers.roster.length ++ one items.length ++ (items.map fun i =>
            one i.address ++ one i.announced.role ++ one i.announced.cause ++ spelled 2 i.announced.check.toNat ++
            one i.announced.label ++ one i.announced.framePeriod ++ spelled 4 i.heardAt).flatten)) ∧
      exec (.readCue a) s = answer 0x16 [a] .ok
        (match s.panel.recent.find? fun i => i.number == a.toNat with
          | some ⟨_, .queued⟩ => [1]
          | some ⟨_, .sent⟩ => [2]
          | some ⟨_, .lost⟩ => [3]
          | none => [0])) ∧
    (s.hand? = none → exec (.readRoster a) s = answer 0x15 [a] .wrongRole [] ∧
      exec (.readCue a) s = answer 0x16 [a] .wrongRole [] ∧
      ∀ hh mm ss ff, exec (.setClock hh mm ss ff) s = answer 0x12 [hh, mm, ss, ff] .wrongRole []) ∧
    ∀ (kind : Byte) (scope : BitVec 64) (preset : Byte) (duration fade : BitVec 16) (timed hh mm ss ff : Byte),
      let fields := cueFields kind scope preset duration fade timed hh mm ss ff
      let sent := exec (.sendCue kind scope preset duration fade timed hh mm ss ff) s
      (s.hand? = none → sent = answer 0x11 fields .wrongRole []) ∧
      ∀ r, s.record = some r → s.hand?.isSome = true →
        let beyond := 23 < hh.toNat ∨ 59 < mm.toNat ∨ 59 < ss.toNat ∨ r.fps ≤ ff.toNat
        let bad := 4 < kind.toNat ∨ ((kind = 0 ∨ kind = 2) ∧ 63 < preset.toNat) ∨
          (kind = 0 ∧ (duration.toNat < 1 ∨ 60000 < duration.toNat ∨ 1024 < fade.toNat)) ∨ 1 < timed.toNat ∨
          (timed = 1 ∧ beyond)
        (bad → sent = answer 0x11 fields .badField []) ∧
        (¬bad → s.link.current.isSome = true → 4 ≤ s.link.cueSlots.length → sent = answer 0x11 fields .busy []) ∧
        (beyond → exec (.setClock hh mm ss ff) s = answer 0x12 [hh, mm, ss, ff] .badField [])

/-- The parser: HUNT waits for the start byte, LENGTH takes 1 to 250, BODY collects length + 1 more bytes and then
replies, REPLY ignores every byte until the reply is sent; a time-out or a sent reply returns it to HUNT (R171). A
record whose sum is not 0 is BAD_FRAME, one of no request's kind BAD_FIELD, one whose length is not its kind's BAD_FRAME
(R172, R192), and a length of 0 or above 250 BAD_FRAME at once (R171); nothing else changes. Every reply's bytes sum to 0 (R170). REQUEST_UNKNOWN_KIND is its
whole record received in HUNT, and BAD_FRAME_AT_LENGTH the byte received in LENGTH (the model's reading, logs 3 and
6). -/
def Obligations.ParserFollowsItsPhases : Prop :=
  (∀ s : State, s.resetHold = none →
    (∀ b : Byte,
      (s.panel.phase = .hunt → exec (.panelByteReceived b) s =
        .next (if b = 0xA5 then s.withPanel { s.panel with phase := .length, buffer := [0xA5] } else s)) ∧
      (s.panel.phase = .length → 1 ≤ b.toNat → b.toNat ≤ 250 → exec (.panelByteReceived b) s =
        .next (s.withPanel { s.panel with phase := .body, buffer := s.panel.buffer ++ [b] })) ∧
      (s.panel.phase = .length → b.toNat = 0 ∨ 250 < b.toNat →
        exec (.badFrameAtLength b) s =
          .next (s.withPanel { s.panel with phase := .reply, reply := panelRecord [0x00, 0x01] }) ∧
        exec (.panelByteReceived b) s = exec (.badFrameAtLength b) s) ∧
      (s.panel.phase = .body → s.panel.buffer.length + 1 ≠ (s.panel.buffer.getD 1 0).toNat + 3 →
        2 ≤ s.panel.buffer.length → exec (.panelByteReceived b) s =
          .next (s.withPanel { s.panel with buffer := s.panel.buffer ++ [b] })) ∧
      (s.panel.phase = .body → s.panel.buffer.length + 1 = (s.panel.buffer.getD 1 0).toNat + 3 →
        2 ≤ s.panel.buffer.length → ∃ t, exec (.panelByteReceived b) s = .next t ∧ t.panel.phase = .reply ∧
          t.panel.buffer = s.panel.buffer ++ [b]) ∧
      (s.panel.phase = .body → s.panel.buffer.length + 1 = (s.panel.buffer.getD 1 0).toNat + 3 →
        3 ≤ s.panel.buffer.length →
        let record := s.panel.buffer ++ [b]
        let kind := record.getD 2 0
        let length : Nat := if kind = 0x11 then 20 else if kind = 0x12 then 5 else if kind = 0x13 then 1 else 2
        let replies := fun v : Status =>
          exec (.panelByteReceived b) s = .next (s.withPanel (s.panel.replied record kind v []))
        (byteSum record ≠ 0 → replies .badFrame) ∧
        (byteSum record = 0 → kind.toNat < 0x11 ∨ 0x18 < kind.toNat → replies .badField) ∧
        (byteSum record = 0 → 0x11 ≤ kind.toNat → kind.toNat ≤ 0x18 → (s.panel.buffer.getD 1 0).toNat ≠ length →
          replies .badFrame)) ∧
      (s.panel.phase = .reply → exec (.panelByteReceived b) s = .next s)) ∧
    (s.panel.phase = .length ∨ s.panel.phase = .body →
      exec .parserTimeout s = .next (s.withPanel { s.panel with phase := .hunt, buffer := [] })) ∧
    (s.panel.phase = .reply →
      exec .replySent s = .next (s.withPanel { s.panel with phase := .hunt, buffer := [], reply := [] })) ∧
    (∀ (kind : Byte) (fields : List Byte) (check : Byte), fields.length ≤ 249 → s.panel.phase = .hunt →
      let record := 0xA5#8 :: BitVec.ofNat 8 (fields.length + 1) :: kind :: (fields ++ [check])
      (byteSum record ≠ 0 → exec (.requestUnknownKind kind fields check) s =
        .next (s.withPanel (s.panel.replied record kind .badFrame []))) ∧
      (byteSum record = 0 → kind.toNat < 0x11 ∨ 0x18 < kind.toNat → exec (.requestUnknownKind kind fields check) s =
        .next (s.withPanel (s.panel.replied record kind .badField []))))) ∧
  ∀ body : List Byte, byteSum (panelRecord body) = 0

/-! ## Encodings -/

/-- A page that the writer builds loads back as the entry it was built from, every field at every value its width admits
(R98, R99); it is sixteen bytes long. -/
def Obligations.PresetPageLoadsBack : Prop :=
  ∀ (fps : Nat) (target : Int) (storedAt : Option Timecode) (storedBy : Option CueId) (save : SaveState),
    -8388608 ≤ target → target ≤ 8388607 → fps ≤ 30 → (∀ t, storedAt = some t → t.inRange fps = true) →
    (∀ c, storedBy = some c → 1 ≤ c.source ∧ c.source ≤ 62 ∧ c.number ≤ 255) →
    let page := PresetEntry.page ⟨.valid target storedAt storedBy, save⟩
    page.length = 16 ∧ loadPage fps page = .valid target storedAt storedBy

/-- What one station sends, another receives: the bytes of every frame, from the header on, are a good frame there, and the
contents and the stamp are read back from its payload (R146, R158, R161, R190). -/
def Obligations.FramesAreReadBack : Prop :=
  ∀ (source own arrival : Nat) (f : Frame) (stamp : Stamp), 1 ≤ source → source ≤ 62 → source ≠ own →
    f.sequence < 256 → f.contents.fits → stamp.time.fits → stamp.acc < 65536 →
    (wireBytes source f stamp).take 4 = [0xAA, 0xAA, 0xAA, 0xB3] ∧
    ∃ payload, goodFrame own ((wireBytes source f stamp).drop 4) true arrival =
        some ⟨source, f.contents.kind, f.sequence, payload, arrival⟩ ∧
      payload.length = f.contents.kind.payloadLength ∧ f.contents.readBack payload stamp

/-! ## Laws that every command keeps -/

/-- The station after reset obeys every law below; the canonical form of the memory's image is the model's own, log 19. -/
def Obligations.ResetObeysTheLaws : Prop :=
  State.reset.StartLaw ∧ State.reset.DriveLaw ∧ State.reset.BlendLaw ∧ State.reset.CommandedLaw ∧
  State.reset.SetpointLaw ∧ State.reset.GuardLaw ∧ State.reset.ClockLaw ∧ State.reset.ArmedLaw ∧ State.reset.LinkLaw ∧
  State.reset.ListLaw ∧ State.reset.StoreLaw ∧ State.reset.MemoryLaw

/-- Every step keeps a good record beside the start phases (R17, R179, R184), and the outputs and the fault cause beside the
move state: an engaged brake in START, PARKED, PARKING and FAULT, and a fault cause exactly in FAULT (R74, R87). -/
def Obligations.EveryStepKeepsOutputsWithTheMoveState : Prop :=
  ∀ s t : State, step s = .next t → s.StartLaw → s.DriveLaw → t.StartLaw ∧ t.DriveLaw

/-- Every step keeps plan, pending plan, weight, trim and stop cause beside the move state (R16, R18, R22, R24), and
C within the configured limits in the servo-active states (R25). R25's law beside R26 rests on log 14. -/
def Obligations.EveryStepKeepsPlansAndLimits : Prop :=
  ∀ s t : State, step s = .next t → s.StartLaw → s.BlendLaw → s.CommandedLaw → t.BlendLaw ∧ t.CommandedLaw

/-- Every step keeps |v0| within Vmax and the step position at floor(S / 16) (R64, R69), and the effective upper limit
within the configured limits (R46, R52). -/
def Obligations.EveryStepKeepsSpeedAndGuardBounds : Prop :=
  ∀ s t : State, step s = .next t → s.StartLaw → s.SetpointLaw → s.GuardLaw → t.SetpointLaw ∧ t.GuardLaw

/-- Every step keeps the Scene Clock's fields in range (R112) and the armed list within 8 entries, one per cue, all still to
come, in the order of their remaining times (R120). -/
def Obligations.EveryStepKeepsClockAndArmedList : Prop :=
  ∀ s t : State, step s = .next t → s.StartLaw → s.ClockLaw → s.ArmedLaw → t.ClockLaw ∧ t.ArmedLaw

/-- Every step keeps the kinds of frames in the slots of the transmit queue (R147), the bounds of that queue, the attempts
and the receive ring (R147, R155, R163), of the recent
cue list, the peer list and the roster (R130, R137, R174), of the write-back list and the writer (R97, R103, R107), and
the canonical form of the memory's image (log 19). -/
def Obligations.EveryStepKeepsListsAndMemory : Prop :=
  ∀ s t : State, step s = .next t → s.StartLaw →
    (s.LinkLaw → t.LinkLaw) ∧ (s.ListLaw → t.ListLaw) ∧ (s.StoreLaw → t.StoreLaw) ∧ (s.MemoryLaw → t.MemoryLaw)
end

