-- ==== Sys2Proof/Laws/State.lean ====
section
/-! SUPPORT. What each update of the state does to each field: one lemma per field per update, true by rfl. -/
namespace Sys2Proof.Machine.State

set_option Elab.async false

variable (s : State)

/-! withStart -/

@[simp] theorem withStart_start (x : StartController) : (s.withStart x).start = x := rfl
@[simp] theorem withStart_record (x : StartController) : (s.withStart x).record = s.record := rfl
@[simp] theorem withStart_stick (x : StartController) : (s.withStart x).stick = s.stick := rfl
@[simp] theorem withStart_blend (x : StartController) : (s.withStart x).blend = s.blend := rfl
@[simp] theorem withStart_coupling (x : StartController) : (s.withStart x).coupling = s.coupling := rfl
@[simp] theorem withStart_limiter (x : StartController) : (s.withStart x).limiter = s.limiter := rfl
@[simp] theorem withStart_drive (x : StartController) : (s.withStart x).drive = s.drive := rfl
@[simp] theorem withStart_presets (x : StartController) : (s.withStart x).presets = s.presets := rfl
@[simp] theorem withStart_memory (x : StartController) : (s.withStart x).memory = s.memory := rfl
@[simp] theorem withStart_clock (x : StartController) : (s.withStart x).clock = s.clock := rfl
@[simp] theorem withStart_sched (x : StartController) : (s.withStart x).sched = s.sched := rfl
@[simp] theorem withStart_intake (x : StartController) : (s.withStart x).intake = s.intake := rfl
@[simp] theorem withStart_peers (x : StartController) : (s.withStart x).peers = s.peers := rfl
@[simp] theorem withStart_link (x : StartController) : (s.withStart x).link = s.link := rfl
@[simp] theorem withStart_flags (x : StartController) : (s.withStart x).flags = s.flags := rfl
@[simp] theorem withStart_hand (x : StartController) : (s.withStart x).hand = s.hand := rfl
@[simp] theorem withStart_panel (x : StartController) : (s.withStart x).panel = s.panel := rfl
@[simp] theorem withStart_resetHold (x : StartController) : (s.withStart x).resetHold = s.resetHold := rfl
@[simp] theorem withStart_freeCount (x : StartController) : (s.withStart x).freeCount = s.freeCount := rfl
@[simp] theorem withStart_pending (x : StartController) : (s.withStart x).pending = s.pending := rfl
@[simp] theorem withStart_axis_settings (x : StartController) : (s.withStart x).axis? = s.axis? := rfl
@[simp] theorem withStart_hand_settings (x : StartController) : (s.withStart x).hand? = s.hand? := rfl

/-! withRecord -/

@[simp] theorem withRecord_start (x : Option Record) : (s.withRecord x).start = s.start := rfl
@[simp] theorem withRecord_record (x : Option Record) : (s.withRecord x).record = x := rfl
@[simp] theorem withRecord_stick (x : Option Record) : (s.withRecord x).stick = s.stick := rfl
@[simp] theorem withRecord_blend (x : Option Record) : (s.withRecord x).blend = s.blend := rfl
@[simp] theorem withRecord_coupling (x : Option Record) : (s.withRecord x).coupling = s.coupling := rfl
@[simp] theorem withRecord_limiter (x : Option Record) : (s.withRecord x).limiter = s.limiter := rfl
@[simp] theorem withRecord_drive (x : Option Record) : (s.withRecord x).drive = s.drive := rfl
@[simp] theorem withRecord_presets (x : Option Record) : (s.withRecord x).presets = s.presets := rfl
@[simp] theorem withRecord_memory (x : Option Record) : (s.withRecord x).memory = s.memory := rfl
@[simp] theorem withRecord_clock (x : Option Record) : (s.withRecord x).clock = s.clock := rfl
@[simp] theorem withRecord_sched (x : Option Record) : (s.withRecord x).sched = s.sched := rfl
@[simp] theorem withRecord_intake (x : Option Record) : (s.withRecord x).intake = s.intake := rfl
@[simp] theorem withRecord_peers (x : Option Record) : (s.withRecord x).peers = s.peers := rfl
@[simp] theorem withRecord_link (x : Option Record) : (s.withRecord x).link = s.link := rfl
@[simp] theorem withRecord_flags (x : Option Record) : (s.withRecord x).flags = s.flags := rfl
@[simp] theorem withRecord_hand (x : Option Record) : (s.withRecord x).hand = s.hand := rfl
@[simp] theorem withRecord_panel (x : Option Record) : (s.withRecord x).panel = s.panel := rfl
@[simp] theorem withRecord_resetHold (x : Option Record) : (s.withRecord x).resetHold = s.resetHold := rfl
@[simp] theorem withRecord_freeCount (x : Option Record) : (s.withRecord x).freeCount = s.freeCount := rfl
@[simp] theorem withRecord_pending (x : Option Record) : (s.withRecord x).pending = s.pending := rfl

/-! withStick -/

@[simp] theorem withStick_start (x : StickShaper) : (s.withStick x).start = s.start := rfl
@[simp] theorem withStick_record (x : StickShaper) : (s.withStick x).record = s.record := rfl
@[simp] theorem withStick_stick (x : StickShaper) : (s.withStick x).stick = x := rfl
@[simp] theorem withStick_blend (x : StickShaper) : (s.withStick x).blend = s.blend := rfl
@[simp] theorem withStick_coupling (x : StickShaper) : (s.withStick x).coupling = s.coupling := rfl
@[simp] theorem withStick_limiter (x : StickShaper) : (s.withStick x).limiter = s.limiter := rfl
@[simp] theorem withStick_drive (x : StickShaper) : (s.withStick x).drive = s.drive := rfl
@[simp] theorem withStick_presets (x : StickShaper) : (s.withStick x).presets = s.presets := rfl
@[simp] theorem withStick_memory (x : StickShaper) : (s.withStick x).memory = s.memory := rfl
@[simp] theorem withStick_clock (x : StickShaper) : (s.withStick x).clock = s.clock := rfl
@[simp] theorem withStick_sched (x : StickShaper) : (s.withStick x).sched = s.sched := rfl
@[simp] theorem withStick_intake (x : StickShaper) : (s.withStick x).intake = s.intake := rfl
@[simp] theorem withStick_peers (x : StickShaper) : (s.withStick x).peers = s.peers := rfl
@[simp] theorem withStick_link (x : StickShaper) : (s.withStick x).link = s.link := rfl
@[simp] theorem withStick_flags (x : StickShaper) : (s.withStick x).flags = s.flags := rfl
@[simp] theorem withStick_hand (x : StickShaper) : (s.withStick x).hand = s.hand := rfl
@[simp] theorem withStick_panel (x : StickShaper) : (s.withStick x).panel = s.panel := rfl
@[simp] theorem withStick_resetHold (x : StickShaper) : (s.withStick x).resetHold = s.resetHold := rfl
@[simp] theorem withStick_freeCount (x : StickShaper) : (s.withStick x).freeCount = s.freeCount := rfl
@[simp] theorem withStick_pending (x : StickShaper) : (s.withStick x).pending = s.pending := rfl
@[simp] theorem withStick_axis_settings (x : StickShaper) : (s.withStick x).axis? = s.axis? := rfl
@[simp] theorem withStick_hand_settings (x : StickShaper) : (s.withStick x).hand? = s.hand? := rfl

/-! withBlend -/

@[simp] theorem withBlend_start (x : BlendEngine) : (s.withBlend x).start = s.start := rfl
@[simp] theorem withBlend_record (x : BlendEngine) : (s.withBlend x).record = s.record := rfl
@[simp] theorem withBlend_stick (x : BlendEngine) : (s.withBlend x).stick = s.stick := rfl
@[simp] theorem withBlend_blend (x : BlendEngine) : (s.withBlend x).blend = x := rfl
@[simp] theorem withBlend_coupling (x : BlendEngine) : (s.withBlend x).coupling = s.coupling := rfl
@[simp] theorem withBlend_limiter (x : BlendEngine) : (s.withBlend x).limiter = s.limiter := rfl
@[simp] theorem withBlend_drive (x : BlendEngine) : (s.withBlend x).drive = s.drive := rfl
@[simp] theorem withBlend_presets (x : BlendEngine) : (s.withBlend x).presets = s.presets := rfl
@[simp] theorem withBlend_memory (x : BlendEngine) : (s.withBlend x).memory = s.memory := rfl
@[simp] theorem withBlend_clock (x : BlendEngine) : (s.withBlend x).clock = s.clock := rfl
@[simp] theorem withBlend_sched (x : BlendEngine) : (s.withBlend x).sched = s.sched := rfl
@[simp] theorem withBlend_intake (x : BlendEngine) : (s.withBlend x).intake = s.intake := rfl
@[simp] theorem withBlend_peers (x : BlendEngine) : (s.withBlend x).peers = s.peers := rfl
@[simp] theorem withBlend_link (x : BlendEngine) : (s.withBlend x).link = s.link := rfl
@[simp] theorem withBlend_flags (x : BlendEngine) : (s.withBlend x).flags = s.flags := rfl
@[simp] theorem withBlend_hand (x : BlendEngine) : (s.withBlend x).hand = s.hand := rfl
@[simp] theorem withBlend_panel (x : BlendEngine) : (s.withBlend x).panel = s.panel := rfl
@[simp] theorem withBlend_resetHold (x : BlendEngine) : (s.withBlend x).resetHold = s.resetHold := rfl
@[simp] theorem withBlend_freeCount (x : BlendEngine) : (s.withBlend x).freeCount = s.freeCount := rfl
@[simp] theorem withBlend_pending (x : BlendEngine) : (s.withBlend x).pending = s.pending := rfl
@[simp] theorem withBlend_axis_settings (x : BlendEngine) : (s.withBlend x).axis? = s.axis? := rfl
@[simp] theorem withBlend_hand_settings (x : BlendEngine) : (s.withBlend x).hand? = s.hand? := rfl

/-! withCoupling -/

@[simp] theorem withCoupling_start (x : CouplingUnit) : (s.withCoupling x).start = s.start := rfl
@[simp] theorem withCoupling_record (x : CouplingUnit) : (s.withCoupling x).record = s.record := rfl
@[simp] theorem withCoupling_stick (x : CouplingUnit) : (s.withCoupling x).stick = s.stick := rfl
@[simp] theorem withCoupling_blend (x : CouplingUnit) : (s.withCoupling x).blend = s.blend := rfl
@[simp] theorem withCoupling_coupling (x : CouplingUnit) : (s.withCoupling x).coupling = x := rfl
@[simp] theorem withCoupling_limiter (x : CouplingUnit) : (s.withCoupling x).limiter = s.limiter := rfl
@[simp] theorem withCoupling_drive (x : CouplingUnit) : (s.withCoupling x).drive = s.drive := rfl
@[simp] theorem withCoupling_presets (x : CouplingUnit) : (s.withCoupling x).presets = s.presets := rfl
@[simp] theorem withCoupling_memory (x : CouplingUnit) : (s.withCoupling x).memory = s.memory := rfl
@[simp] theorem withCoupling_clock (x : CouplingUnit) : (s.withCoupling x).clock = s.clock := rfl
@[simp] theorem withCoupling_sched (x : CouplingUnit) : (s.withCoupling x).sched = s.sched := rfl
@[simp] theorem withCoupling_intake (x : CouplingUnit) : (s.withCoupling x).intake = s.intake := rfl
@[simp] theorem withCoupling_peers (x : CouplingUnit) : (s.withCoupling x).peers = s.peers := rfl
@[simp] theorem withCoupling_link (x : CouplingUnit) : (s.withCoupling x).link = s.link := rfl
@[simp] theorem withCoupling_flags (x : CouplingUnit) : (s.withCoupling x).flags = s.flags := rfl
@[simp] theorem withCoupling_hand (x : CouplingUnit) : (s.withCoupling x).hand = s.hand := rfl
@[simp] theorem withCoupling_panel (x : CouplingUnit) : (s.withCoupling x).panel = s.panel := rfl
@[simp] theorem withCoupling_resetHold (x : CouplingUnit) : (s.withCoupling x).resetHold = s.resetHold := rfl
@[simp] theorem withCoupling_freeCount (x : CouplingUnit) : (s.withCoupling x).freeCount = s.freeCount := rfl
@[simp] theorem withCoupling_pending (x : CouplingUnit) : (s.withCoupling x).pending = s.pending := rfl
@[simp] theorem withCoupling_axis_settings (x : CouplingUnit) : (s.withCoupling x).axis? = s.axis? := rfl
@[simp] theorem withCoupling_hand_settings (x : CouplingUnit) : (s.withCoupling x).hand? = s.hand? := rfl

/-! withLimiter -/

@[simp] theorem withLimiter_start (x : MotionLimiter) : (s.withLimiter x).start = s.start := rfl
@[simp] theorem withLimiter_record (x : MotionLimiter) : (s.withLimiter x).record = s.record := rfl
@[simp] theorem withLimiter_stick (x : MotionLimiter) : (s.withLimiter x).stick = s.stick := rfl
@[simp] theorem withLimiter_blend (x : MotionLimiter) : (s.withLimiter x).blend = s.blend := rfl
@[simp] theorem withLimiter_coupling (x : MotionLimiter) : (s.withLimiter x).coupling = s.coupling := rfl
@[simp] theorem withLimiter_limiter (x : MotionLimiter) : (s.withLimiter x).limiter = x := rfl
@[simp] theorem withLimiter_drive (x : MotionLimiter) : (s.withLimiter x).drive = s.drive := rfl
@[simp] theorem withLimiter_presets (x : MotionLimiter) : (s.withLimiter x).presets = s.presets := rfl
@[simp] theorem withLimiter_memory (x : MotionLimiter) : (s.withLimiter x).memory = s.memory := rfl
@[simp] theorem withLimiter_clock (x : MotionLimiter) : (s.withLimiter x).clock = s.clock := rfl
@[simp] theorem withLimiter_sched (x : MotionLimiter) : (s.withLimiter x).sched = s.sched := rfl
@[simp] theorem withLimiter_intake (x : MotionLimiter) : (s.withLimiter x).intake = s.intake := rfl
@[simp] theorem withLimiter_peers (x : MotionLimiter) : (s.withLimiter x).peers = s.peers := rfl
@[simp] theorem withLimiter_link (x : MotionLimiter) : (s.withLimiter x).link = s.link := rfl
@[simp] theorem withLimiter_flags (x : MotionLimiter) : (s.withLimiter x).flags = s.flags := rfl
@[simp] theorem withLimiter_hand (x : MotionLimiter) : (s.withLimiter x).hand = s.hand := rfl
@[simp] theorem withLimiter_panel (x : MotionLimiter) : (s.withLimiter x).panel = s.panel := rfl
@[simp] theorem withLimiter_resetHold (x : MotionLimiter) : (s.withLimiter x).resetHold = s.resetHold := rfl
@[simp] theorem withLimiter_freeCount (x : MotionLimiter) : (s.withLimiter x).freeCount = s.freeCount := rfl
@[simp] theorem withLimiter_pending (x : MotionLimiter) : (s.withLimiter x).pending = s.pending := rfl
@[simp] theorem withLimiter_axis_settings (x : MotionLimiter) : (s.withLimiter x).axis? = s.axis? := rfl
@[simp] theorem withLimiter_hand_settings (x : MotionLimiter) : (s.withLimiter x).hand? = s.hand? := rfl

/-! withDrive -/

@[simp] theorem withDrive_start (x : DrivePort) : (s.withDrive x).start = s.start := rfl
@[simp] theorem withDrive_record (x : DrivePort) : (s.withDrive x).record = s.record := rfl
@[simp] theorem withDrive_stick (x : DrivePort) : (s.withDrive x).stick = s.stick := rfl
@[simp] theorem withDrive_blend (x : DrivePort) : (s.withDrive x).blend = s.blend := rfl
@[simp] theorem withDrive_coupling (x : DrivePort) : (s.withDrive x).coupling = s.coupling := rfl
@[simp] theorem withDrive_limiter (x : DrivePort) : (s.withDrive x).limiter = s.limiter := rfl
@[simp] theorem withDrive_drive (x : DrivePort) : (s.withDrive x).drive = x := rfl
@[simp] theorem withDrive_presets (x : DrivePort) : (s.withDrive x).presets = s.presets := rfl
@[simp] theorem withDrive_memory (x : DrivePort) : (s.withDrive x).memory = s.memory := rfl
@[simp] theorem withDrive_clock (x : DrivePort) : (s.withDrive x).clock = s.clock := rfl
@[simp] theorem withDrive_sched (x : DrivePort) : (s.withDrive x).sched = s.sched := rfl
@[simp] theorem withDrive_intake (x : DrivePort) : (s.withDrive x).intake = s.intake := rfl
@[simp] theorem withDrive_peers (x : DrivePort) : (s.withDrive x).peers = s.peers := rfl
@[simp] theorem withDrive_link (x : DrivePort) : (s.withDrive x).link = s.link := rfl
@[simp] theorem withDrive_flags (x : DrivePort) : (s.withDrive x).flags = s.flags := rfl
@[simp] theorem withDrive_hand (x : DrivePort) : (s.withDrive x).hand = s.hand := rfl
@[simp] theorem withDrive_panel (x : DrivePort) : (s.withDrive x).panel = s.panel := rfl
@[simp] theorem withDrive_resetHold (x : DrivePort) : (s.withDrive x).resetHold = s.resetHold := rfl
@[simp] theorem withDrive_freeCount (x : DrivePort) : (s.withDrive x).freeCount = s.freeCount := rfl
@[simp] theorem withDrive_pending (x : DrivePort) : (s.withDrive x).pending = s.pending := rfl
@[simp] theorem withDrive_axis_settings (x : DrivePort) : (s.withDrive x).axis? = s.axis? := rfl
@[simp] theorem withDrive_hand_settings (x : DrivePort) : (s.withDrive x).hand? = s.hand? := rfl

/-! withPresets -/

@[simp] theorem withPresets_start (x : PresetStore) : (s.withPresets x).start = s.start := rfl
@[simp] theorem withPresets_record (x : PresetStore) : (s.withPresets x).record = s.record := rfl
@[simp] theorem withPresets_stick (x : PresetStore) : (s.withPresets x).stick = s.stick := rfl
@[simp] theorem withPresets_blend (x : PresetStore) : (s.withPresets x).blend = s.blend := rfl
@[simp] theorem withPresets_coupling (x : PresetStore) : (s.withPresets x).coupling = s.coupling := rfl
@[simp] theorem withPresets_limiter (x : PresetStore) : (s.withPresets x).limiter = s.limiter := rfl
@[simp] theorem withPresets_drive (x : PresetStore) : (s.withPresets x).drive = s.drive := rfl
@[simp] theorem withPresets_presets (x : PresetStore) : (s.withPresets x).presets = x := rfl
@[simp] theorem withPresets_memory (x : PresetStore) : (s.withPresets x).memory = s.memory := rfl
@[simp] theorem withPresets_clock (x : PresetStore) : (s.withPresets x).clock = s.clock := rfl
@[simp] theorem withPresets_sched (x : PresetStore) : (s.withPresets x).sched = s.sched := rfl
@[simp] theorem withPresets_intake (x : PresetStore) : (s.withPresets x).intake = s.intake := rfl
@[simp] theorem withPresets_peers (x : PresetStore) : (s.withPresets x).peers = s.peers := rfl
@[simp] theorem withPresets_link (x : PresetStore) : (s.withPresets x).link = s.link := rfl
@[simp] theorem withPresets_flags (x : PresetStore) : (s.withPresets x).flags = s.flags := rfl
@[simp] theorem withPresets_hand (x : PresetStore) : (s.withPresets x).hand = s.hand := rfl
@[simp] theorem withPresets_panel (x : PresetStore) : (s.withPresets x).panel = s.panel := rfl
@[simp] theorem withPresets_resetHold (x : PresetStore) : (s.withPresets x).resetHold = s.resetHold := rfl
@[simp] theorem withPresets_freeCount (x : PresetStore) : (s.withPresets x).freeCount = s.freeCount := rfl
@[simp] theorem withPresets_pending (x : PresetStore) : (s.withPresets x).pending = s.pending := rfl
@[simp] theorem withPresets_axis_settings (x : PresetStore) : (s.withPresets x).axis? = s.axis? := rfl
@[simp] theorem withPresets_hand_settings (x : PresetStore) : (s.withPresets x).hand? = s.hand? := rfl

/-! withMemory -/

@[simp] theorem withMemory_start (x : SettingsMemory) : (s.withMemory x).start = s.start := rfl
@[simp] theorem withMemory_record (x : SettingsMemory) : (s.withMemory x).record = s.record := rfl
@[simp] theorem withMemory_stick (x : SettingsMemory) : (s.withMemory x).stick = s.stick := rfl
@[simp] theorem withMemory_blend (x : SettingsMemory) : (s.withMemory x).blend = s.blend := rfl
@[simp] theorem withMemory_coupling (x : SettingsMemory) : (s.withMemory x).coupling = s.coupling := rfl
@[simp] theorem withMemory_limiter (x : SettingsMemory) : (s.withMemory x).limiter = s.limiter := rfl
@[simp] theorem withMemory_drive (x : SettingsMemory) : (s.withMemory x).drive = s.drive := rfl
@[simp] theorem withMemory_presets (x : SettingsMemory) : (s.withMemory x).presets = s.presets := rfl
@[simp] theorem withMemory_memory (x : SettingsMemory) : (s.withMemory x).memory = x := rfl
@[simp] theorem withMemory_clock (x : SettingsMemory) : (s.withMemory x).clock = s.clock := rfl
@[simp] theorem withMemory_sched (x : SettingsMemory) : (s.withMemory x).sched = s.sched := rfl
@[simp] theorem withMemory_intake (x : SettingsMemory) : (s.withMemory x).intake = s.intake := rfl
@[simp] theorem withMemory_peers (x : SettingsMemory) : (s.withMemory x).peers = s.peers := rfl
@[simp] theorem withMemory_link (x : SettingsMemory) : (s.withMemory x).link = s.link := rfl
@[simp] theorem withMemory_flags (x : SettingsMemory) : (s.withMemory x).flags = s.flags := rfl
@[simp] theorem withMemory_hand (x : SettingsMemory) : (s.withMemory x).hand = s.hand := rfl
@[simp] theorem withMemory_panel (x : SettingsMemory) : (s.withMemory x).panel = s.panel := rfl
@[simp] theorem withMemory_resetHold (x : SettingsMemory) : (s.withMemory x).resetHold = s.resetHold := rfl
@[simp] theorem withMemory_freeCount (x : SettingsMemory) : (s.withMemory x).freeCount = s.freeCount := rfl
@[simp] theorem withMemory_pending (x : SettingsMemory) : (s.withMemory x).pending = s.pending := rfl
@[simp] theorem withMemory_axis_settings (x : SettingsMemory) : (s.withMemory x).axis? = s.axis? := rfl
@[simp] theorem withMemory_hand_settings (x : SettingsMemory) : (s.withMemory x).hand? = s.hand? := rfl

/-! withClock -/

@[simp] theorem withClock_start (x : SceneClock) : (s.withClock x).start = s.start := rfl
@[simp] theorem withClock_record (x : SceneClock) : (s.withClock x).record = s.record := rfl
@[simp] theorem withClock_stick (x : SceneClock) : (s.withClock x).stick = s.stick := rfl
@[simp] theorem withClock_blend (x : SceneClock) : (s.withClock x).blend = s.blend := rfl
@[simp] theorem withClock_coupling (x : SceneClock) : (s.withClock x).coupling = s.coupling := rfl
@[simp] theorem withClock_limiter (x : SceneClock) : (s.withClock x).limiter = s.limiter := rfl
@[simp] theorem withClock_drive (x : SceneClock) : (s.withClock x).drive = s.drive := rfl
@[simp] theorem withClock_presets (x : SceneClock) : (s.withClock x).presets = s.presets := rfl
@[simp] theorem withClock_memory (x : SceneClock) : (s.withClock x).memory = s.memory := rfl
@[simp] theorem withClock_clock (x : SceneClock) : (s.withClock x).clock = x := rfl
@[simp] theorem withClock_sched (x : SceneClock) : (s.withClock x).sched = s.sched := rfl
@[simp] theorem withClock_intake (x : SceneClock) : (s.withClock x).intake = s.intake := rfl
@[simp] theorem withClock_peers (x : SceneClock) : (s.withClock x).peers = s.peers := rfl
@[simp] theorem withClock_link (x : SceneClock) : (s.withClock x).link = s.link := rfl
@[simp] theorem withClock_flags (x : SceneClock) : (s.withClock x).flags = s.flags := rfl
@[simp] theorem withClock_hand (x : SceneClock) : (s.withClock x).hand = s.hand := rfl
@[simp] theorem withClock_panel (x : SceneClock) : (s.withClock x).panel = s.panel := rfl
@[simp] theorem withClock_resetHold (x : SceneClock) : (s.withClock x).resetHold = s.resetHold := rfl
@[simp] theorem withClock_freeCount (x : SceneClock) : (s.withClock x).freeCount = s.freeCount := rfl
@[simp] theorem withClock_pending (x : SceneClock) : (s.withClock x).pending = s.pending := rfl
@[simp] theorem withClock_axis_settings (x : SceneClock) : (s.withClock x).axis? = s.axis? := rfl
@[simp] theorem withClock_hand_settings (x : SceneClock) : (s.withClock x).hand? = s.hand? := rfl

/-! withSched -/

@[simp] theorem withSched_start (x : CueScheduler) : (s.withSched x).start = s.start := rfl
@[simp] theorem withSched_record (x : CueScheduler) : (s.withSched x).record = s.record := rfl
@[simp] theorem withSched_stick (x : CueScheduler) : (s.withSched x).stick = s.stick := rfl
@[simp] theorem withSched_blend (x : CueScheduler) : (s.withSched x).blend = s.blend := rfl
@[simp] theorem withSched_coupling (x : CueScheduler) : (s.withSched x).coupling = s.coupling := rfl
@[simp] theorem withSched_limiter (x : CueScheduler) : (s.withSched x).limiter = s.limiter := rfl
@[simp] theorem withSched_drive (x : CueScheduler) : (s.withSched x).drive = s.drive := rfl
@[simp] theorem withSched_presets (x : CueScheduler) : (s.withSched x).presets = s.presets := rfl
@[simp] theorem withSched_memory (x : CueScheduler) : (s.withSched x).memory = s.memory := rfl
@[simp] theorem withSched_clock (x : CueScheduler) : (s.withSched x).clock = s.clock := rfl
@[simp] theorem withSched_sched (x : CueScheduler) : (s.withSched x).sched = x := rfl
@[simp] theorem withSched_intake (x : CueScheduler) : (s.withSched x).intake = s.intake := rfl
@[simp] theorem withSched_peers (x : CueScheduler) : (s.withSched x).peers = s.peers := rfl
@[simp] theorem withSched_link (x : CueScheduler) : (s.withSched x).link = s.link := rfl
@[simp] theorem withSched_flags (x : CueScheduler) : (s.withSched x).flags = s.flags := rfl
@[simp] theorem withSched_hand (x : CueScheduler) : (s.withSched x).hand = s.hand := rfl
@[simp] theorem withSched_panel (x : CueScheduler) : (s.withSched x).panel = s.panel := rfl
@[simp] theorem withSched_resetHold (x : CueScheduler) : (s.withSched x).resetHold = s.resetHold := rfl
@[simp] theorem withSched_freeCount (x : CueScheduler) : (s.withSched x).freeCount = s.freeCount := rfl
@[simp] theorem withSched_pending (x : CueScheduler) : (s.withSched x).pending = s.pending := rfl
@[simp] theorem withSched_axis_settings (x : CueScheduler) : (s.withSched x).axis? = s.axis? := rfl
@[simp] theorem withSched_hand_settings (x : CueScheduler) : (s.withSched x).hand? = s.hand? := rfl

/-! withIntake -/

@[simp] theorem withIntake_start (x : Option RingRecord) : (s.withIntake x).start = s.start := rfl
@[simp] theorem withIntake_record (x : Option RingRecord) : (s.withIntake x).record = s.record := rfl
@[simp] theorem withIntake_stick (x : Option RingRecord) : (s.withIntake x).stick = s.stick := rfl
@[simp] theorem withIntake_blend (x : Option RingRecord) : (s.withIntake x).blend = s.blend := rfl
@[simp] theorem withIntake_coupling (x : Option RingRecord) : (s.withIntake x).coupling = s.coupling := rfl
@[simp] theorem withIntake_limiter (x : Option RingRecord) : (s.withIntake x).limiter = s.limiter := rfl
@[simp] theorem withIntake_drive (x : Option RingRecord) : (s.withIntake x).drive = s.drive := rfl
@[simp] theorem withIntake_presets (x : Option RingRecord) : (s.withIntake x).presets = s.presets := rfl
@[simp] theorem withIntake_memory (x : Option RingRecord) : (s.withIntake x).memory = s.memory := rfl
@[simp] theorem withIntake_clock (x : Option RingRecord) : (s.withIntake x).clock = s.clock := rfl
@[simp] theorem withIntake_sched (x : Option RingRecord) : (s.withIntake x).sched = s.sched := rfl
@[simp] theorem withIntake_intake (x : Option RingRecord) : (s.withIntake x).intake = x := rfl
@[simp] theorem withIntake_peers (x : Option RingRecord) : (s.withIntake x).peers = s.peers := rfl
@[simp] theorem withIntake_link (x : Option RingRecord) : (s.withIntake x).link = s.link := rfl
@[simp] theorem withIntake_flags (x : Option RingRecord) : (s.withIntake x).flags = s.flags := rfl
@[simp] theorem withIntake_hand (x : Option RingRecord) : (s.withIntake x).hand = s.hand := rfl
@[simp] theorem withIntake_panel (x : Option RingRecord) : (s.withIntake x).panel = s.panel := rfl
@[simp] theorem withIntake_resetHold (x : Option RingRecord) : (s.withIntake x).resetHold = s.resetHold := rfl
@[simp] theorem withIntake_freeCount (x : Option RingRecord) : (s.withIntake x).freeCount = s.freeCount := rfl
@[simp] theorem withIntake_pending (x : Option RingRecord) : (s.withIntake x).pending = s.pending := rfl
@[simp] theorem withIntake_axis_settings (x : Option RingRecord) : (s.withIntake x).axis? = s.axis? := rfl
@[simp] theorem withIntake_hand_settings (x : Option RingRecord) : (s.withIntake x).hand? = s.hand? := rfl

/-! withPeers -/

@[simp] theorem withPeers_start (x : PeerTable) : (s.withPeers x).start = s.start := rfl
@[simp] theorem withPeers_record (x : PeerTable) : (s.withPeers x).record = s.record := rfl
@[simp] theorem withPeers_stick (x : PeerTable) : (s.withPeers x).stick = s.stick := rfl
@[simp] theorem withPeers_blend (x : PeerTable) : (s.withPeers x).blend = s.blend := rfl
@[simp] theorem withPeers_coupling (x : PeerTable) : (s.withPeers x).coupling = s.coupling := rfl
@[simp] theorem withPeers_limiter (x : PeerTable) : (s.withPeers x).limiter = s.limiter := rfl
@[simp] theorem withPeers_drive (x : PeerTable) : (s.withPeers x).drive = s.drive := rfl
@[simp] theorem withPeers_presets (x : PeerTable) : (s.withPeers x).presets = s.presets := rfl
@[simp] theorem withPeers_memory (x : PeerTable) : (s.withPeers x).memory = s.memory := rfl
@[simp] theorem withPeers_clock (x : PeerTable) : (s.withPeers x).clock = s.clock := rfl
@[simp] theorem withPeers_sched (x : PeerTable) : (s.withPeers x).sched = s.sched := rfl
@[simp] theorem withPeers_intake (x : PeerTable) : (s.withPeers x).intake = s.intake := rfl
@[simp] theorem withPeers_peers (x : PeerTable) : (s.withPeers x).peers = x := rfl
@[simp] theorem withPeers_link (x : PeerTable) : (s.withPeers x).link = s.link := rfl
@[simp] theorem withPeers_flags (x : PeerTable) : (s.withPeers x).flags = s.flags := rfl
@[simp] theorem withPeers_hand (x : PeerTable) : (s.withPeers x).hand = s.hand := rfl
@[simp] theorem withPeers_panel (x : PeerTable) : (s.withPeers x).panel = s.panel := rfl
@[simp] theorem withPeers_resetHold (x : PeerTable) : (s.withPeers x).resetHold = s.resetHold := rfl
@[simp] theorem withPeers_freeCount (x : PeerTable) : (s.withPeers x).freeCount = s.freeCount := rfl
@[simp] theorem withPeers_pending (x : PeerTable) : (s.withPeers x).pending = s.pending := rfl
@[simp] theorem withPeers_axis_settings (x : PeerTable) : (s.withPeers x).axis? = s.axis? := rfl
@[simp] theorem withPeers_hand_settings (x : PeerTable) : (s.withPeers x).hand? = s.hand? := rfl

/-! withLink -/

@[simp] theorem withLink_start (x : LinkController) : (s.withLink x).start = s.start := rfl
@[simp] theorem withLink_record (x : LinkController) : (s.withLink x).record = s.record := rfl
@[simp] theorem withLink_stick (x : LinkController) : (s.withLink x).stick = s.stick := rfl
@[simp] theorem withLink_blend (x : LinkController) : (s.withLink x).blend = s.blend := rfl
@[simp] theorem withLink_coupling (x : LinkController) : (s.withLink x).coupling = s.coupling := rfl
@[simp] theorem withLink_limiter (x : LinkController) : (s.withLink x).limiter = s.limiter := rfl
@[simp] theorem withLink_drive (x : LinkController) : (s.withLink x).drive = s.drive := rfl
@[simp] theorem withLink_presets (x : LinkController) : (s.withLink x).presets = s.presets := rfl
@[simp] theorem withLink_memory (x : LinkController) : (s.withLink x).memory = s.memory := rfl
@[simp] theorem withLink_clock (x : LinkController) : (s.withLink x).clock = s.clock := rfl
@[simp] theorem withLink_sched (x : LinkController) : (s.withLink x).sched = s.sched := rfl
@[simp] theorem withLink_intake (x : LinkController) : (s.withLink x).intake = s.intake := rfl
@[simp] theorem withLink_peers (x : LinkController) : (s.withLink x).peers = s.peers := rfl
@[simp] theorem withLink_link (x : LinkController) : (s.withLink x).link = x := rfl
@[simp] theorem withLink_flags (x : LinkController) : (s.withLink x).flags = s.flags := rfl
@[simp] theorem withLink_hand (x : LinkController) : (s.withLink x).hand = s.hand := rfl
@[simp] theorem withLink_panel (x : LinkController) : (s.withLink x).panel = s.panel := rfl
@[simp] theorem withLink_resetHold (x : LinkController) : (s.withLink x).resetHold = s.resetHold := rfl
@[simp] theorem withLink_freeCount (x : LinkController) : (s.withLink x).freeCount = s.freeCount := rfl
@[simp] theorem withLink_pending (x : LinkController) : (s.withLink x).pending = s.pending := rfl
@[simp] theorem withLink_axis_settings (x : LinkController) : (s.withLink x).axis? = s.axis? := rfl
@[simp] theorem withLink_hand_settings (x : LinkController) : (s.withLink x).hand? = s.hand? := rfl

/-! withFlags -/

@[simp] theorem withFlags_start (x : FlagSet) : (s.withFlags x).start = s.start := rfl
@[simp] theorem withFlags_record (x : FlagSet) : (s.withFlags x).record = s.record := rfl
@[simp] theorem withFlags_stick (x : FlagSet) : (s.withFlags x).stick = s.stick := rfl
@[simp] theorem withFlags_blend (x : FlagSet) : (s.withFlags x).blend = s.blend := rfl
@[simp] theorem withFlags_coupling (x : FlagSet) : (s.withFlags x).coupling = s.coupling := rfl
@[simp] theorem withFlags_limiter (x : FlagSet) : (s.withFlags x).limiter = s.limiter := rfl
@[simp] theorem withFlags_drive (x : FlagSet) : (s.withFlags x).drive = s.drive := rfl
@[simp] theorem withFlags_presets (x : FlagSet) : (s.withFlags x).presets = s.presets := rfl
@[simp] theorem withFlags_memory (x : FlagSet) : (s.withFlags x).memory = s.memory := rfl
@[simp] theorem withFlags_clock (x : FlagSet) : (s.withFlags x).clock = s.clock := rfl
@[simp] theorem withFlags_sched (x : FlagSet) : (s.withFlags x).sched = s.sched := rfl
@[simp] theorem withFlags_intake (x : FlagSet) : (s.withFlags x).intake = s.intake := rfl
@[simp] theorem withFlags_peers (x : FlagSet) : (s.withFlags x).peers = s.peers := rfl
@[simp] theorem withFlags_link (x : FlagSet) : (s.withFlags x).link = s.link := rfl
@[simp] theorem withFlags_flags (x : FlagSet) : (s.withFlags x).flags = x := rfl
@[simp] theorem withFlags_hand (x : FlagSet) : (s.withFlags x).hand = s.hand := rfl
@[simp] theorem withFlags_panel (x : FlagSet) : (s.withFlags x).panel = s.panel := rfl
@[simp] theorem withFlags_resetHold (x : FlagSet) : (s.withFlags x).resetHold = s.resetHold := rfl
@[simp] theorem withFlags_freeCount (x : FlagSet) : (s.withFlags x).freeCount = s.freeCount := rfl
@[simp] theorem withFlags_pending (x : FlagSet) : (s.withFlags x).pending = s.pending := rfl
@[simp] theorem withFlags_axis_settings (x : FlagSet) : (s.withFlags x).axis? = s.axis? := rfl
@[simp] theorem withFlags_hand_settings (x : FlagSet) : (s.withFlags x).hand? = s.hand? := rfl

/-! withHand -/

@[simp] theorem withHand_start (x : HandSampler) : (s.withHand x).start = s.start := rfl
@[simp] theorem withHand_record (x : HandSampler) : (s.withHand x).record = s.record := rfl
@[simp] theorem withHand_stick (x : HandSampler) : (s.withHand x).stick = s.stick := rfl
@[simp] theorem withHand_blend (x : HandSampler) : (s.withHand x).blend = s.blend := rfl
@[simp] theorem withHand_coupling (x : HandSampler) : (s.withHand x).coupling = s.coupling := rfl
@[simp] theorem withHand_limiter (x : HandSampler) : (s.withHand x).limiter = s.limiter := rfl
@[simp] theorem withHand_drive (x : HandSampler) : (s.withHand x).drive = s.drive := rfl
@[simp] theorem withHand_presets (x : HandSampler) : (s.withHand x).presets = s.presets := rfl
@[simp] theorem withHand_memory (x : HandSampler) : (s.withHand x).memory = s.memory := rfl
@[simp] theorem withHand_clock (x : HandSampler) : (s.withHand x).clock = s.clock := rfl
@[simp] theorem withHand_sched (x : HandSampler) : (s.withHand x).sched = s.sched := rfl
@[simp] theorem withHand_intake (x : HandSampler) : (s.withHand x).intake = s.intake := rfl
@[simp] theorem withHand_peers (x : HandSampler) : (s.withHand x).peers = s.peers := rfl
@[simp] theorem withHand_link (x : HandSampler) : (s.withHand x).link = s.link := rfl
@[simp] theorem withHand_flags (x : HandSampler) : (s.withHand x).flags = s.flags := rfl
@[simp] theorem withHand_hand (x : HandSampler) : (s.withHand x).hand = x := rfl
@[simp] theorem withHand_panel (x : HandSampler) : (s.withHand x).panel = s.panel := rfl
@[simp] theorem withHand_resetHold (x : HandSampler) : (s.withHand x).resetHold = s.resetHold := rfl
@[simp] theorem withHand_freeCount (x : HandSampler) : (s.withHand x).freeCount = s.freeCount := rfl
@[simp] theorem withHand_pending (x : HandSampler) : (s.withHand x).pending = s.pending := rfl
@[simp] theorem withHand_axis_settings (x : HandSampler) : (s.withHand x).axis? = s.axis? := rfl
@[simp] theorem withHand_hand_settings (x : HandSampler) : (s.withHand x).hand? = s.hand? := rfl

/-! withPanel -/

@[simp] theorem withPanel_start (x : PanelLine) : (s.withPanel x).start = s.start := rfl
@[simp] theorem withPanel_record (x : PanelLine) : (s.withPanel x).record = s.record := rfl
@[simp] theorem withPanel_stick (x : PanelLine) : (s.withPanel x).stick = s.stick := rfl
@[simp] theorem withPanel_blend (x : PanelLine) : (s.withPanel x).blend = s.blend := rfl
@[simp] theorem withPanel_coupling (x : PanelLine) : (s.withPanel x).coupling = s.coupling := rfl
@[simp] theorem withPanel_limiter (x : PanelLine) : (s.withPanel x).limiter = s.limiter := rfl
@[simp] theorem withPanel_drive (x : PanelLine) : (s.withPanel x).drive = s.drive := rfl
@[simp] theorem withPanel_presets (x : PanelLine) : (s.withPanel x).presets = s.presets := rfl
@[simp] theorem withPanel_memory (x : PanelLine) : (s.withPanel x).memory = s.memory := rfl
@[simp] theorem withPanel_clock (x : PanelLine) : (s.withPanel x).clock = s.clock := rfl
@[simp] theorem withPanel_sched (x : PanelLine) : (s.withPanel x).sched = s.sched := rfl
@[simp] theorem withPanel_intake (x : PanelLine) : (s.withPanel x).intake = s.intake := rfl
@[simp] theorem withPanel_peers (x : PanelLine) : (s.withPanel x).peers = s.peers := rfl
@[simp] theorem withPanel_link (x : PanelLine) : (s.withPanel x).link = s.link := rfl
@[simp] theorem withPanel_flags (x : PanelLine) : (s.withPanel x).flags = s.flags := rfl
@[simp] theorem withPanel_hand (x : PanelLine) : (s.withPanel x).hand = s.hand := rfl
@[simp] theorem withPanel_panel (x : PanelLine) : (s.withPanel x).panel = x := rfl
@[simp] theorem withPanel_resetHold (x : PanelLine) : (s.withPanel x).resetHold = s.resetHold := rfl
@[simp] theorem withPanel_freeCount (x : PanelLine) : (s.withPanel x).freeCount = s.freeCount := rfl
@[simp] theorem withPanel_pending (x : PanelLine) : (s.withPanel x).pending = s.pending := rfl
@[simp] theorem withPanel_axis_settings (x : PanelLine) : (s.withPanel x).axis? = s.axis? := rfl
@[simp] theorem withPanel_hand_settings (x : PanelLine) : (s.withPanel x).hand? = s.hand? := rfl

/-! withResetHold -/

@[simp] theorem withResetHold_start (x : Option StartCause) : (s.withResetHold x).start = s.start := rfl
@[simp] theorem withResetHold_record (x : Option StartCause) : (s.withResetHold x).record = s.record := rfl
@[simp] theorem withResetHold_stick (x : Option StartCause) : (s.withResetHold x).stick = s.stick := rfl
@[simp] theorem withResetHold_blend (x : Option StartCause) : (s.withResetHold x).blend = s.blend := rfl
@[simp] theorem withResetHold_coupling (x : Option StartCause) : (s.withResetHold x).coupling = s.coupling := rfl
@[simp] theorem withResetHold_limiter (x : Option StartCause) : (s.withResetHold x).limiter = s.limiter := rfl
@[simp] theorem withResetHold_drive (x : Option StartCause) : (s.withResetHold x).drive = s.drive := rfl
@[simp] theorem withResetHold_presets (x : Option StartCause) : (s.withResetHold x).presets = s.presets := rfl
@[simp] theorem withResetHold_memory (x : Option StartCause) : (s.withResetHold x).memory = s.memory := rfl
@[simp] theorem withResetHold_clock (x : Option StartCause) : (s.withResetHold x).clock = s.clock := rfl
@[simp] theorem withResetHold_sched (x : Option StartCause) : (s.withResetHold x).sched = s.sched := rfl
@[simp] theorem withResetHold_intake (x : Option StartCause) : (s.withResetHold x).intake = s.intake := rfl
@[simp] theorem withResetHold_peers (x : Option StartCause) : (s.withResetHold x).peers = s.peers := rfl
@[simp] theorem withResetHold_link (x : Option StartCause) : (s.withResetHold x).link = s.link := rfl
@[simp] theorem withResetHold_flags (x : Option StartCause) : (s.withResetHold x).flags = s.flags := rfl
@[simp] theorem withResetHold_hand (x : Option StartCause) : (s.withResetHold x).hand = s.hand := rfl
@[simp] theorem withResetHold_panel (x : Option StartCause) : (s.withResetHold x).panel = s.panel := rfl
@[simp] theorem withResetHold_resetHold (x : Option StartCause) : (s.withResetHold x).resetHold = x := rfl
@[simp] theorem withResetHold_freeCount (x : Option StartCause) : (s.withResetHold x).freeCount = s.freeCount := rfl
@[simp] theorem withResetHold_pending (x : Option StartCause) : (s.withResetHold x).pending = s.pending := rfl
@[simp] theorem withResetHold_axis_settings (x : Option StartCause) : (s.withResetHold x).axis? = s.axis? := rfl
@[simp] theorem withResetHold_hand_settings (x : Option StartCause) : (s.withResetHold x).hand? = s.hand? := rfl

/-! withFreeCount -/

@[simp] theorem withFreeCount_start (x : Nat) : (s.withFreeCount x).start = s.start := rfl
@[simp] theorem withFreeCount_record (x : Nat) : (s.withFreeCount x).record = s.record := rfl
@[simp] theorem withFreeCount_stick (x : Nat) : (s.withFreeCount x).stick = s.stick := rfl
@[simp] theorem withFreeCount_blend (x : Nat) : (s.withFreeCount x).blend = s.blend := rfl
@[simp] theorem withFreeCount_coupling (x : Nat) : (s.withFreeCount x).coupling = s.coupling := rfl
@[simp] theorem withFreeCount_limiter (x : Nat) : (s.withFreeCount x).limiter = s.limiter := rfl
@[simp] theorem withFreeCount_drive (x : Nat) : (s.withFreeCount x).drive = s.drive := rfl
@[simp] theorem withFreeCount_presets (x : Nat) : (s.withFreeCount x).presets = s.presets := rfl
@[simp] theorem withFreeCount_memory (x : Nat) : (s.withFreeCount x).memory = s.memory := rfl
@[simp] theorem withFreeCount_clock (x : Nat) : (s.withFreeCount x).clock = s.clock := rfl
@[simp] theorem withFreeCount_sched (x : Nat) : (s.withFreeCount x).sched = s.sched := rfl
@[simp] theorem withFreeCount_intake (x : Nat) : (s.withFreeCount x).intake = s.intake := rfl
@[simp] theorem withFreeCount_peers (x : Nat) : (s.withFreeCount x).peers = s.peers := rfl
@[simp] theorem withFreeCount_link (x : Nat) : (s.withFreeCount x).link = s.link := rfl
@[simp] theorem withFreeCount_flags (x : Nat) : (s.withFreeCount x).flags = s.flags := rfl
@[simp] theorem withFreeCount_hand (x : Nat) : (s.withFreeCount x).hand = s.hand := rfl
@[simp] theorem withFreeCount_panel (x : Nat) : (s.withFreeCount x).panel = s.panel := rfl
@[simp] theorem withFreeCount_resetHold (x : Nat) : (s.withFreeCount x).resetHold = s.resetHold := rfl
@[simp] theorem withFreeCount_freeCount (x : Nat) : (s.withFreeCount x).freeCount = x := rfl
@[simp] theorem withFreeCount_pending (x : Nat) : (s.withFreeCount x).pending = s.pending := rfl
@[simp] theorem withFreeCount_axis_settings (x : Nat) : (s.withFreeCount x).axis? = s.axis? := rfl
@[simp] theorem withFreeCount_hand_settings (x : Nat) : (s.withFreeCount x).hand? = s.hand? := rfl

/-! withPending -/

@[simp] theorem withPending_start (x : List Instr) : (s.withPending x).start = s.start := rfl
@[simp] theorem withPending_record (x : List Instr) : (s.withPending x).record = s.record := rfl
@[simp] theorem withPending_stick (x : List Instr) : (s.withPending x).stick = s.stick := rfl
@[simp] theorem withPending_blend (x : List Instr) : (s.withPending x).blend = s.blend := rfl
@[simp] theorem withPending_coupling (x : List Instr) : (s.withPending x).coupling = s.coupling := rfl
@[simp] theorem withPending_limiter (x : List Instr) : (s.withPending x).limiter = s.limiter := rfl
@[simp] theorem withPending_drive (x : List Instr) : (s.withPending x).drive = s.drive := rfl
@[simp] theorem withPending_presets (x : List Instr) : (s.withPending x).presets = s.presets := rfl
@[simp] theorem withPending_memory (x : List Instr) : (s.withPending x).memory = s.memory := rfl
@[simp] theorem withPending_clock (x : List Instr) : (s.withPending x).clock = s.clock := rfl
@[simp] theorem withPending_sched (x : List Instr) : (s.withPending x).sched = s.sched := rfl
@[simp] theorem withPending_intake (x : List Instr) : (s.withPending x).intake = s.intake := rfl
@[simp] theorem withPending_peers (x : List Instr) : (s.withPending x).peers = s.peers := rfl
@[simp] theorem withPending_link (x : List Instr) : (s.withPending x).link = s.link := rfl
@[simp] theorem withPending_flags (x : List Instr) : (s.withPending x).flags = s.flags := rfl
@[simp] theorem withPending_hand (x : List Instr) : (s.withPending x).hand = s.hand := rfl
@[simp] theorem withPending_panel (x : List Instr) : (s.withPending x).panel = s.panel := rfl
@[simp] theorem withPending_resetHold (x : List Instr) : (s.withPending x).resetHold = s.resetHold := rfl
@[simp] theorem withPending_freeCount (x : List Instr) : (s.withPending x).freeCount = s.freeCount := rfl
@[simp] theorem withPending_pending (x : List Instr) : (s.withPending x).pending = x := rfl
@[simp] theorem withPending_axis_settings (x : List Instr) : (s.withPending x).axis? = s.axis? := rfl
@[simp] theorem withPending_hand_settings (x : List Instr) : (s.withPending x).hand? = s.hand? := rfl

end Sys2Proof.Machine.State
end

