-- ==== Sys2Proof/Laws/Frames.lean ====
section
/-! SUPPORT. What each operation leaves unchanged: one lemma per operation, a conjunction over the fields it does not
touch, so that no later proof unfolds an operation to see that a block stands as it stood. -/
namespace Sys2Proof.Machine

set_option Elab.async false

/-- A fold of steps that each keep a value keeps it. -/
theorem foldl_keeps {α β : Type} (p : State → β) (f : State → α → State) (h : ∀ s x, p (f s x) = p s) (l : List α)
    (s : State) : p (l.foldl f s) = p s := by
  induction l generalizing s with
  | nil => rfl
  | cons x rest ih => simp [ih, h]

@[simp] theorem State.setPage_frame (s : State) (i : Nat) (page : List Byte) :
    (State.setPage s i page).start = s.start ∧ (State.setPage s i page).record = s.record ∧
    (State.setPage s i page).stick = s.stick ∧ (State.setPage s i page).blend = s.blend ∧
    (State.setPage s i page).coupling = s.coupling ∧ (State.setPage s i page).limiter = s.limiter ∧
    (State.setPage s i page).drive = s.drive ∧ (State.setPage s i page).presets = s.presets ∧
    (State.setPage s i page).clock = s.clock ∧ (State.setPage s i page).sched = s.sched ∧
    (State.setPage s i page).intake = s.intake ∧ (State.setPage s i page).peers = s.peers ∧
    (State.setPage s i page).link = s.link ∧ (State.setPage s i page).flags = s.flags ∧
    (State.setPage s i page).hand = s.hand ∧ (State.setPage s i page).panel = s.panel ∧
    (State.setPage s i page).resetHold = s.resetHold ∧ (State.setPage s i page).freeCount = s.freeCount ∧
    (State.setPage s i page).pending = s.pending ∧ (State.setPage s i page).axis? = s.axis? ∧
    (State.setPage s i page).hand? = s.hand? := by
  unfold State.setPage
  (try dsimp only)
  simp

@[simp] theorem State.tearPage_frame (s : State) (i : Nat) :
    (State.tearPage s i).start = s.start ∧ (State.tearPage s i).record = s.record ∧
    (State.tearPage s i).stick = s.stick ∧ (State.tearPage s i).blend = s.blend ∧
    (State.tearPage s i).coupling = s.coupling ∧ (State.tearPage s i).limiter = s.limiter ∧
    (State.tearPage s i).drive = s.drive ∧ (State.tearPage s i).presets = s.presets ∧
    (State.tearPage s i).clock = s.clock ∧ (State.tearPage s i).sched = s.sched ∧
    (State.tearPage s i).intake = s.intake ∧ (State.tearPage s i).peers = s.peers ∧
    (State.tearPage s i).link = s.link ∧ (State.tearPage s i).flags = s.flags ∧ (State.tearPage s i).hand = s.hand ∧
    (State.tearPage s i).panel = s.panel ∧ (State.tearPage s i).resetHold = s.resetHold ∧
    (State.tearPage s i).pending = s.pending ∧ (State.tearPage s i).axis? = s.axis? ∧
    (State.tearPage s i).hand? = s.hand? := by
  unfold State.tearPage
  simp

@[simp] theorem State.setCommit_frame (s : State) (c : Option (Nat × List Byte)) :
    (State.setCommit s c).start = s.start ∧ (State.setCommit s c).record = s.record ∧
    (State.setCommit s c).stick = s.stick ∧ (State.setCommit s c).blend = s.blend ∧
    (State.setCommit s c).coupling = s.coupling ∧ (State.setCommit s c).limiter = s.limiter ∧
    (State.setCommit s c).drive = s.drive ∧ (State.setCommit s c).presets = s.presets ∧
    (State.setCommit s c).clock = s.clock ∧ (State.setCommit s c).sched = s.sched ∧
    (State.setCommit s c).intake = s.intake ∧ (State.setCommit s c).peers = s.peers ∧
    (State.setCommit s c).link = s.link ∧ (State.setCommit s c).flags = s.flags ∧
    (State.setCommit s c).hand = s.hand ∧ (State.setCommit s c).panel = s.panel ∧
    (State.setCommit s c).resetHold = s.resetHold ∧ (State.setCommit s c).freeCount = s.freeCount ∧
    (State.setCommit s c).pending = s.pending ∧ (State.setCommit s c).axis? = s.axis? ∧
    (State.setCommit s c).hand? = s.hand? := by
  unfold State.setCommit
  (try dsimp only)
  simp

@[simp] theorem setFlag_frame (f : EventFlag) (s : State) :
    (setFlag f s).start = s.start ∧ (setFlag f s).record = s.record ∧ (setFlag f s).stick = s.stick ∧
    (setFlag f s).blend = s.blend ∧ (setFlag f s).coupling = s.coupling ∧ (setFlag f s).limiter = s.limiter ∧
    (setFlag f s).drive = s.drive ∧ (setFlag f s).presets = s.presets ∧ (setFlag f s).memory = s.memory ∧
    (setFlag f s).clock = s.clock ∧ (setFlag f s).sched = s.sched ∧ (setFlag f s).intake = s.intake ∧
    (setFlag f s).peers = s.peers ∧ (setFlag f s).link = s.link ∧ (setFlag f s).hand = s.hand ∧
    (setFlag f s).panel = s.panel ∧ (setFlag f s).resetHold = s.resetHold ∧ (setFlag f s).freeCount = s.freeCount ∧
    (setFlag f s).pending = s.pending ∧ (setFlag f s).axis? = s.axis? ∧ (setFlag f s).hand? = s.hand? := by
  unfold setFlag
  simp

@[simp] theorem clearCarried_frame (standing : FlagSet) (s : State) :
    (clearCarried standing s).start = s.start ∧ (clearCarried standing s).record = s.record ∧
    (clearCarried standing s).stick = s.stick ∧ (clearCarried standing s).blend = s.blend ∧
    (clearCarried standing s).coupling = s.coupling ∧ (clearCarried standing s).limiter = s.limiter ∧
    (clearCarried standing s).drive = s.drive ∧ (clearCarried standing s).presets = s.presets ∧
    (clearCarried standing s).memory = s.memory ∧ (clearCarried standing s).clock = s.clock ∧
    (clearCarried standing s).sched = s.sched ∧ (clearCarried standing s).intake = s.intake ∧
    (clearCarried standing s).peers = s.peers ∧ (clearCarried standing s).hand = s.hand ∧
    (clearCarried standing s).panel = s.panel ∧ (clearCarried standing s).resetHold = s.resetHold ∧
    (clearCarried standing s).freeCount = s.freeCount ∧ (clearCarried standing s).pending = s.pending ∧
    (clearCarried standing s).axis? = s.axis? ∧ (clearCarried standing s).hand? = s.hand? := by
  unfold clearCarried
  (try dsimp only)
  simp

@[simp] theorem post_frame (cue : CueId) (phase : Phase) (reason : Reason) (s : State) :
    (post cue phase reason s).start = s.start ∧ (post cue phase reason s).record = s.record ∧
    (post cue phase reason s).stick = s.stick ∧ (post cue phase reason s).blend = s.blend ∧
    (post cue phase reason s).coupling = s.coupling ∧ (post cue phase reason s).limiter = s.limiter ∧
    (post cue phase reason s).drive = s.drive ∧ (post cue phase reason s).presets = s.presets ∧
    (post cue phase reason s).memory = s.memory ∧ (post cue phase reason s).clock = s.clock ∧
    (post cue phase reason s).intake = s.intake ∧ (post cue phase reason s).peers = s.peers ∧
    (post cue phase reason s).link = s.link ∧ (post cue phase reason s).flags = s.flags ∧
    (post cue phase reason s).hand = s.hand ∧ (post cue phase reason s).panel = s.panel ∧
    (post cue phase reason s).resetHold = s.resetHold ∧ (post cue phase reason s).freeCount = s.freeCount ∧
    (post cue phase reason s).pending = s.pending ∧ (post cue phase reason s).axis? = s.axis? ∧
    (post cue phase reason s).hand? = s.hand? := by
  unfold post
  (try dsimp only)
  simp

@[simp] theorem enterMove_frame (m : MoveState) (s : State) :
    (enterMove m s).start = s.start ∧ (enterMove m s).record = s.record ∧ (enterMove m s).stick = s.stick ∧
    (enterMove m s).coupling = s.coupling ∧ (enterMove m s).limiter = s.limiter ∧
    (enterMove m s).presets = s.presets ∧ (enterMove m s).memory = s.memory ∧ (enterMove m s).clock = s.clock ∧
    (enterMove m s).sched = s.sched ∧ (enterMove m s).intake = s.intake ∧ (enterMove m s).peers = s.peers ∧
    (enterMove m s).link = s.link ∧ (enterMove m s).flags = s.flags ∧ (enterMove m s).hand = s.hand ∧
    (enterMove m s).panel = s.panel ∧ (enterMove m s).resetHold = s.resetHold ∧
    (enterMove m s).freeCount = s.freeCount ∧ (enterMove m s).pending = s.pending ∧ (enterMove m s).axis? = s.axis? ∧
    (enterMove m s).hand? = s.hand? := by
  unfold enterMove
  (try dsimp only)
  simp

@[simp] theorem setStopCause_frame (c : StopCause) (s : State) :
    (setStopCause c s).start = s.start ∧ (setStopCause c s).record = s.record ∧ (setStopCause c s).stick = s.stick ∧
    (setStopCause c s).coupling = s.coupling ∧ (setStopCause c s).limiter = s.limiter ∧
    (setStopCause c s).drive = s.drive ∧ (setStopCause c s).presets = s.presets ∧
    (setStopCause c s).memory = s.memory ∧ (setStopCause c s).clock = s.clock ∧ (setStopCause c s).sched = s.sched ∧
    (setStopCause c s).intake = s.intake ∧ (setStopCause c s).peers = s.peers ∧ (setStopCause c s).link = s.link ∧
    (setStopCause c s).flags = s.flags ∧ (setStopCause c s).hand = s.hand ∧ (setStopCause c s).panel = s.panel ∧
    (setStopCause c s).resetHold = s.resetHold ∧ (setStopCause c s).freeCount = s.freeCount ∧
    (setStopCause c s).pending = s.pending ∧ (setStopCause c s).axis? = s.axis? ∧
    (setStopCause c s).hand? = s.hand? := by
  unfold setStopCause
  (try dsimp only)
  simp

@[simp] theorem zeroPark_frame (s : State) :
    (zeroPark s).start = s.start ∧ (zeroPark s).record = s.record ∧ (zeroPark s).stick = s.stick ∧
    (zeroPark s).coupling = s.coupling ∧ (zeroPark s).limiter = s.limiter ∧ (zeroPark s).drive = s.drive ∧
    (zeroPark s).presets = s.presets ∧ (zeroPark s).memory = s.memory ∧ (zeroPark s).clock = s.clock ∧
    (zeroPark s).sched = s.sched ∧ (zeroPark s).intake = s.intake ∧ (zeroPark s).peers = s.peers ∧
    (zeroPark s).link = s.link ∧ (zeroPark s).flags = s.flags ∧ (zeroPark s).hand = s.hand ∧
    (zeroPark s).panel = s.panel ∧ (zeroPark s).resetHold = s.resetHold ∧ (zeroPark s).freeCount = s.freeCount ∧
    (zeroPark s).pending = s.pending ∧ (zeroPark s).axis? = s.axis? ∧ (zeroPark s).hand? = s.hand? := by
  unfold zeroPark
  (try dsimp only)
  simp

@[simp] theorem enterHold_frame (s : State) :
    (enterHold s).start = s.start ∧ (enterHold s).record = s.record ∧ (enterHold s).stick = s.stick ∧
    (enterHold s).coupling = s.coupling ∧ (enterHold s).limiter = s.limiter ∧ (enterHold s).presets = s.presets ∧
    (enterHold s).memory = s.memory ∧ (enterHold s).clock = s.clock ∧ (enterHold s).sched = s.sched ∧
    (enterHold s).intake = s.intake ∧ (enterHold s).peers = s.peers ∧ (enterHold s).link = s.link ∧
    (enterHold s).flags = s.flags ∧ (enterHold s).hand = s.hand ∧ (enterHold s).panel = s.panel ∧
    (enterHold s).resetHold = s.resetHold ∧ (enterHold s).freeCount = s.freeCount ∧
    (enterHold s).pending = s.pending ∧ (enterHold s).axis? = s.axis? ∧ (enterHold s).hand? = s.hand? := by
  unfold enterHold
  simp

@[simp] theorem setLatch_frame (s : State) :
    (setLatch s).start = s.start ∧ (setLatch s).record = s.record ∧ (setLatch s).blend = s.blend ∧
    (setLatch s).coupling = s.coupling ∧ (setLatch s).limiter = s.limiter ∧ (setLatch s).drive = s.drive ∧
    (setLatch s).presets = s.presets ∧ (setLatch s).memory = s.memory ∧ (setLatch s).clock = s.clock ∧
    (setLatch s).sched = s.sched ∧ (setLatch s).intake = s.intake ∧ (setLatch s).peers = s.peers ∧
    (setLatch s).link = s.link ∧ (setLatch s).flags = s.flags ∧ (setLatch s).hand = s.hand ∧
    (setLatch s).panel = s.panel ∧ (setLatch s).resetHold = s.resetHold ∧ (setLatch s).freeCount = s.freeCount ∧
    (setLatch s).pending = s.pending ∧ (setLatch s).axis? = s.axis? ∧ (setLatch s).hand? = s.hand? := by
  unfold setLatch
  (try dsimp only)
  simp

@[simp] theorem trackSetpoint_frame (s : State) :
    (trackSetpoint s).start = s.start ∧ (trackSetpoint s).record = s.record ∧ (trackSetpoint s).stick = s.stick ∧
    (trackSetpoint s).blend = s.blend ∧ (trackSetpoint s).coupling = s.coupling ∧ (trackSetpoint s).drive = s.drive ∧
    (trackSetpoint s).presets = s.presets ∧ (trackSetpoint s).memory = s.memory ∧ (trackSetpoint s).clock = s.clock ∧
    (trackSetpoint s).sched = s.sched ∧ (trackSetpoint s).intake = s.intake ∧ (trackSetpoint s).peers = s.peers ∧
    (trackSetpoint s).link = s.link ∧ (trackSetpoint s).flags = s.flags ∧ (trackSetpoint s).hand = s.hand ∧
    (trackSetpoint s).panel = s.panel ∧ (trackSetpoint s).resetHold = s.resetHold ∧
    (trackSetpoint s).freeCount = s.freeCount ∧ (trackSetpoint s).pending = s.pending ∧
    (trackSetpoint s).axis? = s.axis? ∧ (trackSetpoint s).hand? = s.hand? := by
  unfold trackSetpoint
  (try dsimp only)
  simp

@[simp] theorem setC_frame (c : Int) (s : State) :
    (setC c s).start = s.start ∧ (setC c s).record = s.record ∧ (setC c s).stick = s.stick ∧
    (setC c s).coupling = s.coupling ∧ (setC c s).limiter = s.limiter ∧ (setC c s).drive = s.drive ∧
    (setC c s).presets = s.presets ∧ (setC c s).memory = s.memory ∧ (setC c s).clock = s.clock ∧
    (setC c s).sched = s.sched ∧ (setC c s).intake = s.intake ∧ (setC c s).peers = s.peers ∧
    (setC c s).link = s.link ∧ (setC c s).flags = s.flags ∧ (setC c s).hand = s.hand ∧ (setC c s).panel = s.panel ∧
    (setC c s).resetHold = s.resetHold ∧ (setC c s).freeCount = s.freeCount ∧ (setC c s).pending = s.pending ∧
    (setC c s).axis? = s.axis? ∧ (setC c s).hand? = s.hand? := by
  unfold setC
  (try dsimp only)
  simp

@[simp] theorem setCFromSetpoint_frame (ax : AxisSettings) (s : State) :
    (setCFromSetpoint ax s).start = s.start ∧ (setCFromSetpoint ax s).record = s.record ∧
    (setCFromSetpoint ax s).stick = s.stick ∧ (setCFromSetpoint ax s).coupling = s.coupling ∧
    (setCFromSetpoint ax s).limiter = s.limiter ∧ (setCFromSetpoint ax s).drive = s.drive ∧
    (setCFromSetpoint ax s).presets = s.presets ∧ (setCFromSetpoint ax s).memory = s.memory ∧
    (setCFromSetpoint ax s).clock = s.clock ∧ (setCFromSetpoint ax s).sched = s.sched ∧
    (setCFromSetpoint ax s).intake = s.intake ∧ (setCFromSetpoint ax s).peers = s.peers ∧
    (setCFromSetpoint ax s).link = s.link ∧ (setCFromSetpoint ax s).flags = s.flags ∧
    (setCFromSetpoint ax s).hand = s.hand ∧ (setCFromSetpoint ax s).panel = s.panel ∧
    (setCFromSetpoint ax s).resetHold = s.resetHold ∧ (setCFromSetpoint ax s).freeCount = s.freeCount ∧
    (setCFromSetpoint ax s).pending = s.pending ∧ (setCFromSetpoint ax s).axis? = s.axis? ∧
    (setCFromSetpoint ax s).hand? = s.hand? := by
  unfold setCFromSetpoint
  simp

@[simp] theorem zeroBlend_frame (s : State) :
    (zeroBlend s).start = s.start ∧ (zeroBlend s).record = s.record ∧ (zeroBlend s).stick = s.stick ∧
    (zeroBlend s).coupling = s.coupling ∧ (zeroBlend s).limiter = s.limiter ∧ (zeroBlend s).drive = s.drive ∧
    (zeroBlend s).presets = s.presets ∧ (zeroBlend s).memory = s.memory ∧ (zeroBlend s).clock = s.clock ∧
    (zeroBlend s).sched = s.sched ∧ (zeroBlend s).intake = s.intake ∧ (zeroBlend s).peers = s.peers ∧
    (zeroBlend s).link = s.link ∧ (zeroBlend s).flags = s.flags ∧ (zeroBlend s).hand = s.hand ∧
    (zeroBlend s).panel = s.panel ∧ (zeroBlend s).resetHold = s.resetHold ∧ (zeroBlend s).freeCount = s.freeCount ∧
    (zeroBlend s).pending = s.pending ∧ (zeroBlend s).axis? = s.axis? ∧ (zeroBlend s).hand? = s.hand? := by
  unfold zeroBlend
  (try dsimp only)
  simp

@[simp] theorem abandon_frame (why : Reason) (s : State) :
    (abandon why s).start = s.start ∧ (abandon why s).record = s.record ∧ (abandon why s).stick = s.stick ∧
    (abandon why s).coupling = s.coupling ∧ (abandon why s).limiter = s.limiter ∧ (abandon why s).drive = s.drive ∧
    (abandon why s).presets = s.presets ∧ (abandon why s).memory = s.memory ∧ (abandon why s).clock = s.clock ∧
    (abandon why s).intake = s.intake ∧ (abandon why s).peers = s.peers ∧ (abandon why s).link = s.link ∧
    (abandon why s).flags = s.flags ∧ (abandon why s).hand = s.hand ∧ (abandon why s).panel = s.panel ∧
    (abandon why s).resetHold = s.resetHold ∧ (abandon why s).freeCount = s.freeCount ∧
    (abandon why s).pending = s.pending ∧ (abandon why s).axis? = s.axis? ∧ (abandon why s).hand? = s.hand? := by
  unfold abandon
  (try dsimp only)
  (repeat' split) <;> simp

@[simp] theorem interlockStop_frame (s : State) :
    (interlockStop s).start = s.start ∧ (interlockStop s).record = s.record ∧ (interlockStop s).stick = s.stick ∧
    (interlockStop s).coupling = s.coupling ∧ (interlockStop s).limiter = s.limiter ∧
    (interlockStop s).presets = s.presets ∧ (interlockStop s).memory = s.memory ∧ (interlockStop s).clock = s.clock ∧
    (interlockStop s).intake = s.intake ∧ (interlockStop s).peers = s.peers ∧ (interlockStop s).link = s.link ∧
    (interlockStop s).flags = s.flags ∧ (interlockStop s).hand = s.hand ∧ (interlockStop s).panel = s.panel ∧
    (interlockStop s).resetHold = s.resetHold ∧ (interlockStop s).freeCount = s.freeCount ∧
    (interlockStop s).pending = s.pending ∧ (interlockStop s).axis? = s.axis? ∧ (interlockStop s).hand? = s.hand? := by
  unfold interlockStop
  simp

@[simp] theorem blendFaultEntry_frame (s : State) :
    (blendFaultEntry s).start = s.start ∧ (blendFaultEntry s).record = s.record ∧
    (blendFaultEntry s).stick = s.stick ∧ (blendFaultEntry s).coupling = s.coupling ∧
    (blendFaultEntry s).presets = s.presets ∧ (blendFaultEntry s).memory = s.memory ∧
    (blendFaultEntry s).clock = s.clock ∧ (blendFaultEntry s).intake = s.intake ∧
    (blendFaultEntry s).peers = s.peers ∧ (blendFaultEntry s).link = s.link ∧ (blendFaultEntry s).flags = s.flags ∧
    (blendFaultEntry s).hand = s.hand ∧ (blendFaultEntry s).panel = s.panel ∧
    (blendFaultEntry s).resetHold = s.resetHold ∧ (blendFaultEntry s).freeCount = s.freeCount ∧
    (blendFaultEntry s).pending = s.pending ∧ (blendFaultEntry s).axis? = s.axis? ∧
    (blendFaultEntry s).hand? = s.hand? := by
  unfold blendFaultEntry
  (try dsimp only)
  simp

@[simp] theorem faultEntry_frame (cause : FaultCause) (s : State) :
    (faultEntry cause s).start = s.start ∧ (faultEntry cause s).record = s.record ∧
    (faultEntry cause s).stick = s.stick ∧ (faultEntry cause s).coupling = s.coupling ∧
    (faultEntry cause s).presets = s.presets ∧ (faultEntry cause s).memory = s.memory ∧
    (faultEntry cause s).clock = s.clock ∧ (faultEntry cause s).intake = s.intake ∧
    (faultEntry cause s).peers = s.peers ∧ (faultEntry cause s).link = s.link ∧ (faultEntry cause s).flags = s.flags ∧
    (faultEntry cause s).hand = s.hand ∧ (faultEntry cause s).panel = s.panel ∧
    (faultEntry cause s).resetHold = s.resetHold ∧ (faultEntry cause s).freeCount = s.freeCount ∧
    (faultEntry cause s).pending = s.pending ∧ (faultEntry cause s).axis? = s.axis? ∧
    (faultEntry cause s).hand? = s.hand? := by
  unfold faultEntry
  (try dsimp only)
  simp

@[simp] theorem raise_frame (cause : FaultCause) (s : State) :
    (raise cause s).start = s.start ∧ (raise cause s).record = s.record ∧ (raise cause s).stick = s.stick ∧
    (raise cause s).coupling = s.coupling ∧ (raise cause s).presets = s.presets ∧ (raise cause s).memory = s.memory ∧
    (raise cause s).clock = s.clock ∧ (raise cause s).intake = s.intake ∧ (raise cause s).peers = s.peers ∧
    (raise cause s).link = s.link ∧ (raise cause s).flags = s.flags ∧ (raise cause s).hand = s.hand ∧
    (raise cause s).panel = s.panel ∧ (raise cause s).resetHold = s.resetHold ∧
    (raise cause s).freeCount = s.freeCount ∧ (raise cause s).pending = s.pending ∧ (raise cause s).axis? = s.axis? ∧
    (raise cause s).hand? = s.hand? := by
  unfold raise
  (try dsimp only)
  (repeat' split) <;> simp

@[simp] theorem clearCue_frame (cue : CueId) (s : State) :
    (clearCue cue s).start = s.start ∧ (clearCue cue s).record = s.record ∧ (clearCue cue s).coupling = s.coupling ∧
    (clearCue cue s).limiter = s.limiter ∧ (clearCue cue s).presets = s.presets ∧ (clearCue cue s).memory = s.memory ∧
    (clearCue cue s).clock = s.clock ∧ (clearCue cue s).intake = s.intake ∧ (clearCue cue s).peers = s.peers ∧
    (clearCue cue s).link = s.link ∧ (clearCue cue s).flags = s.flags ∧ (clearCue cue s).hand = s.hand ∧
    (clearCue cue s).panel = s.panel ∧ (clearCue cue s).resetHold = s.resetHold ∧
    (clearCue cue s).freeCount = s.freeCount ∧ (clearCue cue s).pending = s.pending ∧
    (clearCue cue s).axis? = s.axis? ∧ (clearCue cue s).hand? = s.hand? := by
  unfold clearCue
  (repeat' split) <;> simp

@[simp] theorem recompute_frame (ax : AxisSettings) (s : State) :
    (recompute ax s).start = s.start ∧ (recompute ax s).record = s.record ∧ (recompute ax s).blend = s.blend ∧
    (recompute ax s).coupling = s.coupling ∧ (recompute ax s).limiter = s.limiter ∧ (recompute ax s).drive = s.drive ∧
    (recompute ax s).presets = s.presets ∧ (recompute ax s).memory = s.memory ∧ (recompute ax s).clock = s.clock ∧
    (recompute ax s).sched = s.sched ∧ (recompute ax s).intake = s.intake ∧ (recompute ax s).peers = s.peers ∧
    (recompute ax s).link = s.link ∧ (recompute ax s).flags = s.flags ∧ (recompute ax s).hand = s.hand ∧
    (recompute ax s).panel = s.panel ∧ (recompute ax s).resetHold = s.resetHold ∧
    (recompute ax s).freeCount = s.freeCount ∧ (recompute ax s).pending = s.pending ∧
    (recompute ax s).axis? = s.axis? ∧ (recompute ax s).hand? = s.hand? := by
  unfold recompute
  (try dsimp only)
  simp

@[simp] theorem stickEvent_frame (ax : AxisSettings) (address : Nat) (s : State) :
    (stickEvent ax address s).start = s.start ∧ (stickEvent ax address s).record = s.record ∧
    (stickEvent ax address s).blend = s.blend ∧ (stickEvent ax address s).coupling = s.coupling ∧
    (stickEvent ax address s).limiter = s.limiter ∧ (stickEvent ax address s).drive = s.drive ∧
    (stickEvent ax address s).presets = s.presets ∧ (stickEvent ax address s).memory = s.memory ∧
    (stickEvent ax address s).clock = s.clock ∧ (stickEvent ax address s).sched = s.sched ∧
    (stickEvent ax address s).intake = s.intake ∧ (stickEvent ax address s).peers = s.peers ∧
    (stickEvent ax address s).link = s.link ∧ (stickEvent ax address s).flags = s.flags ∧
    (stickEvent ax address s).hand = s.hand ∧ (stickEvent ax address s).panel = s.panel ∧
    (stickEvent ax address s).resetHold = s.resetHold ∧ (stickEvent ax address s).freeCount = s.freeCount ∧
    (stickEvent ax address s).pending = s.pending ∧ (stickEvent ax address s).axis? = s.axis? ∧
    (stickEvent ax address s).hand? = s.hand? := by
  unfold stickEvent
  (repeat' split) <;> simp

@[simp] theorem couplingAccepted_frame (ax : AxisSettings) (e : PeerEntry) (s : State) :
    (couplingAccepted ax e s).start = s.start ∧ (couplingAccepted ax e s).record = s.record ∧
    (couplingAccepted ax e s).stick = s.stick ∧ (couplingAccepted ax e s).blend = s.blend ∧
    (couplingAccepted ax e s).limiter = s.limiter ∧ (couplingAccepted ax e s).drive = s.drive ∧
    (couplingAccepted ax e s).presets = s.presets ∧ (couplingAccepted ax e s).memory = s.memory ∧
    (couplingAccepted ax e s).clock = s.clock ∧ (couplingAccepted ax e s).sched = s.sched ∧
    (couplingAccepted ax e s).intake = s.intake ∧ (couplingAccepted ax e s).peers = s.peers ∧
    (couplingAccepted ax e s).link = s.link ∧ (couplingAccepted ax e s).flags = s.flags ∧
    (couplingAccepted ax e s).hand = s.hand ∧ (couplingAccepted ax e s).panel = s.panel ∧
    (couplingAccepted ax e s).resetHold = s.resetHold ∧ (couplingAccepted ax e s).freeCount = s.freeCount ∧
    (couplingAccepted ax e s).pending = s.pending ∧ (couplingAccepted ax e s).axis? = s.axis? ∧
    (couplingAccepted ax e s).hand? = s.hand? := by
  unfold couplingAccepted
  (try dsimp only)
  (repeat' split) <;> simp

@[simp] theorem couplingChanged_frame (ax : AxisSettings) (e : PeerEntry) (s : State) :
    (couplingChanged ax e s).start = s.start ∧ (couplingChanged ax e s).record = s.record ∧
    (couplingChanged ax e s).stick = s.stick ∧ (couplingChanged ax e s).blend = s.blend ∧
    (couplingChanged ax e s).limiter = s.limiter ∧ (couplingChanged ax e s).drive = s.drive ∧
    (couplingChanged ax e s).presets = s.presets ∧ (couplingChanged ax e s).memory = s.memory ∧
    (couplingChanged ax e s).clock = s.clock ∧ (couplingChanged ax e s).sched = s.sched ∧
    (couplingChanged ax e s).intake = s.intake ∧ (couplingChanged ax e s).peers = s.peers ∧
    (couplingChanged ax e s).link = s.link ∧ (couplingChanged ax e s).flags = s.flags ∧
    (couplingChanged ax e s).hand = s.hand ∧ (couplingChanged ax e s).panel = s.panel ∧
    (couplingChanged ax e s).resetHold = s.resetHold ∧ (couplingChanged ax e s).freeCount = s.freeCount ∧
    (couplingChanged ax e s).pending = s.pending ∧ (couplingChanged ax e s).axis? = s.axis? ∧
    (couplingChanged ax e s).hand? = s.hand? := by
  unfold couplingChanged
  (try dsimp only)
  (repeat' split) <;> simp

@[simp] theorem formTarget_frame (ax : AxisSettings) (s : State) :
    (formTarget ax s).start = s.start ∧ (formTarget ax s).record = s.record ∧ (formTarget ax s).stick = s.stick ∧
    (formTarget ax s).blend = s.blend ∧ (formTarget ax s).limiter = s.limiter ∧ (formTarget ax s).drive = s.drive ∧
    (formTarget ax s).presets = s.presets ∧ (formTarget ax s).memory = s.memory ∧ (formTarget ax s).clock = s.clock ∧
    (formTarget ax s).sched = s.sched ∧ (formTarget ax s).intake = s.intake ∧ (formTarget ax s).peers = s.peers ∧
    (formTarget ax s).link = s.link ∧ (formTarget ax s).hand = s.hand ∧ (formTarget ax s).panel = s.panel ∧
    (formTarget ax s).resetHold = s.resetHold ∧ (formTarget ax s).freeCount = s.freeCount ∧
    (formTarget ax s).pending = s.pending ∧ (formTarget ax s).axis? = s.axis? ∧ (formTarget ax s).hand? = s.hand? := by
  unfold formTarget
  (try dsimp only)
  (repeat' split) <;> simp

@[simp] theorem limiterStep_frame (ax : AxisSettings) (s : State) :
    (limiterStep ax s).start = s.start ∧ (limiterStep ax s).record = s.record ∧ (limiterStep ax s).stick = s.stick ∧
    (limiterStep ax s).blend = s.blend ∧ (limiterStep ax s).coupling = s.coupling ∧
    (limiterStep ax s).presets = s.presets ∧ (limiterStep ax s).memory = s.memory ∧
    (limiterStep ax s).clock = s.clock ∧ (limiterStep ax s).sched = s.sched ∧ (limiterStep ax s).intake = s.intake ∧
    (limiterStep ax s).peers = s.peers ∧ (limiterStep ax s).link = s.link ∧ (limiterStep ax s).flags = s.flags ∧
    (limiterStep ax s).hand = s.hand ∧ (limiterStep ax s).panel = s.panel ∧
    (limiterStep ax s).resetHold = s.resetHold ∧ (limiterStep ax s).freeCount = s.freeCount ∧
    (limiterStep ax s).pending = s.pending ∧ (limiterStep ax s).axis? = s.axis? ∧
    (limiterStep ax s).hand? = s.hand? := by
  unfold limiterStep
  (try dsimp only)
  simp

@[simp] theorem beginPlan_frame (p : Plan) (s : State) :
    (beginPlan p s).start = s.start ∧ (beginPlan p s).record = s.record ∧ (beginPlan p s).stick = s.stick ∧
    (beginPlan p s).coupling = s.coupling ∧ (beginPlan p s).limiter = s.limiter ∧
    (beginPlan p s).presets = s.presets ∧ (beginPlan p s).memory = s.memory ∧ (beginPlan p s).clock = s.clock ∧
    (beginPlan p s).sched = s.sched ∧ (beginPlan p s).intake = s.intake ∧ (beginPlan p s).peers = s.peers ∧
    (beginPlan p s).link = s.link ∧ (beginPlan p s).flags = s.flags ∧ (beginPlan p s).hand = s.hand ∧
    (beginPlan p s).panel = s.panel ∧ (beginPlan p s).resetHold = s.resetHold ∧
    (beginPlan p s).freeCount = s.freeCount ∧ (beginPlan p s).pending = s.pending ∧ (beginPlan p s).axis? = s.axis? ∧
    (beginPlan p s).hand? = s.hand? := by
  unfold beginPlan
  (try dsimp only)
  simp

@[simp] theorem releaseInto_frame (ax : AxisSettings) (s : State) :
    (releaseInto ax s).start = s.start ∧ (releaseInto ax s).record = s.record ∧ (releaseInto ax s).stick = s.stick ∧
    (releaseInto ax s).coupling = s.coupling ∧ (releaseInto ax s).limiter = s.limiter ∧
    (releaseInto ax s).presets = s.presets ∧ (releaseInto ax s).memory = s.memory ∧
    (releaseInto ax s).clock = s.clock ∧ (releaseInto ax s).sched = s.sched ∧ (releaseInto ax s).intake = s.intake ∧
    (releaseInto ax s).peers = s.peers ∧ (releaseInto ax s).link = s.link ∧ (releaseInto ax s).flags = s.flags ∧
    (releaseInto ax s).hand = s.hand ∧ (releaseInto ax s).panel = s.panel ∧
    (releaseInto ax s).resetHold = s.resetHold ∧ (releaseInto ax s).freeCount = s.freeCount ∧
    (releaseInto ax s).pending = s.pending ∧ (releaseInto ax s).axis? = s.axis? ∧
    (releaseInto ax s).hand? = s.hand? := by
  unfold releaseInto
  (try dsimp only)
  (repeat' split) <;> simp

@[simp] theorem completeRelease_frame (ax : AxisSettings) (s : State) :
    (completeRelease ax s).start = s.start ∧ (completeRelease ax s).record = s.record ∧
    (completeRelease ax s).stick = s.stick ∧ (completeRelease ax s).coupling = s.coupling ∧
    (completeRelease ax s).limiter = s.limiter ∧ (completeRelease ax s).presets = s.presets ∧
    (completeRelease ax s).memory = s.memory ∧ (completeRelease ax s).clock = s.clock ∧
    (completeRelease ax s).intake = s.intake ∧ (completeRelease ax s).peers = s.peers ∧
    (completeRelease ax s).link = s.link ∧ (completeRelease ax s).flags = s.flags ∧
    (completeRelease ax s).hand = s.hand ∧ (completeRelease ax s).panel = s.panel ∧
    (completeRelease ax s).resetHold = s.resetHold ∧ (completeRelease ax s).freeCount = s.freeCount ∧
    (completeRelease ax s).pending = s.pending ∧ (completeRelease ax s).axis? = s.axis? ∧
    (completeRelease ax s).hand? = s.hand? := by
  unfold completeRelease
  (try dsimp only)
  (repeat' split) <;> simp

@[simp] theorem enterReleasing_frame (ax : AxisSettings) (s : State) :
    (enterReleasing ax s).start = s.start ∧ (enterReleasing ax s).record = s.record ∧
    (enterReleasing ax s).stick = s.stick ∧ (enterReleasing ax s).coupling = s.coupling ∧
    (enterReleasing ax s).presets = s.presets ∧ (enterReleasing ax s).memory = s.memory ∧
    (enterReleasing ax s).clock = s.clock ∧ (enterReleasing ax s).sched = s.sched ∧
    (enterReleasing ax s).intake = s.intake ∧ (enterReleasing ax s).peers = s.peers ∧
    (enterReleasing ax s).link = s.link ∧ (enterReleasing ax s).flags = s.flags ∧
    (enterReleasing ax s).hand = s.hand ∧ (enterReleasing ax s).panel = s.panel ∧
    (enterReleasing ax s).resetHold = s.resetHold ∧ (enterReleasing ax s).freeCount = s.freeCount ∧
    (enterReleasing ax s).pending = s.pending ∧ (enterReleasing ax s).axis? = s.axis? ∧
    (enterReleasing ax s).hand? = s.hand? := by
  unfold enterReleasing
  (try dsimp only)
  simp

@[simp] theorem completeIfZero_frame (ax : AxisSettings) (s : State) :
    (completeIfZero ax s).start = s.start ∧ (completeIfZero ax s).record = s.record ∧
    (completeIfZero ax s).stick = s.stick ∧ (completeIfZero ax s).coupling = s.coupling ∧
    (completeIfZero ax s).limiter = s.limiter ∧ (completeIfZero ax s).presets = s.presets ∧
    (completeIfZero ax s).memory = s.memory ∧ (completeIfZero ax s).clock = s.clock ∧
    (completeIfZero ax s).intake = s.intake ∧ (completeIfZero ax s).peers = s.peers ∧
    (completeIfZero ax s).link = s.link ∧ (completeIfZero ax s).flags = s.flags ∧
    (completeIfZero ax s).hand = s.hand ∧ (completeIfZero ax s).panel = s.panel ∧
    (completeIfZero ax s).resetHold = s.resetHold ∧ (completeIfZero ax s).freeCount = s.freeCount ∧
    (completeIfZero ax s).pending = s.pending ∧ (completeIfZero ax s).axis? = s.axis? ∧
    (completeIfZero ax s).hand? = s.hand? := by
  unfold completeIfZero
  (repeat' split) <;> simp

@[simp] theorem leaveForGo_frame (ax : AxisSettings) (s : State) :
    (leaveForGo ax s).start = s.start ∧ (leaveForGo ax s).record = s.record ∧ (leaveForGo ax s).stick = s.stick ∧
    (leaveForGo ax s).coupling = s.coupling ∧ (leaveForGo ax s).limiter = s.limiter ∧
    (leaveForGo ax s).drive = s.drive ∧ (leaveForGo ax s).presets = s.presets ∧ (leaveForGo ax s).memory = s.memory ∧
    (leaveForGo ax s).clock = s.clock ∧ (leaveForGo ax s).intake = s.intake ∧ (leaveForGo ax s).peers = s.peers ∧
    (leaveForGo ax s).link = s.link ∧ (leaveForGo ax s).flags = s.flags ∧ (leaveForGo ax s).hand = s.hand ∧
    (leaveForGo ax s).panel = s.panel ∧ (leaveForGo ax s).resetHold = s.resetHold ∧
    (leaveForGo ax s).freeCount = s.freeCount ∧ (leaveForGo ax s).pending = s.pending ∧
    (leaveForGo ax s).axis? = s.axis? ∧ (leaveForGo ax s).hand? = s.hand? := by
  unfold leaveForGo
  (repeat' split) <;> simp

@[simp] theorem goNow_frame (ax : AxisSettings) (f : Firing) (target : Int) (s : State) :
    (goNow ax f target s).start = s.start ∧ (goNow ax f target s).record = s.record ∧
    (goNow ax f target s).stick = s.stick ∧ (goNow ax f target s).coupling = s.coupling ∧
    (goNow ax f target s).limiter = s.limiter ∧ (goNow ax f target s).presets = s.presets ∧
    (goNow ax f target s).memory = s.memory ∧ (goNow ax f target s).clock = s.clock ∧
    (goNow ax f target s).intake = s.intake ∧ (goNow ax f target s).peers = s.peers ∧
    (goNow ax f target s).link = s.link ∧ (goNow ax f target s).flags = s.flags ∧
    (goNow ax f target s).hand = s.hand ∧ (goNow ax f target s).panel = s.panel ∧
    (goNow ax f target s).resetHold = s.resetHold ∧ (goNow ax f target s).freeCount = s.freeCount ∧
    (goNow ax f target s).pending = s.pending ∧ (goNow ax f target s).axis? = s.axis? ∧
    (goNow ax f target s).hand? = s.hand? := by
  unfold goNow
  (try dsimp only)
  simp

@[simp] theorem putPending_frame (ax : AxisSettings) (f : Firing) (target : Int) (s : State) :
    (putPending ax f target s).start = s.start ∧ (putPending ax f target s).record = s.record ∧
    (putPending ax f target s).stick = s.stick ∧ (putPending ax f target s).coupling = s.coupling ∧
    (putPending ax f target s).limiter = s.limiter ∧ (putPending ax f target s).drive = s.drive ∧
    (putPending ax f target s).presets = s.presets ∧ (putPending ax f target s).memory = s.memory ∧
    (putPending ax f target s).clock = s.clock ∧ (putPending ax f target s).intake = s.intake ∧
    (putPending ax f target s).peers = s.peers ∧ (putPending ax f target s).link = s.link ∧
    (putPending ax f target s).hand = s.hand ∧ (putPending ax f target s).panel = s.panel ∧
    (putPending ax f target s).resetHold = s.resetHold ∧ (putPending ax f target s).freeCount = s.freeCount ∧
    (putPending ax f target s).pending = s.pending ∧ (putPending ax f target s).axis? = s.axis? ∧
    (putPending ax f target s).hand? = s.hand? := by
  unfold putPending
  (try dsimp only)
  (repeat' split) <;> simp

@[simp] theorem goPending_frame (ax : AxisSettings) (f : Firing) (target : Int) (s : State) :
    (goPending ax f target s).start = s.start ∧ (goPending ax f target s).record = s.record ∧
    (goPending ax f target s).stick = s.stick ∧ (goPending ax f target s).coupling = s.coupling ∧
    (goPending ax f target s).presets = s.presets ∧ (goPending ax f target s).memory = s.memory ∧
    (goPending ax f target s).clock = s.clock ∧ (goPending ax f target s).intake = s.intake ∧
    (goPending ax f target s).peers = s.peers ∧ (goPending ax f target s).link = s.link ∧
    (goPending ax f target s).hand = s.hand ∧ (goPending ax f target s).panel = s.panel ∧
    (goPending ax f target s).resetHold = s.resetHold ∧ (goPending ax f target s).freeCount = s.freeCount ∧
    (goPending ax f target s).pending = s.pending ∧ (goPending ax f target s).axis? = s.axis? ∧
    (goPending ax f target s).hand? = s.hand? := by
  unfold goPending
  (repeat' split) <;> simp

@[simp] theorem goCue_frame (ax : AxisSettings) (f : Firing) (s : State) :
    (goCue ax f s).start = s.start ∧ (goCue ax f s).record = s.record ∧ (goCue ax f s).stick = s.stick ∧
    (goCue ax f s).coupling = s.coupling ∧ (goCue ax f s).presets = s.presets ∧ (goCue ax f s).memory = s.memory ∧
    (goCue ax f s).clock = s.clock ∧ (goCue ax f s).intake = s.intake ∧ (goCue ax f s).peers = s.peers ∧
    (goCue ax f s).link = s.link ∧ (goCue ax f s).hand = s.hand ∧ (goCue ax f s).panel = s.panel ∧
    (goCue ax f s).resetHold = s.resetHold ∧ (goCue ax f s).freeCount = s.freeCount ∧
    (goCue ax f s).pending = s.pending ∧ (goCue ax f s).axis? = s.axis? ∧ (goCue ax f s).hand? = s.hand? := by
  unfold goCue
  (repeat' split) <;> simp

@[simp] theorem haltMove_frame (s : State) :
    (haltMove s).start = s.start ∧ (haltMove s).record = s.record ∧ (haltMove s).stick = s.stick ∧
    (haltMove s).coupling = s.coupling ∧ (haltMove s).limiter = s.limiter ∧ (haltMove s).presets = s.presets ∧
    (haltMove s).memory = s.memory ∧ (haltMove s).clock = s.clock ∧ (haltMove s).intake = s.intake ∧
    (haltMove s).peers = s.peers ∧ (haltMove s).link = s.link ∧ (haltMove s).flags = s.flags ∧
    (haltMove s).hand = s.hand ∧ (haltMove s).panel = s.panel ∧ (haltMove s).resetHold = s.resetHold ∧
    (haltMove s).freeCount = s.freeCount ∧ (haltMove s).pending = s.pending ∧ (haltMove s).axis? = s.axis? ∧
    (haltMove s).hand? = s.hand? := by
  unfold haltMove
  (repeat' split) <;> simp

@[simp] theorem haltCue_frame (cue : CueId) (s : State) :
    (haltCue cue s).start = s.start ∧ (haltCue cue s).record = s.record ∧ (haltCue cue s).coupling = s.coupling ∧
    (haltCue cue s).limiter = s.limiter ∧ (haltCue cue s).presets = s.presets ∧ (haltCue cue s).memory = s.memory ∧
    (haltCue cue s).clock = s.clock ∧ (haltCue cue s).intake = s.intake ∧ (haltCue cue s).peers = s.peers ∧
    (haltCue cue s).link = s.link ∧ (haltCue cue s).flags = s.flags ∧ (haltCue cue s).hand = s.hand ∧
    (haltCue cue s).panel = s.panel ∧ (haltCue cue s).resetHold = s.resetHold ∧
    (haltCue cue s).freeCount = s.freeCount ∧ (haltCue cue s).pending = s.pending ∧ (haltCue cue s).axis? = s.axis? ∧
    (haltCue cue s).hand? = s.hand? := by
  unfold haltCue
  (try dsimp only)
  simp

@[simp] theorem stagePlan_frame (s : State) :
    (stagePlan s).start = s.start ∧ (stagePlan s).record = s.record ∧ (stagePlan s).stick = s.stick ∧
    (stagePlan s).coupling = s.coupling ∧ (stagePlan s).limiter = s.limiter ∧ (stagePlan s).drive = s.drive ∧
    (stagePlan s).presets = s.presets ∧ (stagePlan s).memory = s.memory ∧ (stagePlan s).clock = s.clock ∧
    (stagePlan s).sched = s.sched ∧ (stagePlan s).intake = s.intake ∧ (stagePlan s).peers = s.peers ∧
    (stagePlan s).link = s.link ∧ (stagePlan s).flags = s.flags ∧ (stagePlan s).hand = s.hand ∧
    (stagePlan s).panel = s.panel ∧ (stagePlan s).resetHold = s.resetHold ∧ (stagePlan s).freeCount = s.freeCount ∧
    (stagePlan s).pending = s.pending ∧ (stagePlan s).axis? = s.axis? ∧ (stagePlan s).hand? = s.hand? := by
  unfold stagePlan
  (try dsimp only)
  (repeat' split) <;> simp

@[simp] theorem stageWeight_frame (ax : AxisSettings) (s : State) :
    (stageWeight ax s).start = s.start ∧ (stageWeight ax s).record = s.record ∧ (stageWeight ax s).stick = s.stick ∧
    (stageWeight ax s).coupling = s.coupling ∧ (stageWeight ax s).limiter = s.limiter ∧
    (stageWeight ax s).drive = s.drive ∧ (stageWeight ax s).presets = s.presets ∧
    (stageWeight ax s).memory = s.memory ∧ (stageWeight ax s).clock = s.clock ∧ (stageWeight ax s).sched = s.sched ∧
    (stageWeight ax s).intake = s.intake ∧ (stageWeight ax s).peers = s.peers ∧ (stageWeight ax s).link = s.link ∧
    (stageWeight ax s).flags = s.flags ∧ (stageWeight ax s).hand = s.hand ∧ (stageWeight ax s).panel = s.panel ∧
    (stageWeight ax s).resetHold = s.resetHold ∧ (stageWeight ax s).freeCount = s.freeCount ∧
    (stageWeight ax s).pending = s.pending ∧ (stageWeight ax s).axis? = s.axis? ∧
    (stageWeight ax s).hand? = s.hand? := by
  unfold stageWeight
  (try dsimp only)
  (repeat' split) <;> simp

@[simp] theorem stageStream_frame (ax : AxisSettings) (s : State) :
    (stageStream ax s).start = s.start ∧ (stageStream ax s).record = s.record ∧ (stageStream ax s).stick = s.stick ∧
    (stageStream ax s).coupling = s.coupling ∧ (stageStream ax s).limiter = s.limiter ∧
    (stageStream ax s).drive = s.drive ∧ (stageStream ax s).presets = s.presets ∧
    (stageStream ax s).memory = s.memory ∧ (stageStream ax s).clock = s.clock ∧ (stageStream ax s).sched = s.sched ∧
    (stageStream ax s).intake = s.intake ∧ (stageStream ax s).peers = s.peers ∧ (stageStream ax s).link = s.link ∧
    (stageStream ax s).flags = s.flags ∧ (stageStream ax s).hand = s.hand ∧ (stageStream ax s).panel = s.panel ∧
    (stageStream ax s).resetHold = s.resetHold ∧ (stageStream ax s).freeCount = s.freeCount ∧
    (stageStream ax s).pending = s.pending ∧ (stageStream ax s).axis? = s.axis? ∧
    (stageStream ax s).hand? = s.hand? := by
  unfold stageStream
  (try dsimp only)
  (repeat' split) <;> simp

@[simp] theorem stageC_frame (ax : AxisSettings) (s : State) :
    (stageC ax s).start = s.start ∧ (stageC ax s).record = s.record ∧ (stageC ax s).stick = s.stick ∧
    (stageC ax s).coupling = s.coupling ∧ (stageC ax s).limiter = s.limiter ∧ (stageC ax s).drive = s.drive ∧
    (stageC ax s).presets = s.presets ∧ (stageC ax s).memory = s.memory ∧ (stageC ax s).clock = s.clock ∧
    (stageC ax s).sched = s.sched ∧ (stageC ax s).intake = s.intake ∧ (stageC ax s).peers = s.peers ∧
    (stageC ax s).link = s.link ∧ (stageC ax s).flags = s.flags ∧ (stageC ax s).hand = s.hand ∧
    (stageC ax s).panel = s.panel ∧ (stageC ax s).resetHold = s.resetHold ∧ (stageC ax s).freeCount = s.freeCount ∧
    (stageC ax s).pending = s.pending ∧ (stageC ax s).axis? = s.axis? ∧ (stageC ax s).hand? = s.hand? := by
  unfold stageC
  (try dsimp only)
  (repeat' split) <;> simp

@[simp] theorem arrive_frame (s : State) :
    (arrive s).start = s.start ∧ (arrive s).record = s.record ∧ (arrive s).stick = s.stick ∧
    (arrive s).coupling = s.coupling ∧ (arrive s).limiter = s.limiter ∧ (arrive s).presets = s.presets ∧
    (arrive s).memory = s.memory ∧ (arrive s).clock = s.clock ∧ (arrive s).intake = s.intake ∧
    (arrive s).peers = s.peers ∧ (arrive s).link = s.link ∧ (arrive s).flags = s.flags ∧ (arrive s).hand = s.hand ∧
    (arrive s).panel = s.panel ∧ (arrive s).resetHold = s.resetHold ∧ (arrive s).freeCount = s.freeCount ∧
    (arrive s).pending = s.pending ∧ (arrive s).axis? = s.axis? ∧ (arrive s).hand? = s.hand? := by
  unfold arrive
  (try dsimp only)
  (repeat' split) <;> simp

@[simp] theorem takeover_frame (ax : AxisSettings) (s : State) :
    (takeover ax s).start = s.start ∧ (takeover ax s).record = s.record ∧ (takeover ax s).stick = s.stick ∧
    (takeover ax s).coupling = s.coupling ∧ (takeover ax s).limiter = s.limiter ∧
    (takeover ax s).presets = s.presets ∧ (takeover ax s).memory = s.memory ∧ (takeover ax s).clock = s.clock ∧
    (takeover ax s).intake = s.intake ∧ (takeover ax s).peers = s.peers ∧ (takeover ax s).link = s.link ∧
    (takeover ax s).hand = s.hand ∧ (takeover ax s).panel = s.panel ∧ (takeover ax s).resetHold = s.resetHold ∧
    (takeover ax s).freeCount = s.freeCount ∧ (takeover ax s).pending = s.pending ∧ (takeover ax s).axis? = s.axis? ∧
    (takeover ax s).hand? = s.hand? := by
  unfold takeover
  (try dsimp only)
  (repeat' split) <;> simp

@[simp] theorem enterBlend_frame (s : State) :
    (enterBlend s).start = s.start ∧ (enterBlend s).record = s.record ∧ (enterBlend s).stick = s.stick ∧
    (enterBlend s).coupling = s.coupling ∧ (enterBlend s).limiter = s.limiter ∧ (enterBlend s).presets = s.presets ∧
    (enterBlend s).memory = s.memory ∧ (enterBlend s).clock = s.clock ∧ (enterBlend s).sched = s.sched ∧
    (enterBlend s).intake = s.intake ∧ (enterBlend s).peers = s.peers ∧ (enterBlend s).link = s.link ∧
    (enterBlend s).flags = s.flags ∧ (enterBlend s).hand = s.hand ∧ (enterBlend s).panel = s.panel ∧
    (enterBlend s).resetHold = s.resetHold ∧ (enterBlend s).freeCount = s.freeCount ∧
    (enterBlend s).pending = s.pending ∧ (enterBlend s).axis? = s.axis? ∧ (enterBlend s).hand? = s.hand? := by
  unfold enterBlend
  (try dsimp only)
  simp

@[simp] theorem endStop_frame (ax : AxisSettings) (s : State) :
    (endStop ax s).start = s.start ∧ (endStop ax s).record = s.record ∧ (endStop ax s).stick = s.stick ∧
    (endStop ax s).coupling = s.coupling ∧ (endStop ax s).limiter = s.limiter ∧ (endStop ax s).presets = s.presets ∧
    (endStop ax s).memory = s.memory ∧ (endStop ax s).clock = s.clock ∧ (endStop ax s).sched = s.sched ∧
    (endStop ax s).intake = s.intake ∧ (endStop ax s).peers = s.peers ∧ (endStop ax s).link = s.link ∧
    (endStop ax s).flags = s.flags ∧ (endStop ax s).hand = s.hand ∧ (endStop ax s).panel = s.panel ∧
    (endStop ax s).resetHold = s.resetHold ∧ (endStop ax s).freeCount = s.freeCount ∧
    (endStop ax s).pending = s.pending ∧ (endStop ax s).axis? = s.axis? ∧ (endStop ax s).hand? = s.hand? := by
  unfold endStop
  (try dsimp only)
  (repeat' split) <;> simp

@[simp] theorem enterParking_frame (ax : AxisSettings) (s : State) :
    (enterParking ax s).start = s.start ∧ (enterParking ax s).record = s.record ∧
    (enterParking ax s).stick = s.stick ∧ (enterParking ax s).coupling = s.coupling ∧
    (enterParking ax s).limiter = s.limiter ∧ (enterParking ax s).presets = s.presets ∧
    (enterParking ax s).memory = s.memory ∧ (enterParking ax s).clock = s.clock ∧
    (enterParking ax s).sched = s.sched ∧ (enterParking ax s).intake = s.intake ∧
    (enterParking ax s).peers = s.peers ∧ (enterParking ax s).link = s.link ∧ (enterParking ax s).flags = s.flags ∧
    (enterParking ax s).hand = s.hand ∧ (enterParking ax s).panel = s.panel ∧
    (enterParking ax s).resetHold = s.resetHold ∧ (enterParking ax s).freeCount = s.freeCount ∧
    (enterParking ax s).pending = s.pending ∧ (enterParking ax s).axis? = s.axis? ∧
    (enterParking ax s).hand? = s.hand? := by
  unfold enterParking
  (try dsimp only)
  simp

@[simp] theorem countPark_frame (ax : AxisSettings) (s : State) :
    (countPark ax s).start = s.start ∧ (countPark ax s).record = s.record ∧ (countPark ax s).stick = s.stick ∧
    (countPark ax s).coupling = s.coupling ∧ (countPark ax s).limiter = s.limiter ∧
    (countPark ax s).presets = s.presets ∧ (countPark ax s).memory = s.memory ∧ (countPark ax s).clock = s.clock ∧
    (countPark ax s).sched = s.sched ∧ (countPark ax s).intake = s.intake ∧ (countPark ax s).peers = s.peers ∧
    (countPark ax s).link = s.link ∧ (countPark ax s).flags = s.flags ∧ (countPark ax s).hand = s.hand ∧
    (countPark ax s).panel = s.panel ∧ (countPark ax s).resetHold = s.resetHold ∧
    (countPark ax s).freeCount = s.freeCount ∧ (countPark ax s).pending = s.pending ∧
    (countPark ax s).axis? = s.axis? ∧ (countPark ax s).hand? = s.hand? := by
  unfold countPark
  (try dsimp only)
  (repeat' split) <;> simp

@[simp] theorem stageHold_frame (ax : AxisSettings) (s : State) :
    (stageHold ax s).start = s.start ∧ (stageHold ax s).record = s.record ∧ (stageHold ax s).stick = s.stick ∧
    (stageHold ax s).coupling = s.coupling ∧ (stageHold ax s).limiter = s.limiter ∧
    (stageHold ax s).presets = s.presets ∧ (stageHold ax s).memory = s.memory ∧ (stageHold ax s).clock = s.clock ∧
    (stageHold ax s).intake = s.intake ∧ (stageHold ax s).peers = s.peers ∧ (stageHold ax s).link = s.link ∧
    (stageHold ax s).flags = s.flags ∧ (stageHold ax s).hand = s.hand ∧ (stageHold ax s).panel = s.panel ∧
    (stageHold ax s).resetHold = s.resetHold ∧ (stageHold ax s).freeCount = s.freeCount ∧
    (stageHold ax s).pending = s.pending ∧ (stageHold ax s).axis? = s.axis? ∧ (stageHold ax s).hand? = s.hand? := by
  unfold stageHold
  (repeat' split) <;> simp

@[simp] theorem stageJog_frame (ax : AxisSettings) (s : State) :
    (stageJog ax s).start = s.start ∧ (stageJog ax s).record = s.record ∧ (stageJog ax s).stick = s.stick ∧
    (stageJog ax s).coupling = s.coupling ∧ (stageJog ax s).limiter = s.limiter ∧
    (stageJog ax s).presets = s.presets ∧ (stageJog ax s).memory = s.memory ∧ (stageJog ax s).clock = s.clock ∧
    (stageJog ax s).intake = s.intake ∧ (stageJog ax s).peers = s.peers ∧ (stageJog ax s).link = s.link ∧
    (stageJog ax s).flags = s.flags ∧ (stageJog ax s).hand = s.hand ∧ (stageJog ax s).panel = s.panel ∧
    (stageJog ax s).resetHold = s.resetHold ∧ (stageJog ax s).freeCount = s.freeCount ∧
    (stageJog ax s).pending = s.pending ∧ (stageJog ax s).axis? = s.axis? ∧ (stageJog ax s).hand? = s.hand? := by
  unfold stageJog
  (repeat' split) <;> simp

@[simp] theorem stagePlay_frame (ax : AxisSettings) (s : State) :
    (stagePlay ax s).start = s.start ∧ (stagePlay ax s).record = s.record ∧ (stagePlay ax s).stick = s.stick ∧
    (stagePlay ax s).coupling = s.coupling ∧ (stagePlay ax s).limiter = s.limiter ∧
    (stagePlay ax s).presets = s.presets ∧ (stagePlay ax s).memory = s.memory ∧ (stagePlay ax s).clock = s.clock ∧
    (stagePlay ax s).intake = s.intake ∧ (stagePlay ax s).peers = s.peers ∧ (stagePlay ax s).link = s.link ∧
    (stagePlay ax s).hand = s.hand ∧ (stagePlay ax s).panel = s.panel ∧ (stagePlay ax s).resetHold = s.resetHold ∧
    (stagePlay ax s).freeCount = s.freeCount ∧ (stagePlay ax s).pending = s.pending ∧
    (stagePlay ax s).axis? = s.axis? ∧ (stagePlay ax s).hand? = s.hand? := by
  unfold stagePlay
  (repeat' split) <;> simp

@[simp] theorem stageBlend_frame (ax : AxisSettings) (s : State) :
    (stageBlend ax s).start = s.start ∧ (stageBlend ax s).record = s.record ∧ (stageBlend ax s).stick = s.stick ∧
    (stageBlend ax s).coupling = s.coupling ∧ (stageBlend ax s).limiter = s.limiter ∧
    (stageBlend ax s).presets = s.presets ∧ (stageBlend ax s).memory = s.memory ∧ (stageBlend ax s).clock = s.clock ∧
    (stageBlend ax s).intake = s.intake ∧ (stageBlend ax s).peers = s.peers ∧ (stageBlend ax s).link = s.link ∧
    (stageBlend ax s).hand = s.hand ∧ (stageBlend ax s).panel = s.panel ∧ (stageBlend ax s).resetHold = s.resetHold ∧
    (stageBlend ax s).freeCount = s.freeCount ∧ (stageBlend ax s).pending = s.pending ∧
    (stageBlend ax s).axis? = s.axis? ∧ (stageBlend ax s).hand? = s.hand? := by
  unfold stageBlend
  (repeat' split) <;> simp

@[simp] theorem stageStopping_frame (ax : AxisSettings) (s : State) :
    (stageStopping ax s).start = s.start ∧ (stageStopping ax s).record = s.record ∧
    (stageStopping ax s).stick = s.stick ∧ (stageStopping ax s).coupling = s.coupling ∧
    (stageStopping ax s).limiter = s.limiter ∧ (stageStopping ax s).presets = s.presets ∧
    (stageStopping ax s).memory = s.memory ∧ (stageStopping ax s).clock = s.clock ∧
    (stageStopping ax s).sched = s.sched ∧ (stageStopping ax s).intake = s.intake ∧
    (stageStopping ax s).peers = s.peers ∧ (stageStopping ax s).link = s.link ∧ (stageStopping ax s).flags = s.flags ∧
    (stageStopping ax s).hand = s.hand ∧ (stageStopping ax s).panel = s.panel ∧
    (stageStopping ax s).resetHold = s.resetHold ∧ (stageStopping ax s).freeCount = s.freeCount ∧
    (stageStopping ax s).pending = s.pending ∧ (stageStopping ax s).axis? = s.axis? ∧
    (stageStopping ax s).hand? = s.hand? := by
  unfold stageStopping
  (try dsimp only)
  (repeat' split) <;> simp

@[simp] theorem stageInterlocked_frame (ax : AxisSettings) (s : State) :
    (stageInterlocked ax s).start = s.start ∧ (stageInterlocked ax s).record = s.record ∧
    (stageInterlocked ax s).stick = s.stick ∧ (stageInterlocked ax s).coupling = s.coupling ∧
    (stageInterlocked ax s).limiter = s.limiter ∧ (stageInterlocked ax s).presets = s.presets ∧
    (stageInterlocked ax s).memory = s.memory ∧ (stageInterlocked ax s).clock = s.clock ∧
    (stageInterlocked ax s).sched = s.sched ∧ (stageInterlocked ax s).intake = s.intake ∧
    (stageInterlocked ax s).peers = s.peers ∧ (stageInterlocked ax s).link = s.link ∧
    (stageInterlocked ax s).flags = s.flags ∧ (stageInterlocked ax s).hand = s.hand ∧
    (stageInterlocked ax s).panel = s.panel ∧ (stageInterlocked ax s).resetHold = s.resetHold ∧
    (stageInterlocked ax s).freeCount = s.freeCount ∧ (stageInterlocked ax s).pending = s.pending ∧
    (stageInterlocked ax s).axis? = s.axis? ∧ (stageInterlocked ax s).hand? = s.hand? := by
  unfold stageInterlocked
  (repeat' split) <;> simp

@[simp] theorem stageParked_frame (ax : AxisSettings) (s : State) :
    (stageParked ax s).start = s.start ∧ (stageParked ax s).record = s.record ∧ (stageParked ax s).stick = s.stick ∧
    (stageParked ax s).coupling = s.coupling ∧ (stageParked ax s).presets = s.presets ∧
    (stageParked ax s).memory = s.memory ∧ (stageParked ax s).clock = s.clock ∧ (stageParked ax s).intake = s.intake ∧
    (stageParked ax s).peers = s.peers ∧ (stageParked ax s).link = s.link ∧ (stageParked ax s).flags = s.flags ∧
    (stageParked ax s).hand = s.hand ∧ (stageParked ax s).panel = s.panel ∧
    (stageParked ax s).resetHold = s.resetHold ∧ (stageParked ax s).freeCount = s.freeCount ∧
    (stageParked ax s).pending = s.pending ∧ (stageParked ax s).axis? = s.axis? ∧
    (stageParked ax s).hand? = s.hand? := by
  unfold stageParked
  (repeat' split) <;> simp

@[simp] theorem stageParking_frame (ax : AxisSettings) (s : State) :
    (stageParking ax s).start = s.start ∧ (stageParking ax s).record = s.record ∧
    (stageParking ax s).stick = s.stick ∧ (stageParking ax s).coupling = s.coupling ∧
    (stageParking ax s).presets = s.presets ∧ (stageParking ax s).memory = s.memory ∧
    (stageParking ax s).clock = s.clock ∧ (stageParking ax s).intake = s.intake ∧
    (stageParking ax s).peers = s.peers ∧ (stageParking ax s).link = s.link ∧ (stageParking ax s).flags = s.flags ∧
    (stageParking ax s).hand = s.hand ∧ (stageParking ax s).panel = s.panel ∧
    (stageParking ax s).resetHold = s.resetHold ∧ (stageParking ax s).freeCount = s.freeCount ∧
    (stageParking ax s).pending = s.pending ∧ (stageParking ax s).axis? = s.axis? ∧
    (stageParking ax s).hand? = s.hand? := by
  unfold stageParking
  (try dsimp only)
  (repeat' split) <;> simp

@[simp] theorem stageReleasing_frame (ax : AxisSettings) (s : State) :
    (stageReleasing ax s).start = s.start ∧ (stageReleasing ax s).record = s.record ∧
    (stageReleasing ax s).stick = s.stick ∧ (stageReleasing ax s).coupling = s.coupling ∧
    (stageReleasing ax s).limiter = s.limiter ∧ (stageReleasing ax s).presets = s.presets ∧
    (stageReleasing ax s).memory = s.memory ∧ (stageReleasing ax s).clock = s.clock ∧
    (stageReleasing ax s).intake = s.intake ∧ (stageReleasing ax s).peers = s.peers ∧
    (stageReleasing ax s).link = s.link ∧ (stageReleasing ax s).flags = s.flags ∧
    (stageReleasing ax s).hand = s.hand ∧ (stageReleasing ax s).panel = s.panel ∧
    (stageReleasing ax s).resetHold = s.resetHold ∧ (stageReleasing ax s).freeCount = s.freeCount ∧
    (stageReleasing ax s).pending = s.pending ∧ (stageReleasing ax s).axis? = s.axis? ∧
    (stageReleasing ax s).hand? = s.hand? := by
  unfold stageReleasing
  (try dsimp only)
  (repeat' split) <;> simp

@[simp] theorem stageMove_frame (ax : AxisSettings) (s : State) :
    (stageMove ax s).start = s.start ∧ (stageMove ax s).record = s.record ∧ (stageMove ax s).stick = s.stick ∧
    (stageMove ax s).coupling = s.coupling ∧ (stageMove ax s).presets = s.presets ∧
    (stageMove ax s).memory = s.memory ∧ (stageMove ax s).clock = s.clock ∧ (stageMove ax s).intake = s.intake ∧
    (stageMove ax s).peers = s.peers ∧ (stageMove ax s).link = s.link ∧ (stageMove ax s).hand = s.hand ∧
    (stageMove ax s).panel = s.panel ∧ (stageMove ax s).resetHold = s.resetHold ∧
    (stageMove ax s).freeCount = s.freeCount ∧ (stageMove ax s).pending = s.pending ∧
    (stageMove ax s).axis? = s.axis? ∧ (stageMove ax s).hand? = s.hand? := by
  unfold stageMove
  (repeat' split) <;> simp

@[simp] theorem handC_frame (ax : AxisSettings) (s : State) :
    (handC ax s).start = s.start ∧ (handC ax s).record = s.record ∧ (handC ax s).stick = s.stick ∧
    (handC ax s).coupling = s.coupling ∧ (handC ax s).limiter = s.limiter ∧ (handC ax s).drive = s.drive ∧
    (handC ax s).presets = s.presets ∧ (handC ax s).memory = s.memory ∧ (handC ax s).clock = s.clock ∧
    (handC ax s).sched = s.sched ∧ (handC ax s).intake = s.intake ∧ (handC ax s).peers = s.peers ∧
    (handC ax s).link = s.link ∧ (handC ax s).flags = s.flags ∧ (handC ax s).hand = s.hand ∧
    (handC ax s).panel = s.panel ∧ (handC ax s).resetHold = s.resetHold ∧ (handC ax s).freeCount = s.freeCount ∧
    (handC ax s).pending = s.pending ∧ (handC ax s).axis? = s.axis? ∧ (handC ax s).hand? = s.hand? := by
  unfold handC
  (try dsimp only)
  (repeat' split) <;> simp

@[simp] theorem handOver_frame (ax : AxisSettings) (s : State) :
    (handOver ax s).start = s.start ∧ (handOver ax s).record = s.record ∧ (handOver ax s).stick = s.stick ∧
    (handOver ax s).presets = s.presets ∧ (handOver ax s).memory = s.memory ∧ (handOver ax s).clock = s.clock ∧
    (handOver ax s).sched = s.sched ∧ (handOver ax s).intake = s.intake ∧ (handOver ax s).peers = s.peers ∧
    (handOver ax s).link = s.link ∧ (handOver ax s).hand = s.hand ∧ (handOver ax s).panel = s.panel ∧
    (handOver ax s).resetHold = s.resetHold ∧ (handOver ax s).freeCount = s.freeCount ∧
    (handOver ax s).pending = s.pending ∧ (handOver ax s).axis? = s.axis? ∧ (handOver ax s).hand? = s.hand? := by
  unfold handOver
  simp

@[simp] theorem stagesToC_frame (ax : AxisSettings) (s : State) :
    (stagesToC ax s).start = s.start ∧ (stagesToC ax s).record = s.record ∧ (stagesToC ax s).stick = s.stick ∧
    (stagesToC ax s).coupling = s.coupling ∧ (stagesToC ax s).limiter = s.limiter ∧ (stagesToC ax s).drive = s.drive ∧
    (stagesToC ax s).presets = s.presets ∧ (stagesToC ax s).memory = s.memory ∧ (stagesToC ax s).clock = s.clock ∧
    (stagesToC ax s).sched = s.sched ∧ (stagesToC ax s).intake = s.intake ∧ (stagesToC ax s).peers = s.peers ∧
    (stagesToC ax s).link = s.link ∧ (stagesToC ax s).flags = s.flags ∧ (stagesToC ax s).hand = s.hand ∧
    (stagesToC ax s).panel = s.panel ∧ (stagesToC ax s).resetHold = s.resetHold ∧
    (stagesToC ax s).freeCount = s.freeCount ∧ (stagesToC ax s).pending = s.pending ∧
    (stagesToC ax s).axis? = s.axis? ∧ (stagesToC ax s).hand? = s.hand? := by
  unfold stagesToC
  simp

@[simp] theorem axisPeriod_frame (ax : AxisSettings) (s : State) :
    (axisPeriod ax s).start = s.start ∧ (axisPeriod ax s).record = s.record ∧ (axisPeriod ax s).stick = s.stick ∧
    (axisPeriod ax s).presets = s.presets ∧ (axisPeriod ax s).memory = s.memory ∧ (axisPeriod ax s).clock = s.clock ∧
    (axisPeriod ax s).intake = s.intake ∧ (axisPeriod ax s).peers = s.peers ∧ (axisPeriod ax s).link = s.link ∧
    (axisPeriod ax s).hand = s.hand ∧ (axisPeriod ax s).panel = s.panel ∧ (axisPeriod ax s).resetHold = s.resetHold ∧
    (axisPeriod ax s).freeCount = s.freeCount ∧ (axisPeriod ax s).pending = s.pending ∧
    (axisPeriod ax s).axis? = s.axis? ∧ (axisPeriod ax s).hand? = s.hand? := by
  unfold axisPeriod
  simp

@[simp] theorem barePeriod_frame (s : State) :
    (barePeriod s).start = s.start ∧ (barePeriod s).record = s.record ∧ (barePeriod s).stick = s.stick ∧
    (barePeriod s).coupling = s.coupling ∧ (barePeriod s).drive = s.drive ∧ (barePeriod s).presets = s.presets ∧
    (barePeriod s).memory = s.memory ∧ (barePeriod s).clock = s.clock ∧ (barePeriod s).sched = s.sched ∧
    (barePeriod s).intake = s.intake ∧ (barePeriod s).peers = s.peers ∧ (barePeriod s).link = s.link ∧
    (barePeriod s).flags = s.flags ∧ (barePeriod s).hand = s.hand ∧ (barePeriod s).panel = s.panel ∧
    (barePeriod s).resetHold = s.resetHold ∧ (barePeriod s).freeCount = s.freeCount ∧
    (barePeriod s).pending = s.pending ∧ (barePeriod s).axis? = s.axis? ∧ (barePeriod s).hand? = s.hand? := by
  unfold barePeriod
  (try dsimp only)
  simp

@[simp] theorem periodExpiry_frame (s : State) :
    (periodExpiry s).start = s.start ∧ (periodExpiry s).record = s.record ∧ (periodExpiry s).stick = s.stick ∧
    (periodExpiry s).presets = s.presets ∧ (periodExpiry s).memory = s.memory ∧ (periodExpiry s).clock = s.clock ∧
    (periodExpiry s).intake = s.intake ∧ (periodExpiry s).peers = s.peers ∧ (periodExpiry s).link = s.link ∧
    (periodExpiry s).hand = s.hand ∧ (periodExpiry s).panel = s.panel ∧ (periodExpiry s).resetHold = s.resetHold ∧
    (periodExpiry s).freeCount = s.freeCount ∧ (periodExpiry s).pending = s.pending ∧
    (periodExpiry s).axis? = s.axis? ∧ (periodExpiry s).hand? = s.hand? := by
  unfold periodExpiry
  (repeat' split) <;> simp

@[simp] theorem compareFollowing_frame (s : State) :
    (compareFollowing s).start = s.start ∧ (compareFollowing s).record = s.record ∧
    (compareFollowing s).stick = s.stick ∧ (compareFollowing s).coupling = s.coupling ∧
    (compareFollowing s).presets = s.presets ∧ (compareFollowing s).memory = s.memory ∧
    (compareFollowing s).clock = s.clock ∧ (compareFollowing s).intake = s.intake ∧
    (compareFollowing s).peers = s.peers ∧ (compareFollowing s).link = s.link ∧ (compareFollowing s).flags = s.flags ∧
    (compareFollowing s).hand = s.hand ∧ (compareFollowing s).panel = s.panel ∧
    (compareFollowing s).resetHold = s.resetHold ∧ (compareFollowing s).freeCount = s.freeCount ∧
    (compareFollowing s).pending = s.pending ∧ (compareFollowing s).axis? = s.axis? ∧
    (compareFollowing s).hand? = s.hand? := by
  unfold compareFollowing
  (try dsimp only)
  (repeat' split) <;> simp

@[simp] theorem positionRead_frame (idle : Bool) (data : BitVec 24) (error : Bool) (s : State) :
    (positionRead idle data error s).start = s.start ∧ (positionRead idle data error s).record = s.record ∧
    (positionRead idle data error s).stick = s.stick ∧ (positionRead idle data error s).coupling = s.coupling ∧
    (positionRead idle data error s).presets = s.presets ∧ (positionRead idle data error s).memory = s.memory ∧
    (positionRead idle data error s).clock = s.clock ∧ (positionRead idle data error s).intake = s.intake ∧
    (positionRead idle data error s).peers = s.peers ∧ (positionRead idle data error s).link = s.link ∧
    (positionRead idle data error s).flags = s.flags ∧ (positionRead idle data error s).hand = s.hand ∧
    (positionRead idle data error s).panel = s.panel ∧ (positionRead idle data error s).resetHold = s.resetHold ∧
    (positionRead idle data error s).freeCount = s.freeCount ∧ (positionRead idle data error s).pending = s.pending ∧
    (positionRead idle data error s).axis? = s.axis? ∧ (positionRead idle data error s).hand? = s.hand? := by
  unfold positionRead
  (try dsimp only)
  (repeat' split) <;> simp

@[simp] theorem sampleInput_frame (line : InputLine) (active : Bool) (s : State) :
    (sampleInput line active s).start = s.start ∧ (sampleInput line active s).record = s.record ∧
    (sampleInput line active s).stick = s.stick ∧ (sampleInput line active s).coupling = s.coupling ∧
    (sampleInput line active s).presets = s.presets ∧ (sampleInput line active s).memory = s.memory ∧
    (sampleInput line active s).clock = s.clock ∧ (sampleInput line active s).intake = s.intake ∧
    (sampleInput line active s).peers = s.peers ∧ (sampleInput line active s).link = s.link ∧
    (sampleInput line active s).flags = s.flags ∧ (sampleInput line active s).hand = s.hand ∧
    (sampleInput line active s).panel = s.panel ∧ (sampleInput line active s).resetHold = s.resetHold ∧
    (sampleInput line active s).freeCount = s.freeCount ∧ (sampleInput line active s).pending = s.pending ∧
    (sampleInput line active s).axis? = s.axis? ∧ (sampleInput line active s).hand? = s.hand? := by
  unfold sampleInput
  (try dsimp only)
  (repeat' split) <;> simp

@[simp] theorem sampleInputs_frame (low high amp : Bool) (first : InputLine) (s : State) :
    (sampleInputs low high amp first s).start = s.start ∧ (sampleInputs low high amp first s).record = s.record ∧
    (sampleInputs low high amp first s).stick = s.stick ∧ (sampleInputs low high amp first s).coupling = s.coupling ∧
    (sampleInputs low high amp first s).presets = s.presets ∧ (sampleInputs low high amp first s).memory = s.memory ∧
    (sampleInputs low high amp first s).clock = s.clock ∧ (sampleInputs low high amp first s).intake = s.intake ∧
    (sampleInputs low high amp first s).peers = s.peers ∧ (sampleInputs low high amp first s).link = s.link ∧
    (sampleInputs low high amp first s).flags = s.flags ∧ (sampleInputs low high amp first s).hand = s.hand ∧
    (sampleInputs low high amp first s).panel = s.panel ∧
    (sampleInputs low high amp first s).resetHold = s.resetHold ∧
    (sampleInputs low high amp first s).freeCount = s.freeCount ∧
    (sampleInputs low high amp first s).pending = s.pending ∧ (sampleInputs low high amp first s).axis? = s.axis? ∧
    (sampleInputs low high amp first s).hand? = s.hand? := by
  cases first <;> simp [sampleInputs, inputOrder]

@[simp] theorem endOfStart_frame (s : State) :
    (endOfStart s).start = s.start ∧ (endOfStart s).record = s.record ∧ (endOfStart s).stick = s.stick ∧
    (endOfStart s).coupling = s.coupling ∧ (endOfStart s).presets = s.presets ∧ (endOfStart s).memory = s.memory ∧
    (endOfStart s).clock = s.clock ∧ (endOfStart s).intake = s.intake ∧ (endOfStart s).peers = s.peers ∧
    (endOfStart s).link = s.link ∧ (endOfStart s).flags = s.flags ∧ (endOfStart s).hand = s.hand ∧
    (endOfStart s).panel = s.panel ∧ (endOfStart s).resetHold = s.resetHold ∧ (endOfStart s).freeCount = s.freeCount ∧
    (endOfStart s).pending = s.pending ∧ (endOfStart s).axis? = s.axis? ∧ (endOfStart s).hand? = s.hand? := by
  refine ⟨?_, ?_, ?_, ?_, ?_, ?_, ?_, ?_, ?_, ?_, ?_, ?_, ?_, ?_, ?_, ?_, ?_, ?_⟩
  · exact (foldl_keeps State.start (fun t c => raise c t) (by simp) _ _).trans (by simp)
  · exact (foldl_keeps State.record (fun t c => raise c t) (by simp) _ _).trans (by simp)
  · exact (foldl_keeps State.stick (fun t c => raise c t) (by simp) _ _).trans (by simp)
  · exact (foldl_keeps State.coupling (fun t c => raise c t) (by simp) _ _).trans (by simp)
  · exact (foldl_keeps State.presets (fun t c => raise c t) (by simp) _ _).trans (by simp)
  · exact (foldl_keeps State.memory (fun t c => raise c t) (by simp) _ _).trans (by simp)
  · exact (foldl_keeps State.clock (fun t c => raise c t) (by simp) _ _).trans (by simp)
  · exact (foldl_keeps State.intake (fun t c => raise c t) (by simp) _ _).trans (by simp)
  · exact (foldl_keeps State.peers (fun t c => raise c t) (by simp) _ _).trans (by simp)
  · exact (foldl_keeps State.link (fun t c => raise c t) (by simp) _ _).trans (by simp)
  · exact (foldl_keeps State.flags (fun t c => raise c t) (by simp) _ _).trans (by simp)
  · exact (foldl_keeps State.hand (fun t c => raise c t) (by simp) _ _).trans (by simp)
  · exact (foldl_keeps State.panel (fun t c => raise c t) (by simp) _ _).trans (by simp)
  · exact (foldl_keeps State.resetHold (fun t c => raise c t) (by simp) _ _).trans (by simp)
  · exact (foldl_keeps State.freeCount (fun t c => raise c t) (by simp) _ _).trans (by simp)
  · exact (foldl_keeps State.pending (fun t c => raise c t) (by simp) _ _).trans (by simp)
  · exact (foldl_keeps State.axis? (fun t c => raise c t) (by simp) _ _).trans (by simp)
  · exact (foldl_keeps State.hand? (fun t c => raise c t) (by simp) _ _).trans (by simp)

@[simp] theorem attemptFailed_frame (f : InFlight) (s : State) :
    (attemptFailed f s).start = s.start ∧ (attemptFailed f s).record = s.record ∧
    (attemptFailed f s).stick = s.stick ∧ (attemptFailed f s).blend = s.blend ∧
    (attemptFailed f s).coupling = s.coupling ∧ (attemptFailed f s).limiter = s.limiter ∧
    (attemptFailed f s).drive = s.drive ∧ (attemptFailed f s).memory = s.memory ∧
    (attemptFailed f s).clock = s.clock ∧ (attemptFailed f s).sched = s.sched ∧
    (attemptFailed f s).intake = s.intake ∧ (attemptFailed f s).peers = s.peers ∧ (attemptFailed f s).link = s.link ∧
    (attemptFailed f s).hand = s.hand ∧ (attemptFailed f s).panel = s.panel ∧
    (attemptFailed f s).resetHold = s.resetHold ∧ (attemptFailed f s).freeCount = s.freeCount ∧
    (attemptFailed f s).pending = s.pending ∧ (attemptFailed f s).axis? = s.axis? ∧
    (attemptFailed f s).hand? = s.hand? := by
  unfold attemptFailed
  (repeat' split) <;> simp

@[simp] theorem sendingEnd_frame (acknowledged : Bool) (s : State) :
    (sendingEnd acknowledged s).start = s.start ∧ (sendingEnd acknowledged s).record = s.record ∧
    (sendingEnd acknowledged s).stick = s.stick ∧ (sendingEnd acknowledged s).blend = s.blend ∧
    (sendingEnd acknowledged s).coupling = s.coupling ∧ (sendingEnd acknowledged s).limiter = s.limiter ∧
    (sendingEnd acknowledged s).drive = s.drive ∧ (sendingEnd acknowledged s).clock = s.clock ∧
    (sendingEnd acknowledged s).sched = s.sched ∧ (sendingEnd acknowledged s).intake = s.intake ∧
    (sendingEnd acknowledged s).peers = s.peers ∧ (sendingEnd acknowledged s).link = s.link ∧
    (sendingEnd acknowledged s).hand = s.hand ∧ (sendingEnd acknowledged s).panel = s.panel ∧
    (sendingEnd acknowledged s).resetHold = s.resetHold ∧ (sendingEnd acknowledged s).freeCount = s.freeCount ∧
    (sendingEnd acknowledged s).pending = s.pending ∧ (sendingEnd acknowledged s).axis? = s.axis? ∧
    (sendingEnd acknowledged s).hand? = s.hand? := by
  unfold sendingEnd
  (try dsimp only)
  (repeat' split) <;> simp

@[simp] theorem programmingDone_frame (s : State) :
    (programmingDone s).start = s.start ∧ (programmingDone s).record = s.record ∧
    (programmingDone s).stick = s.stick ∧ (programmingDone s).blend = s.blend ∧
    (programmingDone s).coupling = s.coupling ∧ (programmingDone s).limiter = s.limiter ∧
    (programmingDone s).drive = s.drive ∧ (programmingDone s).clock = s.clock ∧ (programmingDone s).sched = s.sched ∧
    (programmingDone s).intake = s.intake ∧ (programmingDone s).peers = s.peers ∧ (programmingDone s).link = s.link ∧
    (programmingDone s).flags = s.flags ∧ (programmingDone s).hand = s.hand ∧ (programmingDone s).panel = s.panel ∧
    (programmingDone s).resetHold = s.resetHold ∧ (programmingDone s).freeCount = s.freeCount ∧
    (programmingDone s).pending = s.pending ∧ (programmingDone s).axis? = s.axis? ∧
    (programmingDone s).hand? = s.hand? := by
  unfold programmingDone
  (repeat' split) <;> simp

@[simp] theorem programmingFailed_frame (s : State) :
    (programmingFailed s).start = s.start ∧ (programmingFailed s).record = s.record ∧
    (programmingFailed s).stick = s.stick ∧ (programmingFailed s).blend = s.blend ∧
    (programmingFailed s).coupling = s.coupling ∧ (programmingFailed s).limiter = s.limiter ∧
    (programmingFailed s).drive = s.drive ∧ (programmingFailed s).clock = s.clock ∧
    (programmingFailed s).sched = s.sched ∧ (programmingFailed s).intake = s.intake ∧
    (programmingFailed s).peers = s.peers ∧ (programmingFailed s).link = s.link ∧
    (programmingFailed s).hand = s.hand ∧ (programmingFailed s).panel = s.panel ∧
    (programmingFailed s).resetHold = s.resetHold ∧ (programmingFailed s).pending = s.pending ∧
    (programmingFailed s).axis? = s.axis? ∧ (programmingFailed s).hand? = s.hand? := by
  unfold programmingFailed
  (repeat' split) <;> simp

@[simp] theorem storeCue_frame (cue : CueId) (i : Nat) (s : State) :
    (storeCue cue i s).start = s.start ∧ (storeCue cue i s).record = s.record ∧ (storeCue cue i s).stick = s.stick ∧
    (storeCue cue i s).blend = s.blend ∧ (storeCue cue i s).coupling = s.coupling ∧
    (storeCue cue i s).limiter = s.limiter ∧ (storeCue cue i s).drive = s.drive ∧
    (storeCue cue i s).memory = s.memory ∧ (storeCue cue i s).clock = s.clock ∧ (storeCue cue i s).intake = s.intake ∧
    (storeCue cue i s).peers = s.peers ∧ (storeCue cue i s).link = s.link ∧ (storeCue cue i s).flags = s.flags ∧
    (storeCue cue i s).hand = s.hand ∧ (storeCue cue i s).panel = s.panel ∧
    (storeCue cue i s).resetHold = s.resetHold ∧ (storeCue cue i s).freeCount = s.freeCount ∧
    (storeCue cue i s).pending = s.pending ∧ (storeCue cue i s).axis? = s.axis? ∧
    (storeCue cue i s).hand? = s.hand? := by
  unfold storeCue
  (repeat' split) <;> simp

@[simp] theorem disarmCue_frame (cue : CueId) (s : State) :
    (disarmCue cue s).start = s.start ∧ (disarmCue cue s).record = s.record ∧ (disarmCue cue s).stick = s.stick ∧
    (disarmCue cue s).blend = s.blend ∧ (disarmCue cue s).coupling = s.coupling ∧
    (disarmCue cue s).limiter = s.limiter ∧ (disarmCue cue s).drive = s.drive ∧
    (disarmCue cue s).presets = s.presets ∧ (disarmCue cue s).memory = s.memory ∧ (disarmCue cue s).clock = s.clock ∧
    (disarmCue cue s).intake = s.intake ∧ (disarmCue cue s).peers = s.peers ∧ (disarmCue cue s).link = s.link ∧
    (disarmCue cue s).flags = s.flags ∧ (disarmCue cue s).hand = s.hand ∧ (disarmCue cue s).panel = s.panel ∧
    (disarmCue cue s).resetHold = s.resetHold ∧ (disarmCue cue s).freeCount = s.freeCount ∧
    (disarmCue cue s).pending = s.pending ∧ (disarmCue cue s).axis? = s.axis? ∧ (disarmCue cue s).hand? = s.hand? := by
  unfold disarmCue
  (try dsimp only)
  simp

@[simp] theorem fire_frame (ax : AxisSettings) (f : Firing) (s : State) :
    (fire ax f s).start = s.start ∧ (fire ax f s).record = s.record ∧ (fire ax f s).coupling = s.coupling ∧
    (fire ax f s).memory = s.memory ∧ (fire ax f s).clock = s.clock ∧ (fire ax f s).intake = s.intake ∧
    (fire ax f s).peers = s.peers ∧ (fire ax f s).link = s.link ∧ (fire ax f s).hand = s.hand ∧
    (fire ax f s).panel = s.panel ∧ (fire ax f s).resetHold = s.resetHold ∧ (fire ax f s).freeCount = s.freeCount ∧
    (fire ax f s).pending = s.pending ∧ (fire ax f s).axis? = s.axis? ∧ (fire ax f s).hand? = s.hand? := by
  unfold fire
  (repeat' split) <;> simp

@[simp] theorem fireMarked_frame (ax : AxisSettings) (f : Firing) (s : State) :
    (fireMarked ax f s).start = s.start ∧ (fireMarked ax f s).record = s.record ∧
    (fireMarked ax f s).coupling = s.coupling ∧ (fireMarked ax f s).memory = s.memory ∧
    (fireMarked ax f s).clock = s.clock ∧ (fireMarked ax f s).intake = s.intake ∧
    (fireMarked ax f s).peers = s.peers ∧ (fireMarked ax f s).link = s.link ∧ (fireMarked ax f s).hand = s.hand ∧
    (fireMarked ax f s).panel = s.panel ∧ (fireMarked ax f s).resetHold = s.resetHold ∧
    (fireMarked ax f s).freeCount = s.freeCount ∧ (fireMarked ax f s).pending = s.pending ∧
    (fireMarked ax f s).axis? = s.axis? ∧ (fireMarked ax f s).hand? = s.hand? := by
  unfold fireMarked
  (repeat' split) <;> simp

@[simp] theorem fireArmed_frame (ax : AxisSettings) (due late : ArmedCue → Bool) (n : Nat) (s : State) :
    (fireArmed ax due late n s).start = s.start ∧ (fireArmed ax due late n s).record = s.record ∧
    (fireArmed ax due late n s).coupling = s.coupling ∧ (fireArmed ax due late n s).memory = s.memory ∧
    (fireArmed ax due late n s).clock = s.clock ∧ (fireArmed ax due late n s).intake = s.intake ∧
    (fireArmed ax due late n s).peers = s.peers ∧ (fireArmed ax due late n s).link = s.link ∧
    (fireArmed ax due late n s).hand = s.hand ∧ (fireArmed ax due late n s).panel = s.panel ∧
    (fireArmed ax due late n s).resetHold = s.resetHold ∧ (fireArmed ax due late n s).freeCount = s.freeCount ∧
    (fireArmed ax due late n s).pending = s.pending ∧ (fireArmed ax due late n s).axis? = s.axis? ∧
    (fireArmed ax due late n s).hand? = s.hand? := by
  induction n generalizing s with
  | zero => simp [fireArmed]
  | succ n ih =>
    simp only [fireArmed]
    split <;> simp [ih]

@[simp] theorem fireAll_frame (ax : AxisSettings) (due late : ArmedCue → Bool) (s : State) :
    (fireAll ax due late s).start = s.start ∧ (fireAll ax due late s).record = s.record ∧
    (fireAll ax due late s).coupling = s.coupling ∧ (fireAll ax due late s).memory = s.memory ∧
    (fireAll ax due late s).clock = s.clock ∧ (fireAll ax due late s).intake = s.intake ∧
    (fireAll ax due late s).peers = s.peers ∧ (fireAll ax due late s).link = s.link ∧
    (fireAll ax due late s).hand = s.hand ∧ (fireAll ax due late s).panel = s.panel ∧
    (fireAll ax due late s).resetHold = s.resetHold ∧ (fireAll ax due late s).freeCount = s.freeCount ∧
    (fireAll ax due late s).pending = s.pending ∧ (fireAll ax due late s).axis? = s.axis? ∧
    (fireAll ax due late s).hand? = s.hand? := by
  unfold fireAll
  simp

@[simp] theorem missArmed_frame (s : State) (e : ArmedCue) :
    (missArmed s e).start = s.start ∧ (missArmed s e).record = s.record ∧ (missArmed s e).stick = s.stick ∧
    (missArmed s e).blend = s.blend ∧ (missArmed s e).coupling = s.coupling ∧ (missArmed s e).limiter = s.limiter ∧
    (missArmed s e).drive = s.drive ∧ (missArmed s e).presets = s.presets ∧ (missArmed s e).memory = s.memory ∧
    (missArmed s e).clock = s.clock ∧ (missArmed s e).intake = s.intake ∧ (missArmed s e).peers = s.peers ∧
    (missArmed s e).link = s.link ∧ (missArmed s e).hand = s.hand ∧ (missArmed s e).panel = s.panel ∧
    (missArmed s e).resetHold = s.resetHold ∧ (missArmed s e).freeCount = s.freeCount ∧
    (missArmed s e).pending = s.pending ∧ (missArmed s e).axis? = s.axis? ∧ (missArmed s e).hand? = s.hand? := by
  unfold missArmed
  simp

@[simp] theorem afterJump_frame (ax : AxisSettings) (fps old new : Nat) (s : State) :
    (afterJump ax fps old new s).start = s.start ∧ (afterJump ax fps old new s).record = s.record ∧
    (afterJump ax fps old new s).coupling = s.coupling ∧ (afterJump ax fps old new s).memory = s.memory ∧
    (afterJump ax fps old new s).clock = s.clock ∧ (afterJump ax fps old new s).intake = s.intake ∧
    (afterJump ax fps old new s).peers = s.peers ∧ (afterJump ax fps old new s).link = s.link ∧
    (afterJump ax fps old new s).hand = s.hand ∧ (afterJump ax fps old new s).panel = s.panel ∧
    (afterJump ax fps old new s).resetHold = s.resetHold ∧ (afterJump ax fps old new s).freeCount = s.freeCount ∧
    (afterJump ax fps old new s).pending = s.pending ∧ (afterJump ax fps old new s).axis? = s.axis? ∧
    (afterJump ax fps old new s).hand? = s.hand? := by
  unfold afterJump
  dsimp only
  split
  · simp
  · split
    · refine ⟨?_, ?_, ?_, ?_, ?_, ?_, ?_, ?_, ?_, ?_, ?_, ?_, ?_, ?_, ?_⟩
      · exact (foldl_keeps State.start missArmed (by simp) _ _).trans (by simp)
      · exact (foldl_keeps State.record missArmed (by simp) _ _).trans (by simp)
      · exact (foldl_keeps State.coupling missArmed (by simp) _ _).trans (by simp)
      · exact (foldl_keeps State.memory missArmed (by simp) _ _).trans (by simp)
      · exact (foldl_keeps State.clock missArmed (by simp) _ _).trans (by simp)
      · exact (foldl_keeps State.intake missArmed (by simp) _ _).trans (by simp)
      · exact (foldl_keeps State.peers missArmed (by simp) _ _).trans (by simp)
      · exact (foldl_keeps State.link missArmed (by simp) _ _).trans (by simp)
      · exact (foldl_keeps State.hand missArmed (by simp) _ _).trans (by simp)
      · exact (foldl_keeps State.panel missArmed (by simp) _ _).trans (by simp)
      · exact (foldl_keeps State.resetHold missArmed (by simp) _ _).trans (by simp)
      · exact (foldl_keeps State.freeCount missArmed (by simp) _ _).trans (by simp)
      · exact (foldl_keeps State.pending missArmed (by simp) _ _).trans (by simp)
      · exact (foldl_keeps State.axis? missArmed (by simp) _ _).trans (by simp)
      · exact (foldl_keeps State.hand? missArmed (by simp) _ _).trans (by simp)
    · simp

@[simp] theorem loadClock_frame (fps : Nat) (st : Stamp) (s : State) :
    (loadClock fps st s).start = s.start ∧ (loadClock fps st s).record = s.record ∧
    (loadClock fps st s).coupling = s.coupling ∧ (loadClock fps st s).memory = s.memory ∧
    (loadClock fps st s).intake = s.intake ∧ (loadClock fps st s).peers = s.peers ∧
    (loadClock fps st s).link = s.link ∧ (loadClock fps st s).hand = s.hand ∧ (loadClock fps st s).panel = s.panel ∧
    (loadClock fps st s).resetHold = s.resetHold ∧ (loadClock fps st s).freeCount = s.freeCount ∧
    (loadClock fps st s).pending = s.pending ∧ (loadClock fps st s).axis? = s.axis? ∧
    (loadClock fps st s).hand? = s.hand? := by
  unfold loadClock
  (try dsimp only)
  (repeat' split) <;> simp

@[simp] theorem compareStamp_frame (fps : Nat) (st : Stamp) (s : State) :
    (compareStamp fps st s).start = s.start ∧ (compareStamp fps st s).record = s.record ∧
    (compareStamp fps st s).coupling = s.coupling ∧ (compareStamp fps st s).memory = s.memory ∧
    (compareStamp fps st s).intake = s.intake ∧ (compareStamp fps st s).peers = s.peers ∧
    (compareStamp fps st s).link = s.link ∧ (compareStamp fps st s).hand = s.hand ∧
    (compareStamp fps st s).panel = s.panel ∧ (compareStamp fps st s).resetHold = s.resetHold ∧
    (compareStamp fps st s).freeCount = s.freeCount ∧ (compareStamp fps st s).pending = s.pending ∧
    (compareStamp fps st s).axis? = s.axis? ∧ (compareStamp fps st s).hand? = s.hand? := by
  unfold compareStamp
  (try dsimp only)
  (repeat' split) <;> simp

@[simp] theorem armCue_frame (fps now : Nat) (e : ArmedCue) (s : State) :
    (armCue fps now e s).start = s.start ∧ (armCue fps now e s).record = s.record ∧
    (armCue fps now e s).stick = s.stick ∧ (armCue fps now e s).blend = s.blend ∧
    (armCue fps now e s).coupling = s.coupling ∧ (armCue fps now e s).limiter = s.limiter ∧
    (armCue fps now e s).drive = s.drive ∧ (armCue fps now e s).presets = s.presets ∧
    (armCue fps now e s).memory = s.memory ∧ (armCue fps now e s).clock = s.clock ∧
    (armCue fps now e s).intake = s.intake ∧ (armCue fps now e s).peers = s.peers ∧
    (armCue fps now e s).link = s.link ∧ (armCue fps now e s).flags = s.flags ∧ (armCue fps now e s).hand = s.hand ∧
    (armCue fps now e s).panel = s.panel ∧ (armCue fps now e s).resetHold = s.resetHold ∧
    (armCue fps now e s).freeCount = s.freeCount ∧ (armCue fps now e s).pending = s.pending ∧
    (armCue fps now e s).axis? = s.axis? ∧ (armCue fps now e s).hand? = s.hand? := by
  unfold armCue
  (try dsimp only)
  (repeat' split) <;> simp

@[simp] theorem scheduleCue_frame (ax : AxisSettings) (fps : Nat) (e : ArmedCue) (s : State) :
    (scheduleCue ax fps e s).start = s.start ∧ (scheduleCue ax fps e s).record = s.record ∧
    (scheduleCue ax fps e s).coupling = s.coupling ∧ (scheduleCue ax fps e s).memory = s.memory ∧
    (scheduleCue ax fps e s).clock = s.clock ∧ (scheduleCue ax fps e s).intake = s.intake ∧
    (scheduleCue ax fps e s).peers = s.peers ∧ (scheduleCue ax fps e s).link = s.link ∧
    (scheduleCue ax fps e s).hand = s.hand ∧ (scheduleCue ax fps e s).panel = s.panel ∧
    (scheduleCue ax fps e s).resetHold = s.resetHold ∧ (scheduleCue ax fps e s).freeCount = s.freeCount ∧
    (scheduleCue ax fps e s).pending = s.pending ∧ (scheduleCue ax fps e s).axis? = s.axis? ∧
    (scheduleCue ax fps e s).hand? = s.hand? := by
  unfold scheduleCue
  (try dsimp only)
  (repeat' split) <;> simp

@[simp] theorem noteTaken_frame (entry : PeerEntry) (cue : CueId) (s : State) :
    (noteTaken entry cue s).start = s.start ∧ (noteTaken entry cue s).record = s.record ∧
    (noteTaken entry cue s).stick = s.stick ∧ (noteTaken entry cue s).blend = s.blend ∧
    (noteTaken entry cue s).coupling = s.coupling ∧ (noteTaken entry cue s).limiter = s.limiter ∧
    (noteTaken entry cue s).drive = s.drive ∧ (noteTaken entry cue s).presets = s.presets ∧
    (noteTaken entry cue s).memory = s.memory ∧ (noteTaken entry cue s).clock = s.clock ∧
    (noteTaken entry cue s).intake = s.intake ∧ (noteTaken entry cue s).link = s.link ∧
    (noteTaken entry cue s).flags = s.flags ∧ (noteTaken entry cue s).hand = s.hand ∧
    (noteTaken entry cue s).panel = s.panel ∧ (noteTaken entry cue s).resetHold = s.resetHold ∧
    (noteTaken entry cue s).freeCount = s.freeCount ∧ (noteTaken entry cue s).pending = s.pending ∧
    (noteTaken entry cue s).axis? = s.axis? ∧ (noteTaken entry cue s).hand? = s.hand? := by
  unfold noteTaken
  (try dsimp only)
  simp

@[simp] theorem takeCue_frame (r : Record) (ax : AxisSettings) (source : Nat) (c : CueContents) (s : State) :
    (takeCue r ax source c s).start = s.start ∧ (takeCue r ax source c s).record = s.record ∧
    (takeCue r ax source c s).coupling = s.coupling ∧ (takeCue r ax source c s).memory = s.memory ∧
    (takeCue r ax source c s).clock = s.clock ∧ (takeCue r ax source c s).intake = s.intake ∧
    (takeCue r ax source c s).link = s.link ∧ (takeCue r ax source c s).hand = s.hand ∧
    (takeCue r ax source c s).panel = s.panel ∧ (takeCue r ax source c s).resetHold = s.resetHold ∧
    (takeCue r ax source c s).freeCount = s.freeCount ∧ (takeCue r ax source c s).pending = s.pending ∧
    (takeCue r ax source c s).axis? = s.axis? ∧ (takeCue r ax source c s).hand? = s.hand? := by
  unfold takeCue
  (try dsimp only)
  (repeat' split) <;> simp

@[simp] theorem fireDue_frame (s : State) (fps : Nat) :
    (fireDue s fps).start = s.start ∧ (fireDue s fps).record = s.record ∧ (fireDue s fps).coupling = s.coupling ∧
    (fireDue s fps).memory = s.memory ∧ (fireDue s fps).clock = s.clock ∧ (fireDue s fps).intake = s.intake ∧
    (fireDue s fps).peers = s.peers ∧ (fireDue s fps).link = s.link ∧ (fireDue s fps).hand = s.hand ∧
    (fireDue s fps).panel = s.panel ∧ (fireDue s fps).resetHold = s.resetHold ∧
    (fireDue s fps).freeCount = s.freeCount ∧ (fireDue s fps).pending = s.pending ∧ (fireDue s fps).axis? = s.axis? ∧
    (fireDue s fps).hand? = s.hand? := by
  unfold fireDue
  (repeat' split) <;> simp

@[simp] theorem clockExpiry_frame (s : State) :
    (clockExpiry s).start = s.start ∧ (clockExpiry s).record = s.record ∧ (clockExpiry s).coupling = s.coupling ∧
    (clockExpiry s).memory = s.memory ∧ (clockExpiry s).intake = s.intake ∧ (clockExpiry s).peers = s.peers ∧
    (clockExpiry s).link = s.link ∧ (clockExpiry s).hand = s.hand ∧ (clockExpiry s).panel = s.panel ∧
    (clockExpiry s).resetHold = s.resetHold ∧ (clockExpiry s).freeCount = s.freeCount ∧
    (clockExpiry s).pending = s.pending ∧ (clockExpiry s).axis? = s.axis? ∧ (clockExpiry s).hand? = s.hand? := by
  unfold clockExpiry
  (try dsimp only)
  (repeat' split) <;> simp

@[simp] theorem handAcceptance_frame (e : PeerEntry) (s : State) :
    (handAcceptance e s).start = s.start ∧ (handAcceptance e s).record = s.record ∧
    (handAcceptance e s).blend = s.blend ∧ (handAcceptance e s).limiter = s.limiter ∧
    (handAcceptance e s).drive = s.drive ∧ (handAcceptance e s).presets = s.presets ∧
    (handAcceptance e s).memory = s.memory ∧ (handAcceptance e s).clock = s.clock ∧
    (handAcceptance e s).sched = s.sched ∧ (handAcceptance e s).intake = s.intake ∧
    (handAcceptance e s).peers = s.peers ∧ (handAcceptance e s).link = s.link ∧ (handAcceptance e s).flags = s.flags ∧
    (handAcceptance e s).hand = s.hand ∧ (handAcceptance e s).panel = s.panel ∧
    (handAcceptance e s).resetHold = s.resetHold ∧ (handAcceptance e s).freeCount = s.freeCount ∧
    (handAcceptance e s).pending = s.pending ∧ (handAcceptance e s).axis? = s.axis? ∧
    (handAcceptance e s).hand? = s.hand? := by
  unfold handAcceptance
  (repeat' split) <;> simp

@[simp] theorem handStamp_frame (e : PeerEntry) (s : State) :
    (handStamp e s).start = s.start ∧ (handStamp e s).record = s.record ∧ (handStamp e s).coupling = s.coupling ∧
    (handStamp e s).memory = s.memory ∧ (handStamp e s).intake = s.intake ∧ (handStamp e s).peers = s.peers ∧
    (handStamp e s).link = s.link ∧ (handStamp e s).hand = s.hand ∧ (handStamp e s).panel = s.panel ∧
    (handStamp e s).resetHold = s.resetHold ∧ (handStamp e s).freeCount = s.freeCount ∧
    (handStamp e s).pending = s.pending ∧ (handStamp e s).axis? = s.axis? ∧ (handStamp e s).hand? = s.hand? := by
  unfold handStamp
  (repeat' split) <;> simp

@[simp] theorem handAccepted_frame (clockFirst : Bool) (e : PeerEntry) (s : State) :
    (handAccepted clockFirst e s).start = s.start ∧ (handAccepted clockFirst e s).record = s.record ∧
    (handAccepted clockFirst e s).memory = s.memory ∧ (handAccepted clockFirst e s).intake = s.intake ∧
    (handAccepted clockFirst e s).peers = s.peers ∧ (handAccepted clockFirst e s).link = s.link ∧
    (handAccepted clockFirst e s).hand = s.hand ∧ (handAccepted clockFirst e s).panel = s.panel ∧
    (handAccepted clockFirst e s).resetHold = s.resetHold ∧ (handAccepted clockFirst e s).freeCount = s.freeCount ∧
    (handAccepted clockFirst e s).pending = s.pending ∧ (handAccepted clockFirst e s).axis? = s.axis? ∧
    (handAccepted clockFirst e s).hand? = s.hand? := by
  unfold handAccepted
  split <;> simp

@[simp] theorem takePeriodic_frame (clockFirst : Bool) (kind : PeerKind) (c : PeerContents) (r : RingRecord) (s : State) :
    (takePeriodic clockFirst kind c r s).start = s.start ∧ (takePeriodic clockFirst kind c r s).record = s.record ∧
    (takePeriodic clockFirst kind c r s).memory = s.memory ∧ (takePeriodic clockFirst kind c r s).intake = s.intake ∧
    (takePeriodic clockFirst kind c r s).link = s.link ∧ (takePeriodic clockFirst kind c r s).hand = s.hand ∧
    (takePeriodic clockFirst kind c r s).panel = s.panel ∧
    (takePeriodic clockFirst kind c r s).resetHold = s.resetHold ∧
    (takePeriodic clockFirst kind c r s).freeCount = s.freeCount ∧
    (takePeriodic clockFirst kind c r s).pending = s.pending ∧ (takePeriodic clockFirst kind c r s).axis? = s.axis? ∧
    (takePeriodic clockFirst kind c r s).hand? = s.hand? := by
  unfold takePeriodic
  (try dsimp only)
  (repeat' split) <;> simp

@[simp] theorem clockChanged_frame (e : PeerEntry) (s : State) :
    (clockChanged e s).start = s.start ∧ (clockChanged e s).record = s.record ∧ (clockChanged e s).stick = s.stick ∧
    (clockChanged e s).blend = s.blend ∧ (clockChanged e s).coupling = s.coupling ∧
    (clockChanged e s).limiter = s.limiter ∧ (clockChanged e s).drive = s.drive ∧
    (clockChanged e s).presets = s.presets ∧ (clockChanged e s).memory = s.memory ∧
    (clockChanged e s).sched = s.sched ∧ (clockChanged e s).intake = s.intake ∧ (clockChanged e s).peers = s.peers ∧
    (clockChanged e s).link = s.link ∧ (clockChanged e s).flags = s.flags ∧ (clockChanged e s).hand = s.hand ∧
    (clockChanged e s).panel = s.panel ∧ (clockChanged e s).resetHold = s.resetHold ∧
    (clockChanged e s).freeCount = s.freeCount ∧ (clockChanged e s).pending = s.pending ∧
    (clockChanged e s).axis? = s.axis? ∧ (clockChanged e s).hand? = s.hand? := by
  unfold clockChanged
  (try dsimp only)
  (repeat' split) <;> simp

@[simp] theorem handChange_frame (e : PeerEntry) (s : State) :
    (handChange e s).start = s.start ∧ (handChange e s).record = s.record ∧ (handChange e s).blend = s.blend ∧
    (handChange e s).limiter = s.limiter ∧ (handChange e s).drive = s.drive ∧ (handChange e s).presets = s.presets ∧
    (handChange e s).memory = s.memory ∧ (handChange e s).sched = s.sched ∧ (handChange e s).intake = s.intake ∧
    (handChange e s).peers = s.peers ∧ (handChange e s).link = s.link ∧ (handChange e s).flags = s.flags ∧
    (handChange e s).hand = s.hand ∧ (handChange e s).panel = s.panel ∧ (handChange e s).resetHold = s.resetHold ∧
    (handChange e s).freeCount = s.freeCount ∧ (handChange e s).pending = s.pending ∧
    (handChange e s).axis? = s.axis? ∧ (handChange e s).hand? = s.hand? := by
  unfold handChange
  (try dsimp only)
  (repeat' split) <;> simp

@[simp] theorem staleFlag_frame (e : PeerEntry) (s : State) :
    (staleFlag e s).start = s.start ∧ (staleFlag e s).record = s.record ∧ (staleFlag e s).stick = s.stick ∧
    (staleFlag e s).blend = s.blend ∧ (staleFlag e s).coupling = s.coupling ∧ (staleFlag e s).limiter = s.limiter ∧
    (staleFlag e s).drive = s.drive ∧ (staleFlag e s).presets = s.presets ∧ (staleFlag e s).memory = s.memory ∧
    (staleFlag e s).clock = s.clock ∧ (staleFlag e s).sched = s.sched ∧ (staleFlag e s).intake = s.intake ∧
    (staleFlag e s).peers = s.peers ∧ (staleFlag e s).link = s.link ∧ (staleFlag e s).hand = s.hand ∧
    (staleFlag e s).panel = s.panel ∧ (staleFlag e s).resetHold = s.resetHold ∧
    (staleFlag e s).freeCount = s.freeCount ∧ (staleFlag e s).pending = s.pending ∧ (staleFlag e s).axis? = s.axis? ∧
    (staleFlag e s).hand? = s.hand? := by
  unfold staleFlag
  (try dsimp only)
  (repeat' split) <;> simp

@[simp] theorem changeFreshness_frame (e : PeerEntry) (f : Freshness) (s : State) :
    (changeFreshness e f s).start = s.start ∧ (changeFreshness e f s).record = s.record ∧
    (changeFreshness e f s).blend = s.blend ∧ (changeFreshness e f s).limiter = s.limiter ∧
    (changeFreshness e f s).drive = s.drive ∧ (changeFreshness e f s).presets = s.presets ∧
    (changeFreshness e f s).memory = s.memory ∧ (changeFreshness e f s).sched = s.sched ∧
    (changeFreshness e f s).intake = s.intake ∧ (changeFreshness e f s).link = s.link ∧
    (changeFreshness e f s).hand = s.hand ∧ (changeFreshness e f s).panel = s.panel ∧
    (changeFreshness e f s).resetHold = s.resetHold ∧ (changeFreshness e f s).freeCount = s.freeCount ∧
    (changeFreshness e f s).pending = s.pending ∧ (changeFreshness e f s).axis? = s.axis? ∧
    (changeFreshness e f s).hand? = s.hand? := by
  unfold changeFreshness
  (try dsimp only)
  (repeat' split) <;> simp

@[simp] theorem ageChange_frame (r : Record) (s : State) (address : Nat) :
    (ageChange r s address).start = s.start ∧ (ageChange r s address).record = s.record ∧
    (ageChange r s address).blend = s.blend ∧ (ageChange r s address).limiter = s.limiter ∧
    (ageChange r s address).drive = s.drive ∧ (ageChange r s address).presets = s.presets ∧
    (ageChange r s address).memory = s.memory ∧ (ageChange r s address).sched = s.sched ∧
    (ageChange r s address).intake = s.intake ∧ (ageChange r s address).link = s.link ∧
    (ageChange r s address).hand = s.hand ∧ (ageChange r s address).panel = s.panel ∧
    (ageChange r s address).resetHold = s.resetHold ∧ (ageChange r s address).freeCount = s.freeCount ∧
    (ageChange r s address).pending = s.pending ∧ (ageChange r s address).axis? = s.axis? ∧
    (ageChange r s address).hand? = s.hand? := by
  unfold ageChange
  (repeat' split) <;> simp

@[simp] theorem ageingExpiry_frame (order : List Nat) (s : State) :
    (ageingExpiry order s).start = s.start ∧ (ageingExpiry order s).record = s.record ∧
    (ageingExpiry order s).blend = s.blend ∧ (ageingExpiry order s).limiter = s.limiter ∧
    (ageingExpiry order s).drive = s.drive ∧ (ageingExpiry order s).presets = s.presets ∧
    (ageingExpiry order s).memory = s.memory ∧ (ageingExpiry order s).sched = s.sched ∧
    (ageingExpiry order s).intake = s.intake ∧ (ageingExpiry order s).link = s.link ∧
    (ageingExpiry order s).hand = s.hand ∧ (ageingExpiry order s).panel = s.panel ∧
    (ageingExpiry order s).resetHold = s.resetHold ∧ (ageingExpiry order s).freeCount = s.freeCount ∧
    (ageingExpiry order s).pending = s.pending ∧ (ageingExpiry order s).axis? = s.axis? ∧
    (ageingExpiry order s).hand? = s.hand? := by
  unfold ageingExpiry
  split
  · simp
  · refine ⟨?_, ?_, ?_, ?_, ?_, ?_, ?_, ?_, ?_, ?_, ?_, ?_, ?_, ?_, ?_, ?_, ?_⟩
    · exact (foldl_keeps State.start _ (by simp) _ _).trans (by simp)
    · exact (foldl_keeps State.record _ (by simp) _ _).trans (by simp)
    · exact (foldl_keeps State.blend _ (by simp) _ _).trans (by simp)
    · exact (foldl_keeps State.limiter _ (by simp) _ _).trans (by simp)
    · exact (foldl_keeps State.drive _ (by simp) _ _).trans (by simp)
    · exact (foldl_keeps State.presets _ (by simp) _ _).trans (by simp)
    · exact (foldl_keeps State.memory _ (by simp) _ _).trans (by simp)
    · exact (foldl_keeps State.sched _ (by simp) _ _).trans (by simp)
    · exact (foldl_keeps State.intake _ (by simp) _ _).trans (by simp)
    · exact (foldl_keeps State.link _ (by simp) _ _).trans (by simp)
    · exact (foldl_keeps State.hand _ (by simp) _ _).trans (by simp)
    · exact (foldl_keeps State.panel _ (by simp) _ _).trans (by simp)
    · exact (foldl_keeps State.resetHold _ (by simp) _ _).trans (by simp)
    · exact (foldl_keeps State.freeCount _ (by simp) _ _).trans (by simp)
    · exact (foldl_keeps State.pending _ (by simp) _ _).trans (by simp)
    · exact (foldl_keeps State.axis? _ (by simp) _ _).trans (by simp)
    · exact (foldl_keeps State.hand? _ (by simp) _ _).trans (by simp)

@[simp] theorem announceEntry_frame (r : RingRecord) (s : State) :
    (announceEntry r s).start = s.start ∧ (announceEntry r s).record = s.record ∧
    (announceEntry r s).blend = s.blend ∧ (announceEntry r s).limiter = s.limiter ∧
    (announceEntry r s).drive = s.drive ∧ (announceEntry r s).presets = s.presets ∧
    (announceEntry r s).memory = s.memory ∧ (announceEntry r s).sched = s.sched ∧
    (announceEntry r s).intake = s.intake ∧ (announceEntry r s).link = s.link ∧ (announceEntry r s).flags = s.flags ∧
    (announceEntry r s).hand = s.hand ∧ (announceEntry r s).panel = s.panel ∧
    (announceEntry r s).resetHold = s.resetHold ∧ (announceEntry r s).freeCount = s.freeCount ∧
    (announceEntry r s).pending = s.pending ∧ (announceEntry r s).axis? = s.axis? ∧
    (announceEntry r s).hand? = s.hand? := by
  unfold announceEntry
  (try dsimp only)
  (repeat' split) <;> simp

@[simp] theorem takeAnnounce_frame (r : RingRecord) (s : State) :
    (takeAnnounce r s).start = s.start ∧ (takeAnnounce r s).record = s.record ∧ (takeAnnounce r s).blend = s.blend ∧
    (takeAnnounce r s).limiter = s.limiter ∧ (takeAnnounce r s).drive = s.drive ∧
    (takeAnnounce r s).presets = s.presets ∧ (takeAnnounce r s).memory = s.memory ∧
    (takeAnnounce r s).sched = s.sched ∧ (takeAnnounce r s).intake = s.intake ∧ (takeAnnounce r s).link = s.link ∧
    (takeAnnounce r s).flags = s.flags ∧ (takeAnnounce r s).hand = s.hand ∧ (takeAnnounce r s).panel = s.panel ∧
    (takeAnnounce r s).resetHold = s.resetHold ∧ (takeAnnounce r s).freeCount = s.freeCount ∧
    (takeAnnounce r s).pending = s.pending ∧ (takeAnnounce r s).axis? = s.axis? ∧
    (takeAnnounce r s).hand? = s.hand? := by
  unfold takeAnnounce
  (try dsimp only)
  (repeat' split) <;> simp

@[simp] theorem takeCueFrame_frame (r : RingRecord) (s : State) :
    (takeCueFrame r s).start = s.start ∧ (takeCueFrame r s).record = s.record ∧
    (takeCueFrame r s).coupling = s.coupling ∧ (takeCueFrame r s).memory = s.memory ∧
    (takeCueFrame r s).clock = s.clock ∧ (takeCueFrame r s).intake = s.intake ∧ (takeCueFrame r s).link = s.link ∧
    (takeCueFrame r s).hand = s.hand ∧ (takeCueFrame r s).panel = s.panel ∧
    (takeCueFrame r s).resetHold = s.resetHold ∧ (takeCueFrame r s).freeCount = s.freeCount ∧
    (takeCueFrame r s).pending = s.pending ∧ (takeCueFrame r s).axis? = s.axis? ∧
    (takeCueFrame r s).hand? = s.hand? := by
  unfold takeCueFrame
  (repeat' split) <;> simp

@[simp] theorem handOn_frame (clockFirst : Bool) (r : RingRecord) (s : State) :
    (handOn clockFirst r s).start = s.start ∧ (handOn clockFirst r s).record = s.record ∧
    (handOn clockFirst r s).memory = s.memory ∧ (handOn clockFirst r s).intake = s.intake ∧
    (handOn clockFirst r s).link = s.link ∧ (handOn clockFirst r s).hand = s.hand ∧
    (handOn clockFirst r s).panel = s.panel ∧ (handOn clockFirst r s).resetHold = s.resetHold ∧
    (handOn clockFirst r s).freeCount = s.freeCount ∧ (handOn clockFirst r s).pending = s.pending ∧
    (handOn clockFirst r s).axis? = s.axis? ∧ (handOn clockFirst r s).hand? = s.hand? := by
  unfold handOn
  (repeat' split) <;> simp

@[simp] theorem takeOldest_frame (clockFirst : Bool) (s : State) :
    (takeOldest clockFirst s).start = s.start ∧ (takeOldest clockFirst s).record = s.record ∧
    (takeOldest clockFirst s).memory = s.memory ∧ (takeOldest clockFirst s).hand = s.hand ∧
    (takeOldest clockFirst s).panel = s.panel ∧ (takeOldest clockFirst s).resetHold = s.resetHold ∧
    (takeOldest clockFirst s).freeCount = s.freeCount ∧ (takeOldest clockFirst s).pending = s.pending ∧
    (takeOldest clockFirst s).axis? = s.axis? ∧ (takeOldest clockFirst s).hand? = s.hand? := by
  unfold takeOldest
  (try dsimp only)
  (repeat' split) <;> simp

@[simp] theorem beginAttempt_frame (s : State) :
    (beginAttempt s).start = s.start ∧ (beginAttempt s).record = s.record ∧ (beginAttempt s).stick = s.stick ∧
    (beginAttempt s).blend = s.blend ∧ (beginAttempt s).coupling = s.coupling ∧ (beginAttempt s).limiter = s.limiter ∧
    (beginAttempt s).drive = s.drive ∧ (beginAttempt s).presets = s.presets ∧ (beginAttempt s).memory = s.memory ∧
    (beginAttempt s).clock = s.clock ∧ (beginAttempt s).sched = s.sched ∧ (beginAttempt s).intake = s.intake ∧
    (beginAttempt s).peers = s.peers ∧ (beginAttempt s).flags = s.flags ∧ (beginAttempt s).hand = s.hand ∧
    (beginAttempt s).panel = s.panel ∧ (beginAttempt s).resetHold = s.resetHold ∧
    (beginAttempt s).freeCount = s.freeCount ∧ (beginAttempt s).pending = s.pending ∧
    (beginAttempt s).axis? = s.axis? ∧ (beginAttempt s).hand? = s.hand? := by
  unfold beginAttempt
  (try dsimp only)
  (repeat' split) <;> simp

@[simp] theorem enterWait_frame (s : State) :
    (enterWait s).start = s.start ∧ (enterWait s).record = s.record ∧ (enterWait s).stick = s.stick ∧
    (enterWait s).blend = s.blend ∧ (enterWait s).coupling = s.coupling ∧ (enterWait s).limiter = s.limiter ∧
    (enterWait s).drive = s.drive ∧ (enterWait s).presets = s.presets ∧ (enterWait s).memory = s.memory ∧
    (enterWait s).clock = s.clock ∧ (enterWait s).sched = s.sched ∧ (enterWait s).intake = s.intake ∧
    (enterWait s).peers = s.peers ∧ (enterWait s).flags = s.flags ∧ (enterWait s).hand = s.hand ∧
    (enterWait s).panel = s.panel ∧ (enterWait s).resetHold = s.resetHold ∧ (enterWait s).freeCount = s.freeCount ∧
    (enterWait s).pending = s.pending ∧ (enterWait s).axis? = s.axis? ∧ (enterWait s).hand? = s.hand? := by
  unfold enterWait
  (try dsimp only)
  (repeat' split) <;> simp

@[simp] theorem makeCurrent_frame (f : Frame) (s : State) :
    (makeCurrent f s).start = s.start ∧ (makeCurrent f s).record = s.record ∧ (makeCurrent f s).stick = s.stick ∧
    (makeCurrent f s).blend = s.blend ∧ (makeCurrent f s).coupling = s.coupling ∧
    (makeCurrent f s).limiter = s.limiter ∧ (makeCurrent f s).drive = s.drive ∧
    (makeCurrent f s).presets = s.presets ∧ (makeCurrent f s).memory = s.memory ∧ (makeCurrent f s).clock = s.clock ∧
    (makeCurrent f s).sched = s.sched ∧ (makeCurrent f s).intake = s.intake ∧ (makeCurrent f s).peers = s.peers ∧
    (makeCurrent f s).flags = s.flags ∧ (makeCurrent f s).hand = s.hand ∧ (makeCurrent f s).panel = s.panel ∧
    (makeCurrent f s).resetHold = s.resetHold ∧ (makeCurrent f s).freeCount = s.freeCount ∧
    (makeCurrent f s).pending = s.pending ∧ (makeCurrent f s).axis? = s.axis? ∧ (makeCurrent f s).hand? = s.hand? := by
  unfold makeCurrent
  (try dsimp only)
  simp

@[simp] theorem chooseFrame_frame (s : State) :
    (chooseFrame s).start = s.start ∧ (chooseFrame s).record = s.record ∧ (chooseFrame s).stick = s.stick ∧
    (chooseFrame s).blend = s.blend ∧ (chooseFrame s).coupling = s.coupling ∧ (chooseFrame s).limiter = s.limiter ∧
    (chooseFrame s).drive = s.drive ∧ (chooseFrame s).presets = s.presets ∧ (chooseFrame s).memory = s.memory ∧
    (chooseFrame s).clock = s.clock ∧ (chooseFrame s).sched = s.sched ∧ (chooseFrame s).intake = s.intake ∧
    (chooseFrame s).peers = s.peers ∧ (chooseFrame s).flags = s.flags ∧ (chooseFrame s).hand = s.hand ∧
    (chooseFrame s).panel = s.panel ∧ (chooseFrame s).resetHold = s.resetHold ∧
    (chooseFrame s).freeCount = s.freeCount ∧ (chooseFrame s).pending = s.pending ∧ (chooseFrame s).axis? = s.axis? ∧
    (chooseFrame s).hand? = s.hand? := by
  unfold chooseFrame
  (try dsimp only)
  (repeat' split) <;> simp

@[simp] theorem dropCurrent_frame (s : State) :
    (dropCurrent s).start = s.start ∧ (dropCurrent s).record = s.record ∧ (dropCurrent s).stick = s.stick ∧
    (dropCurrent s).blend = s.blend ∧ (dropCurrent s).coupling = s.coupling ∧ (dropCurrent s).limiter = s.limiter ∧
    (dropCurrent s).drive = s.drive ∧ (dropCurrent s).presets = s.presets ∧ (dropCurrent s).memory = s.memory ∧
    (dropCurrent s).clock = s.clock ∧ (dropCurrent s).sched = s.sched ∧ (dropCurrent s).intake = s.intake ∧
    (dropCurrent s).peers = s.peers ∧ (dropCurrent s).flags = s.flags ∧ (dropCurrent s).hand = s.hand ∧
    (dropCurrent s).panel = s.panel ∧ (dropCurrent s).resetHold = s.resetHold ∧
    (dropCurrent s).freeCount = s.freeCount ∧ (dropCurrent s).pending = s.pending ∧ (dropCurrent s).axis? = s.axis? ∧
    (dropCurrent s).hand? = s.hand? := by
  unfold dropCurrent
  (try dsimp only)
  simp

@[simp] theorem enqueuePeriodic_frame (f : Frame) (s : State) :
    (enqueuePeriodic f s).start = s.start ∧ (enqueuePeriodic f s).record = s.record ∧
    (enqueuePeriodic f s).stick = s.stick ∧ (enqueuePeriodic f s).blend = s.blend ∧
    (enqueuePeriodic f s).coupling = s.coupling ∧ (enqueuePeriodic f s).limiter = s.limiter ∧
    (enqueuePeriodic f s).drive = s.drive ∧ (enqueuePeriodic f s).presets = s.presets ∧
    (enqueuePeriodic f s).memory = s.memory ∧ (enqueuePeriodic f s).clock = s.clock ∧
    (enqueuePeriodic f s).sched = s.sched ∧ (enqueuePeriodic f s).intake = s.intake ∧
    (enqueuePeriodic f s).peers = s.peers ∧ (enqueuePeriodic f s).flags = s.flags ∧
    (enqueuePeriodic f s).hand = s.hand ∧ (enqueuePeriodic f s).panel = s.panel ∧
    (enqueuePeriodic f s).resetHold = s.resetHold ∧ (enqueuePeriodic f s).freeCount = s.freeCount ∧
    (enqueuePeriodic f s).pending = s.pending ∧ (enqueuePeriodic f s).axis? = s.axis? ∧
    (enqueuePeriodic f s).hand? = s.hand? := by
  unfold enqueuePeriodic
  (try dsimp only)
  (repeat' split) <;> simp

@[simp] theorem enqueueCue_frame (f : Frame) (s : State) :
    (enqueueCue f s).start = s.start ∧ (enqueueCue f s).record = s.record ∧ (enqueueCue f s).stick = s.stick ∧
    (enqueueCue f s).blend = s.blend ∧ (enqueueCue f s).coupling = s.coupling ∧ (enqueueCue f s).limiter = s.limiter ∧
    (enqueueCue f s).drive = s.drive ∧ (enqueueCue f s).presets = s.presets ∧ (enqueueCue f s).memory = s.memory ∧
    (enqueueCue f s).clock = s.clock ∧ (enqueueCue f s).sched = s.sched ∧ (enqueueCue f s).intake = s.intake ∧
    (enqueueCue f s).peers = s.peers ∧ (enqueueCue f s).flags = s.flags ∧ (enqueueCue f s).hand = s.hand ∧
    (enqueueCue f s).panel = s.panel ∧ (enqueueCue f s).resetHold = s.resetHold ∧
    (enqueueCue f s).freeCount = s.freeCount ∧ (enqueueCue f s).pending = s.pending ∧
    (enqueueCue f s).axis? = s.axis? ∧ (enqueueCue f s).hand? = s.hand? := by
  unfold enqueueCue
  (try dsimp only)
  (repeat' split) <;> simp

@[simp] theorem buildPeriodic_frame (contents : Contents) (s : State) :
    (buildPeriodic contents s).start = s.start ∧ (buildPeriodic contents s).record = s.record ∧
    (buildPeriodic contents s).stick = s.stick ∧ (buildPeriodic contents s).blend = s.blend ∧
    (buildPeriodic contents s).coupling = s.coupling ∧ (buildPeriodic contents s).limiter = s.limiter ∧
    (buildPeriodic contents s).drive = s.drive ∧ (buildPeriodic contents s).presets = s.presets ∧
    (buildPeriodic contents s).memory = s.memory ∧ (buildPeriodic contents s).clock = s.clock ∧
    (buildPeriodic contents s).sched = s.sched ∧ (buildPeriodic contents s).intake = s.intake ∧
    (buildPeriodic contents s).peers = s.peers ∧ (buildPeriodic contents s).flags = s.flags ∧
    (buildPeriodic contents s).hand = s.hand ∧ (buildPeriodic contents s).panel = s.panel ∧
    (buildPeriodic contents s).resetHold = s.resetHold ∧ (buildPeriodic contents s).freeCount = s.freeCount ∧
    (buildPeriodic contents s).pending = s.pending ∧ (buildPeriodic contents s).axis? = s.axis? ∧
    (buildPeriodic contents s).hand? = s.hand? := by
  unfold buildPeriodic
  (try dsimp only)
  (repeat' split) <;> simp

@[simp] theorem buildAnnounce_frame (s : State) :
    (buildAnnounce s).start = s.start ∧ (buildAnnounce s).record = s.record ∧ (buildAnnounce s).stick = s.stick ∧
    (buildAnnounce s).blend = s.blend ∧ (buildAnnounce s).coupling = s.coupling ∧
    (buildAnnounce s).limiter = s.limiter ∧ (buildAnnounce s).drive = s.drive ∧
    (buildAnnounce s).presets = s.presets ∧ (buildAnnounce s).memory = s.memory ∧ (buildAnnounce s).clock = s.clock ∧
    (buildAnnounce s).sched = s.sched ∧ (buildAnnounce s).intake = s.intake ∧ (buildAnnounce s).peers = s.peers ∧
    (buildAnnounce s).flags = s.flags ∧ (buildAnnounce s).hand = s.hand ∧ (buildAnnounce s).panel = s.panel ∧
    (buildAnnounce s).resetHold = s.resetHold ∧ (buildAnnounce s).freeCount = s.freeCount ∧
    (buildAnnounce s).pending = s.pending ∧ (buildAnnounce s).axis? = s.axis? ∧ (buildAnnounce s).hand? = s.hand? := by
  unfold buildAnnounce
  (repeat' split) <;> simp

@[simp] theorem gapEnds_frame (s : State) :
    (gapEnds s).start = s.start ∧ (gapEnds s).record = s.record ∧ (gapEnds s).stick = s.stick ∧
    (gapEnds s).blend = s.blend ∧ (gapEnds s).coupling = s.coupling ∧ (gapEnds s).limiter = s.limiter ∧
    (gapEnds s).drive = s.drive ∧ (gapEnds s).presets = s.presets ∧ (gapEnds s).memory = s.memory ∧
    (gapEnds s).clock = s.clock ∧ (gapEnds s).sched = s.sched ∧ (gapEnds s).intake = s.intake ∧
    (gapEnds s).peers = s.peers ∧ (gapEnds s).flags = s.flags ∧ (gapEnds s).hand = s.hand ∧
    (gapEnds s).panel = s.panel ∧ (gapEnds s).resetHold = s.resetHold ∧ (gapEnds s).freeCount = s.freeCount ∧
    (gapEnds s).pending = s.pending ∧ (gapEnds s).axis? = s.axis? ∧ (gapEnds s).hand? = s.hand? := by
  unfold gapEnds
  (try dsimp only)
  (repeat' split) <;> simp

@[simp] theorem collide_frame (s : State) :
    (collide s).start = s.start ∧ (collide s).record = s.record ∧ (collide s).stick = s.stick ∧
    (collide s).blend = s.blend ∧ (collide s).coupling = s.coupling ∧ (collide s).limiter = s.limiter ∧
    (collide s).drive = s.drive ∧ (collide s).presets = s.presets ∧ (collide s).memory = s.memory ∧
    (collide s).clock = s.clock ∧ (collide s).sched = s.sched ∧ (collide s).intake = s.intake ∧
    (collide s).peers = s.peers ∧ (collide s).flags = s.flags ∧ (collide s).hand = s.hand ∧
    (collide s).panel = s.panel ∧ (collide s).resetHold = s.resetHold ∧ (collide s).freeCount = s.freeCount ∧
    (collide s).pending = s.pending ∧ (collide s).axis? = s.axis? ∧ (collide s).hand? = s.hand? := by
  unfold collide
  (try dsimp only)
  simp

@[simp] theorem setOutcome_frame (number : Nat) (v : CueStatus) (s : State) :
    (setOutcome number v s).start = s.start ∧ (setOutcome number v s).record = s.record ∧
    (setOutcome number v s).stick = s.stick ∧ (setOutcome number v s).blend = s.blend ∧
    (setOutcome number v s).coupling = s.coupling ∧ (setOutcome number v s).limiter = s.limiter ∧
    (setOutcome number v s).drive = s.drive ∧ (setOutcome number v s).presets = s.presets ∧
    (setOutcome number v s).memory = s.memory ∧ (setOutcome number v s).clock = s.clock ∧
    (setOutcome number v s).sched = s.sched ∧ (setOutcome number v s).intake = s.intake ∧
    (setOutcome number v s).peers = s.peers ∧ (setOutcome number v s).link = s.link ∧
    (setOutcome number v s).flags = s.flags ∧ (setOutcome number v s).hand = s.hand ∧
    (setOutcome number v s).resetHold = s.resetHold ∧ (setOutcome number v s).freeCount = s.freeCount ∧
    (setOutcome number v s).pending = s.pending ∧ (setOutcome number v s).axis? = s.axis? ∧
    (setOutcome number v s).hand? = s.hand? := by
  unfold setOutcome
  (try dsimp only)
  simp

@[simp] theorem attemptLimit_frame (f : Frame) (s : State) :
    (attemptLimit f s).start = s.start ∧ (attemptLimit f s).record = s.record ∧ (attemptLimit f s).stick = s.stick ∧
    (attemptLimit f s).blend = s.blend ∧ (attemptLimit f s).coupling = s.coupling ∧
    (attemptLimit f s).limiter = s.limiter ∧ (attemptLimit f s).drive = s.drive ∧
    (attemptLimit f s).presets = s.presets ∧ (attemptLimit f s).memory = s.memory ∧
    (attemptLimit f s).clock = s.clock ∧ (attemptLimit f s).sched = s.sched ∧ (attemptLimit f s).intake = s.intake ∧
    (attemptLimit f s).peers = s.peers ∧ (attemptLimit f s).flags = s.flags ∧ (attemptLimit f s).hand = s.hand ∧
    (attemptLimit f s).resetHold = s.resetHold ∧ (attemptLimit f s).freeCount = s.freeCount ∧
    (attemptLimit f s).pending = s.pending ∧ (attemptLimit f s).axis? = s.axis? ∧
    (attemptLimit f s).hand? = s.hand? := by
  unfold attemptLimit
  (try dsimp only)
  (repeat' split) <;> simp

@[simp] theorem startBackoff_frame (s : State) :
    (startBackoff s).start = s.start ∧ (startBackoff s).record = s.record ∧ (startBackoff s).stick = s.stick ∧
    (startBackoff s).blend = s.blend ∧ (startBackoff s).coupling = s.coupling ∧ (startBackoff s).limiter = s.limiter ∧
    (startBackoff s).drive = s.drive ∧ (startBackoff s).presets = s.presets ∧ (startBackoff s).memory = s.memory ∧
    (startBackoff s).clock = s.clock ∧ (startBackoff s).sched = s.sched ∧ (startBackoff s).intake = s.intake ∧
    (startBackoff s).peers = s.peers ∧ (startBackoff s).flags = s.flags ∧ (startBackoff s).hand = s.hand ∧
    (startBackoff s).panel = s.panel ∧ (startBackoff s).resetHold = s.resetHold ∧
    (startBackoff s).freeCount = s.freeCount ∧ (startBackoff s).pending = s.pending ∧
    (startBackoff s).axis? = s.axis? ∧ (startBackoff s).hand? = s.hand? := by
  unfold startBackoff
  (try dsimp only)
  (repeat' split) <;> simp

@[simp] theorem moveNewer_frame (s : State) :
    (moveNewer s).start = s.start ∧ (moveNewer s).record = s.record ∧ (moveNewer s).stick = s.stick ∧
    (moveNewer s).blend = s.blend ∧ (moveNewer s).coupling = s.coupling ∧ (moveNewer s).limiter = s.limiter ∧
    (moveNewer s).drive = s.drive ∧ (moveNewer s).presets = s.presets ∧ (moveNewer s).memory = s.memory ∧
    (moveNewer s).clock = s.clock ∧ (moveNewer s).sched = s.sched ∧ (moveNewer s).intake = s.intake ∧
    (moveNewer s).peers = s.peers ∧ (moveNewer s).flags = s.flags ∧ (moveNewer s).hand = s.hand ∧
    (moveNewer s).panel = s.panel ∧ (moveNewer s).resetHold = s.resetHold ∧ (moveNewer s).freeCount = s.freeCount ∧
    (moveNewer s).pending = s.pending ∧ (moveNewer s).axis? = s.axis? ∧ (moveNewer s).hand? = s.hand? := by
  unfold moveNewer
  (try dsimp only)
  (repeat' split) <;> simp

@[simp] theorem jamEnds_frame (s : State) :
    (jamEnds s).start = s.start ∧ (jamEnds s).record = s.record ∧ (jamEnds s).stick = s.stick ∧
    (jamEnds s).blend = s.blend ∧ (jamEnds s).coupling = s.coupling ∧ (jamEnds s).limiter = s.limiter ∧
    (jamEnds s).drive = s.drive ∧ (jamEnds s).presets = s.presets ∧ (jamEnds s).memory = s.memory ∧
    (jamEnds s).clock = s.clock ∧ (jamEnds s).sched = s.sched ∧ (jamEnds s).intake = s.intake ∧
    (jamEnds s).peers = s.peers ∧ (jamEnds s).flags = s.flags ∧ (jamEnds s).hand = s.hand ∧
    (jamEnds s).resetHold = s.resetHold ∧ (jamEnds s).freeCount = s.freeCount ∧ (jamEnds s).pending = s.pending ∧
    (jamEnds s).axis? = s.axis? ∧ (jamEnds s).hand? = s.hand? := by
  unfold jamEnds
  (try dsimp only)
  (repeat' split) <;> simp

@[simp] theorem completed_frame (f : Frame) (s : State) :
    (completed f s).start = s.start ∧ (completed f s).record = s.record ∧ (completed f s).stick = s.stick ∧
    (completed f s).blend = s.blend ∧ (completed f s).coupling = s.coupling ∧ (completed f s).limiter = s.limiter ∧
    (completed f s).drive = s.drive ∧ (completed f s).presets = s.presets ∧ (completed f s).memory = s.memory ∧
    (completed f s).clock = s.clock ∧ (completed f s).sched = s.sched ∧ (completed f s).intake = s.intake ∧
    (completed f s).peers = s.peers ∧ (completed f s).hand = s.hand ∧ (completed f s).resetHold = s.resetHold ∧
    (completed f s).freeCount = s.freeCount ∧ (completed f s).pending = s.pending ∧ (completed f s).axis? = s.axis? ∧
    (completed f s).hand? = s.hand? := by
  unfold completed
  (repeat' split) <;> simp

@[simp] theorem completeAttempt_frame (s : State) :
    (completeAttempt s).start = s.start ∧ (completeAttempt s).record = s.record ∧
    (completeAttempt s).stick = s.stick ∧ (completeAttempt s).blend = s.blend ∧
    (completeAttempt s).coupling = s.coupling ∧ (completeAttempt s).limiter = s.limiter ∧
    (completeAttempt s).drive = s.drive ∧ (completeAttempt s).presets = s.presets ∧
    (completeAttempt s).memory = s.memory ∧ (completeAttempt s).clock = s.clock ∧
    (completeAttempt s).sched = s.sched ∧ (completeAttempt s).intake = s.intake ∧
    (completeAttempt s).peers = s.peers ∧ (completeAttempt s).hand = s.hand ∧
    (completeAttempt s).resetHold = s.resetHold ∧ (completeAttempt s).freeCount = s.freeCount ∧
    (completeAttempt s).pending = s.pending ∧ (completeAttempt s).axis? = s.axis? ∧
    (completeAttempt s).hand? = s.hand? := by
  unfold completeAttempt
  (try dsimp only)
  (repeat' split) <;> simp

@[simp] theorem reserveRoom_frame (s : State) :
    (reserveRoom s).start = s.start ∧ (reserveRoom s).record = s.record ∧ (reserveRoom s).stick = s.stick ∧
    (reserveRoom s).blend = s.blend ∧ (reserveRoom s).coupling = s.coupling ∧ (reserveRoom s).limiter = s.limiter ∧
    (reserveRoom s).drive = s.drive ∧ (reserveRoom s).presets = s.presets ∧ (reserveRoom s).memory = s.memory ∧
    (reserveRoom s).clock = s.clock ∧ (reserveRoom s).sched = s.sched ∧ (reserveRoom s).intake = s.intake ∧
    (reserveRoom s).peers = s.peers ∧ (reserveRoom s).hand = s.hand ∧ (reserveRoom s).panel = s.panel ∧
    (reserveRoom s).resetHold = s.resetHold ∧ (reserveRoom s).freeCount = s.freeCount ∧
    (reserveRoom s).pending = s.pending ∧ (reserveRoom s).axis? = s.axis? ∧ (reserveRoom s).hand? = s.hand? := by
  unfold reserveRoom
  (try dsimp only)
  (repeat' split) <;> simp

@[simp] theorem endReceipt_frame (bytes : List Byte) (whole : Bool) (s : State) :
    (endReceipt bytes whole s).start = s.start ∧ (endReceipt bytes whole s).record = s.record ∧
    (endReceipt bytes whole s).stick = s.stick ∧ (endReceipt bytes whole s).blend = s.blend ∧
    (endReceipt bytes whole s).coupling = s.coupling ∧ (endReceipt bytes whole s).limiter = s.limiter ∧
    (endReceipt bytes whole s).drive = s.drive ∧ (endReceipt bytes whole s).presets = s.presets ∧
    (endReceipt bytes whole s).memory = s.memory ∧ (endReceipt bytes whole s).clock = s.clock ∧
    (endReceipt bytes whole s).sched = s.sched ∧ (endReceipt bytes whole s).intake = s.intake ∧
    (endReceipt bytes whole s).peers = s.peers ∧ (endReceipt bytes whole s).flags = s.flags ∧
    (endReceipt bytes whole s).hand = s.hand ∧ (endReceipt bytes whole s).panel = s.panel ∧
    (endReceipt bytes whole s).resetHold = s.resetHold ∧ (endReceipt bytes whole s).freeCount = s.freeCount ∧
    (endReceipt bytes whole s).pending = s.pending ∧ (endReceipt bytes whole s).axis? = s.axis? ∧
    (endReceipt bytes whole s).hand? = s.hand? := by
  unfold endReceipt
  (try dsimp only)
  (repeat' split) <;> simp

@[simp] theorem handScan_frame (readings : Vector (BitVec 10) 8) (closed : BitVec 16) (s : State) :
    (handScan readings closed s).start = s.start ∧ (handScan readings closed s).record = s.record ∧
    (handScan readings closed s).stick = s.stick ∧ (handScan readings closed s).blend = s.blend ∧
    (handScan readings closed s).coupling = s.coupling ∧ (handScan readings closed s).limiter = s.limiter ∧
    (handScan readings closed s).drive = s.drive ∧ (handScan readings closed s).presets = s.presets ∧
    (handScan readings closed s).memory = s.memory ∧ (handScan readings closed s).clock = s.clock ∧
    (handScan readings closed s).sched = s.sched ∧ (handScan readings closed s).intake = s.intake ∧
    (handScan readings closed s).peers = s.peers ∧ (handScan readings closed s).link = s.link ∧
    (handScan readings closed s).flags = s.flags ∧ (handScan readings closed s).panel = s.panel ∧
    (handScan readings closed s).resetHold = s.resetHold ∧ (handScan readings closed s).freeCount = s.freeCount ∧
    (handScan readings closed s).pending = s.pending ∧ (handScan readings closed s).axis? = s.axis? ∧
    (handScan readings closed s).hand? = s.hand? := by
  unfold handScan
  (repeat' split) <;> simp

@[simp] theorem refuse_frame (s : State) (v : Status) :
    (refuse s v).state.start = s.start ∧ (refuse s v).state.record = s.record ∧ (refuse s v).state.stick = s.stick ∧
    (refuse s v).state.blend = s.blend ∧ (refuse s v).state.coupling = s.coupling ∧
    (refuse s v).state.limiter = s.limiter ∧ (refuse s v).state.drive = s.drive ∧
    (refuse s v).state.presets = s.presets ∧ (refuse s v).state.memory = s.memory ∧
    (refuse s v).state.clock = s.clock ∧ (refuse s v).state.sched = s.sched ∧ (refuse s v).state.intake = s.intake ∧
    (refuse s v).state.peers = s.peers ∧ (refuse s v).state.link = s.link ∧ (refuse s v).state.flags = s.flags ∧
    (refuse s v).state.hand = s.hand ∧ (refuse s v).state.panel = s.panel ∧
    (refuse s v).state.resetHold = s.resetHold ∧ (refuse s v).state.freeCount = s.freeCount ∧
    (refuse s v).state.pending = s.pending ∧ (refuse s v).state.axis? = s.axis? ∧
    (refuse s v).state.hand? = s.hand? := by
  unfold refuse
  (try dsimp only)
  simp

@[simp] theorem give_frame (s : State) (items : List Byte) :
    (give s items).state.start = s.start ∧ (give s items).state.record = s.record ∧
    (give s items).state.stick = s.stick ∧ (give s items).state.blend = s.blend ∧
    (give s items).state.coupling = s.coupling ∧ (give s items).state.limiter = s.limiter ∧
    (give s items).state.drive = s.drive ∧ (give s items).state.presets = s.presets ∧
    (give s items).state.memory = s.memory ∧ (give s items).state.clock = s.clock ∧
    (give s items).state.sched = s.sched ∧ (give s items).state.intake = s.intake ∧
    (give s items).state.peers = s.peers ∧ (give s items).state.link = s.link ∧ (give s items).state.flags = s.flags ∧
    (give s items).state.hand = s.hand ∧ (give s items).state.panel = s.panel ∧
    (give s items).state.resetHold = s.resetHold ∧ (give s items).state.freeCount = s.freeCount ∧
    (give s items).state.pending = s.pending ∧ (give s items).state.axis? = s.axis? ∧
    (give s items).state.hand? = s.hand? := by
  unfold give
  (try dsimp only)
  simp

@[simp] theorem sendCueTaken_frame (c : CueContents) (s : State) :
    (sendCueTaken c s).start = s.start ∧ (sendCueTaken c s).record = s.record ∧ (sendCueTaken c s).stick = s.stick ∧
    (sendCueTaken c s).blend = s.blend ∧ (sendCueTaken c s).coupling = s.coupling ∧
    (sendCueTaken c s).limiter = s.limiter ∧ (sendCueTaken c s).drive = s.drive ∧
    (sendCueTaken c s).presets = s.presets ∧ (sendCueTaken c s).memory = s.memory ∧
    (sendCueTaken c s).clock = s.clock ∧ (sendCueTaken c s).sched = s.sched ∧ (sendCueTaken c s).intake = s.intake ∧
    (sendCueTaken c s).peers = s.peers ∧ (sendCueTaken c s).flags = s.flags ∧ (sendCueTaken c s).hand = s.hand ∧
    (sendCueTaken c s).resetHold = s.resetHold ∧ (sendCueTaken c s).freeCount = s.freeCount ∧
    (sendCueTaken c s).pending = s.pending ∧ (sendCueTaken c s).axis? = s.axis? ∧
    (sendCueTaken c s).hand? = s.hand? := by
  unfold sendCueTaken
  (try dsimp only)
  simp

@[simp] theorem serveSendCue_frame (fps : Nat) (body : List Byte) (s : State) :
    (serveSendCue fps body s).state.start = s.start ∧ (serveSendCue fps body s).state.record = s.record ∧
    (serveSendCue fps body s).state.stick = s.stick ∧ (serveSendCue fps body s).state.blend = s.blend ∧
    (serveSendCue fps body s).state.coupling = s.coupling ∧ (serveSendCue fps body s).state.limiter = s.limiter ∧
    (serveSendCue fps body s).state.drive = s.drive ∧ (serveSendCue fps body s).state.presets = s.presets ∧
    (serveSendCue fps body s).state.memory = s.memory ∧ (serveSendCue fps body s).state.clock = s.clock ∧
    (serveSendCue fps body s).state.sched = s.sched ∧ (serveSendCue fps body s).state.intake = s.intake ∧
    (serveSendCue fps body s).state.peers = s.peers ∧ (serveSendCue fps body s).state.flags = s.flags ∧
    (serveSendCue fps body s).state.hand = s.hand ∧ (serveSendCue fps body s).state.resetHold = s.resetHold ∧
    (serveSendCue fps body s).state.freeCount = s.freeCount ∧ (serveSendCue fps body s).state.pending = s.pending ∧
    (serveSendCue fps body s).state.axis? = s.axis? ∧ (serveSendCue fps body s).state.hand? = s.hand? := by
  unfold serveSendCue
  (try dsimp only)
  (repeat' split) <;> simp

@[simp] theorem serveSetClock_frame (fps : Nat) (body : List Byte) (s : State) :
    (serveSetClock fps body s).state.start = s.start ∧ (serveSetClock fps body s).state.record = s.record ∧
    (serveSetClock fps body s).state.coupling = s.coupling ∧ (serveSetClock fps body s).state.memory = s.memory ∧
    (serveSetClock fps body s).state.intake = s.intake ∧ (serveSetClock fps body s).state.peers = s.peers ∧
    (serveSetClock fps body s).state.link = s.link ∧ (serveSetClock fps body s).state.hand = s.hand ∧
    (serveSetClock fps body s).state.panel = s.panel ∧ (serveSetClock fps body s).state.resetHold = s.resetHold ∧
    (serveSetClock fps body s).state.freeCount = s.freeCount ∧ (serveSetClock fps body s).state.pending = s.pending ∧
    (serveSetClock fps body s).state.axis? = s.axis? ∧ (serveSetClock fps body s).state.hand? = s.hand? := by
  unfold serveSetClock
  (try dsimp only)
  (repeat' split) <;> simp

@[simp] theorem serveReadPeer_frame (address : Nat) (s : State) :
    (serveReadPeer address s).state.start = s.start ∧ (serveReadPeer address s).state.record = s.record ∧
    (serveReadPeer address s).state.stick = s.stick ∧ (serveReadPeer address s).state.blend = s.blend ∧
    (serveReadPeer address s).state.coupling = s.coupling ∧ (serveReadPeer address s).state.limiter = s.limiter ∧
    (serveReadPeer address s).state.drive = s.drive ∧ (serveReadPeer address s).state.presets = s.presets ∧
    (serveReadPeer address s).state.memory = s.memory ∧ (serveReadPeer address s).state.clock = s.clock ∧
    (serveReadPeer address s).state.sched = s.sched ∧ (serveReadPeer address s).state.intake = s.intake ∧
    (serveReadPeer address s).state.peers = s.peers ∧ (serveReadPeer address s).state.link = s.link ∧
    (serveReadPeer address s).state.flags = s.flags ∧ (serveReadPeer address s).state.hand = s.hand ∧
    (serveReadPeer address s).state.panel = s.panel ∧ (serveReadPeer address s).state.resetHold = s.resetHold ∧
    (serveReadPeer address s).state.freeCount = s.freeCount ∧ (serveReadPeer address s).state.pending = s.pending ∧
    (serveReadPeer address s).state.axis? = s.axis? ∧ (serveReadPeer address s).state.hand? = s.hand? := by
  unfold serveReadPeer
  (repeat' split) <;> simp

@[simp] theorem serveReadSelf_frame (sect : Nat) (s : State) :
    (serveReadSelf sect s).state.start = s.start ∧ (serveReadSelf sect s).state.record = s.record ∧
    (serveReadSelf sect s).state.stick = s.stick ∧ (serveReadSelf sect s).state.blend = s.blend ∧
    (serveReadSelf sect s).state.coupling = s.coupling ∧ (serveReadSelf sect s).state.limiter = s.limiter ∧
    (serveReadSelf sect s).state.drive = s.drive ∧ (serveReadSelf sect s).state.presets = s.presets ∧
    (serveReadSelf sect s).state.memory = s.memory ∧ (serveReadSelf sect s).state.clock = s.clock ∧
    (serveReadSelf sect s).state.sched = s.sched ∧ (serveReadSelf sect s).state.intake = s.intake ∧
    (serveReadSelf sect s).state.peers = s.peers ∧ (serveReadSelf sect s).state.link = s.link ∧
    (serveReadSelf sect s).state.flags = s.flags ∧ (serveReadSelf sect s).state.hand = s.hand ∧
    (serveReadSelf sect s).state.panel = s.panel ∧ (serveReadSelf sect s).state.resetHold = s.resetHold ∧
    (serveReadSelf sect s).state.freeCount = s.freeCount ∧ (serveReadSelf sect s).state.pending = s.pending ∧
    (serveReadSelf sect s).state.axis? = s.axis? ∧ (serveReadSelf sect s).state.hand? = s.hand? := by
  unfold serveReadSelf
  (repeat' split) <;> simp

@[simp] theorem serve_frame (r : Request) (body : List Byte) (s : State) :
    (serve r body s).state.start = s.start ∧ (serve r body s).state.record = s.record ∧
    (serve r body s).state.coupling = s.coupling ∧ (serve r body s).state.memory = s.memory ∧
    (serve r body s).state.intake = s.intake ∧ (serve r body s).state.peers = s.peers ∧
    (serve r body s).state.hand = s.hand ∧ (serve r body s).state.resetHold = s.resetHold ∧
    (serve r body s).state.freeCount = s.freeCount ∧ (serve r body s).state.pending = s.pending ∧
    (serve r body s).state.axis? = s.axis? ∧ (serve r body s).state.hand? = s.hand? := by
  unfold serve
  (try dsimp only)
  (repeat' split) <;> simp

@[simp] theorem answerBody_frame (sumGood : Bool) (body : List Byte) (s : State) :
    (answerBody sumGood body s).state.start = s.start ∧ (answerBody sumGood body s).state.record = s.record ∧
    (answerBody sumGood body s).state.coupling = s.coupling ∧ (answerBody sumGood body s).state.memory = s.memory ∧
    (answerBody sumGood body s).state.intake = s.intake ∧ (answerBody sumGood body s).state.peers = s.peers ∧
    (answerBody sumGood body s).state.hand = s.hand ∧ (answerBody sumGood body s).state.resetHold = s.resetHold ∧
    (answerBody sumGood body s).state.freeCount = s.freeCount ∧
    (answerBody sumGood body s).state.pending = s.pending ∧ (answerBody sumGood body s).state.axis? = s.axis? ∧
    (answerBody sumGood body s).state.hand? = s.hand? := by
  unfold answerBody
  (repeat' split) <;> simp

@[simp] theorem startReply_frame (kind : Byte) (v : Status) (items : List Byte) (s : State) :
    (startReply kind v items s).start = s.start ∧ (startReply kind v items s).record = s.record ∧
    (startReply kind v items s).stick = s.stick ∧ (startReply kind v items s).blend = s.blend ∧
    (startReply kind v items s).coupling = s.coupling ∧ (startReply kind v items s).limiter = s.limiter ∧
    (startReply kind v items s).drive = s.drive ∧ (startReply kind v items s).presets = s.presets ∧
    (startReply kind v items s).memory = s.memory ∧ (startReply kind v items s).clock = s.clock ∧
    (startReply kind v items s).sched = s.sched ∧ (startReply kind v items s).intake = s.intake ∧
    (startReply kind v items s).peers = s.peers ∧ (startReply kind v items s).link = s.link ∧
    (startReply kind v items s).flags = s.flags ∧ (startReply kind v items s).hand = s.hand ∧
    (startReply kind v items s).resetHold = s.resetHold ∧ (startReply kind v items s).freeCount = s.freeCount ∧
    (startReply kind v items s).pending = s.pending ∧ (startReply kind v items s).axis? = s.axis? ∧
    (startReply kind v items s).hand? = s.hand? := by
  unfold startReply
  (try dsimp only)
  simp

@[simp] theorem takeRecord_frame (record : List Byte) (s : State) :
    (takeRecord record s).start = s.start ∧ (takeRecord record s).record = s.record ∧
    (takeRecord record s).coupling = s.coupling ∧ (takeRecord record s).memory = s.memory ∧
    (takeRecord record s).intake = s.intake ∧ (takeRecord record s).peers = s.peers ∧
    (takeRecord record s).hand = s.hand ∧ (takeRecord record s).resetHold = s.resetHold ∧
    (takeRecord record s).freeCount = s.freeCount ∧ (takeRecord record s).pending = s.pending ∧
    (takeRecord record s).axis? = s.axis? ∧ (takeRecord record s).hand? = s.hand? := by
  unfold takeRecord
  (try dsimp only)
  simp

@[simp] theorem setParser_frame (phase : ParserPhase) (buffer : List Byte) (s : State) :
    (setParser phase buffer s).start = s.start ∧ (setParser phase buffer s).record = s.record ∧
    (setParser phase buffer s).stick = s.stick ∧ (setParser phase buffer s).blend = s.blend ∧
    (setParser phase buffer s).coupling = s.coupling ∧ (setParser phase buffer s).limiter = s.limiter ∧
    (setParser phase buffer s).drive = s.drive ∧ (setParser phase buffer s).presets = s.presets ∧
    (setParser phase buffer s).memory = s.memory ∧ (setParser phase buffer s).clock = s.clock ∧
    (setParser phase buffer s).sched = s.sched ∧ (setParser phase buffer s).intake = s.intake ∧
    (setParser phase buffer s).peers = s.peers ∧ (setParser phase buffer s).link = s.link ∧
    (setParser phase buffer s).flags = s.flags ∧ (setParser phase buffer s).hand = s.hand ∧
    (setParser phase buffer s).resetHold = s.resetHold ∧ (setParser phase buffer s).freeCount = s.freeCount ∧
    (setParser phase buffer s).pending = s.pending ∧ (setParser phase buffer s).axis? = s.axis? ∧
    (setParser phase buffer s).hand? = s.hand? := by
  unfold setParser
  (try dsimp only)
  simp

@[simp] theorem receiveByte_frame (s : State) (b : Byte) :
    (receiveByte s b).start = s.start ∧ (receiveByte s b).record = s.record ∧
    (receiveByte s b).coupling = s.coupling ∧ (receiveByte s b).memory = s.memory ∧
    (receiveByte s b).intake = s.intake ∧ (receiveByte s b).peers = s.peers ∧ (receiveByte s b).hand = s.hand ∧
    (receiveByte s b).resetHold = s.resetHold ∧ (receiveByte s b).freeCount = s.freeCount ∧
    (receiveByte s b).pending = s.pending ∧ (receiveByte s b).axis? = s.axis? ∧ (receiveByte s b).hand? = s.hand? := by
  unfold receiveByte
  (try dsimp only)
  (repeat' split) <;> simp

@[simp] theorem receiveBytes_frame (bytes : List Byte) (s : State) :
    (receiveBytes bytes s).start = s.start ∧ (receiveBytes bytes s).record = s.record ∧
    (receiveBytes bytes s).coupling = s.coupling ∧ (receiveBytes bytes s).memory = s.memory ∧
    (receiveBytes bytes s).intake = s.intake ∧ (receiveBytes bytes s).peers = s.peers ∧
    (receiveBytes bytes s).hand = s.hand ∧ (receiveBytes bytes s).resetHold = s.resetHold ∧
    (receiveBytes bytes s).freeCount = s.freeCount ∧ (receiveBytes bytes s).pending = s.pending ∧
    (receiveBytes bytes s).axis? = s.axis? ∧ (receiveBytes bytes s).hand? = s.hand? := by
  refine ⟨?_, ?_, ?_, ?_, ?_, ?_, ?_, ?_, ?_, ?_, ?_, ?_⟩
  · exact foldl_keeps State.start receiveByte (by simp) _ _
  · exact foldl_keeps State.record receiveByte (by simp) _ _
  · exact foldl_keeps State.coupling receiveByte (by simp) _ _
  · exact foldl_keeps State.memory receiveByte (by simp) _ _
  · exact foldl_keeps State.intake receiveByte (by simp) _ _
  · exact foldl_keeps State.peers receiveByte (by simp) _ _
  · exact foldl_keeps State.hand receiveByte (by simp) _ _
  · exact foldl_keeps State.resetHold receiveByte (by simp) _ _
  · exact foldl_keeps State.freeCount receiveByte (by simp) _ _
  · exact foldl_keeps State.pending receiveByte (by simp) _ _
  · exact foldl_keeps State.axis? receiveByte (by simp) _ _
  · exact foldl_keeps State.hand? receiveByte (by simp) _ _

@[simp] theorem receiveRequest_frame (r : Request) (fields : List Byte) (s : State) :
    (receiveRequest r fields s).start = s.start ∧ (receiveRequest r fields s).record = s.record ∧
    (receiveRequest r fields s).coupling = s.coupling ∧ (receiveRequest r fields s).memory = s.memory ∧
    (receiveRequest r fields s).intake = s.intake ∧ (receiveRequest r fields s).peers = s.peers ∧
    (receiveRequest r fields s).hand = s.hand ∧ (receiveRequest r fields s).resetHold = s.resetHold ∧
    (receiveRequest r fields s).freeCount = s.freeCount ∧ (receiveRequest r fields s).pending = s.pending ∧
    (receiveRequest r fields s).axis? = s.axis? ∧ (receiveRequest r fields s).hand? = s.hand? := by
  unfold receiveRequest
  simp

@[simp] theorem interruptCommit_frame (m : MemorySupply) (s : State) :
    (interruptCommit m s).start = s.start ∧ (interruptCommit m s).record = s.record ∧
    (interruptCommit m s).stick = s.stick ∧ (interruptCommit m s).blend = s.blend ∧
    (interruptCommit m s).coupling = s.coupling ∧ (interruptCommit m s).limiter = s.limiter ∧
    (interruptCommit m s).drive = s.drive ∧ (interruptCommit m s).presets = s.presets ∧
    (interruptCommit m s).clock = s.clock ∧ (interruptCommit m s).sched = s.sched ∧
    (interruptCommit m s).intake = s.intake ∧ (interruptCommit m s).peers = s.peers ∧
    (interruptCommit m s).link = s.link ∧ (interruptCommit m s).flags = s.flags ∧
    (interruptCommit m s).hand = s.hand ∧ (interruptCommit m s).panel = s.panel ∧
    (interruptCommit m s).resetHold = s.resetHold ∧ (interruptCommit m s).pending = s.pending ∧
    (interruptCommit m s).axis? = s.axis? ∧ (interruptCommit m s).hand? = s.hand? := by
  unfold interruptCommit
  (repeat' split) <;> simp

@[simp] theorem releaseLine_frame (s : State) :
    (releaseLine s).start = s.start ∧ (releaseLine s).record = s.record ∧ (releaseLine s).stick = s.stick ∧
    (releaseLine s).blend = s.blend ∧ (releaseLine s).coupling = s.coupling ∧ (releaseLine s).limiter = s.limiter ∧
    (releaseLine s).drive = s.drive ∧ (releaseLine s).presets = s.presets ∧ (releaseLine s).memory = s.memory ∧
    (releaseLine s).clock = s.clock ∧ (releaseLine s).sched = s.sched ∧ (releaseLine s).intake = s.intake ∧
    (releaseLine s).peers = s.peers ∧ (releaseLine s).flags = s.flags ∧ (releaseLine s).hand = s.hand ∧
    (releaseLine s).panel = s.panel ∧ (releaseLine s).resetHold = s.resetHold ∧
    (releaseLine s).freeCount = s.freeCount ∧ (releaseLine s).pending = s.pending ∧ (releaseLine s).axis? = s.axis? ∧
    (releaseLine s).hand? = s.hand? := by
  unfold releaseLine
  simp

@[simp] theorem refuseRecord_frame (v : Verdict) (failing : Option Nat) (s : State) :
    (refuseRecord v failing s).record = s.record ∧ (refuseRecord v failing s).stick = s.stick ∧
    (refuseRecord v failing s).blend = s.blend ∧ (refuseRecord v failing s).coupling = s.coupling ∧
    (refuseRecord v failing s).limiter = s.limiter ∧ (refuseRecord v failing s).drive = s.drive ∧
    (refuseRecord v failing s).presets = s.presets ∧ (refuseRecord v failing s).memory = s.memory ∧
    (refuseRecord v failing s).clock = s.clock ∧ (refuseRecord v failing s).sched = s.sched ∧
    (refuseRecord v failing s).intake = s.intake ∧ (refuseRecord v failing s).peers = s.peers ∧
    (refuseRecord v failing s).link = s.link ∧ (refuseRecord v failing s).flags = s.flags ∧
    (refuseRecord v failing s).hand = s.hand ∧ (refuseRecord v failing s).panel = s.panel ∧
    (refuseRecord v failing s).resetHold = s.resetHold ∧ (refuseRecord v failing s).freeCount = s.freeCount ∧
    (refuseRecord v failing s).pending = s.pending ∧ (refuseRecord v failing s).axis? = s.axis? ∧
    (refuseRecord v failing s).hand? = s.hand? := by
  unfold refuseRecord
  (try dsimp only)
  simp

@[simp] theorem openWindow_frame (s : State) :
    (openWindow s).record = s.record ∧ (openWindow s).stick = s.stick ∧ (openWindow s).blend = s.blend ∧
    (openWindow s).coupling = s.coupling ∧ (openWindow s).limiter = s.limiter ∧ (openWindow s).drive = s.drive ∧
    (openWindow s).presets = s.presets ∧ (openWindow s).memory = s.memory ∧ (openWindow s).clock = s.clock ∧
    (openWindow s).sched = s.sched ∧ (openWindow s).intake = s.intake ∧ (openWindow s).peers = s.peers ∧
    (openWindow s).flags = s.flags ∧ (openWindow s).hand = s.hand ∧ (openWindow s).panel = s.panel ∧
    (openWindow s).resetHold = s.resetHold ∧ (openWindow s).freeCount = s.freeCount ∧
    (openWindow s).pending = s.pending ∧ (openWindow s).axis? = s.axis? ∧ (openWindow s).hand? = s.hand? := by
  unfold openWindow
  (try dsimp only)
  simp

@[simp] theorem takeRecordBoth_frame (r : Record) (s : State) :
    (takeRecordBoth r s).stick = s.stick ∧ (takeRecordBoth r s).blend = s.blend ∧
    (takeRecordBoth r s).coupling = s.coupling ∧ (takeRecordBoth r s).limiter = s.limiter ∧
    (takeRecordBoth r s).drive = s.drive ∧ (takeRecordBoth r s).presets = s.presets ∧
    (takeRecordBoth r s).memory = s.memory ∧ (takeRecordBoth r s).clock = s.clock ∧
    (takeRecordBoth r s).sched = s.sched ∧ (takeRecordBoth r s).intake = s.intake ∧
    (takeRecordBoth r s).flags = s.flags ∧ (takeRecordBoth r s).hand = s.hand ∧ (takeRecordBoth r s).panel = s.panel ∧
    (takeRecordBoth r s).resetHold = s.resetHold ∧ (takeRecordBoth r s).freeCount = s.freeCount ∧
    (takeRecordBoth r s).pending = s.pending := by
  unfold takeRecordBoth
  (try dsimp only)
  simp

@[simp] theorem takeRecordAxis_frame (ax : AxisSettings) (s : State) :
    (takeRecordAxis ax s).record = s.record ∧ (takeRecordAxis ax s).stick = s.stick ∧
    (takeRecordAxis ax s).blend = s.blend ∧ (takeRecordAxis ax s).limiter = s.limiter ∧
    (takeRecordAxis ax s).presets = s.presets ∧ (takeRecordAxis ax s).memory = s.memory ∧
    (takeRecordAxis ax s).clock = s.clock ∧ (takeRecordAxis ax s).sched = s.sched ∧
    (takeRecordAxis ax s).intake = s.intake ∧ (takeRecordAxis ax s).peers = s.peers ∧
    (takeRecordAxis ax s).link = s.link ∧ (takeRecordAxis ax s).flags = s.flags ∧
    (takeRecordAxis ax s).hand = s.hand ∧ (takeRecordAxis ax s).panel = s.panel ∧
    (takeRecordAxis ax s).resetHold = s.resetHold ∧ (takeRecordAxis ax s).freeCount = s.freeCount ∧
    (takeRecordAxis ax s).pending = s.pending ∧ (takeRecordAxis ax s).axis? = s.axis? ∧
    (takeRecordAxis ax s).hand? = s.hand? := by
  unfold takeRecordAxis
  (try dsimp only)
  simp

@[simp] theorem takeRecordHand_frame (s : State) :
    (takeRecordHand s).record = s.record ∧ (takeRecordHand s).stick = s.stick ∧
    (takeRecordHand s).presets = s.presets ∧ (takeRecordHand s).memory = s.memory ∧
    (takeRecordHand s).clock = s.clock ∧ (takeRecordHand s).sched = s.sched ∧ (takeRecordHand s).intake = s.intake ∧
    (takeRecordHand s).peers = s.peers ∧ (takeRecordHand s).flags = s.flags ∧ (takeRecordHand s).hand = s.hand ∧
    (takeRecordHand s).panel = s.panel ∧ (takeRecordHand s).resetHold = s.resetHold ∧
    (takeRecordHand s).freeCount = s.freeCount ∧ (takeRecordHand s).pending = s.pending ∧
    (takeRecordHand s).axis? = s.axis? ∧ (takeRecordHand s).hand? = s.hand? := by
  unfold takeRecordHand
  simp

@[simp] theorem recordGood_frame (r : Record) (s : State) :
    (recordGood r s).stick = s.stick ∧ (recordGood r s).presets = s.presets ∧ (recordGood r s).memory = s.memory ∧
    (recordGood r s).clock = s.clock ∧ (recordGood r s).sched = s.sched ∧ (recordGood r s).intake = s.intake ∧
    (recordGood r s).flags = s.flags ∧ (recordGood r s).hand = s.hand ∧ (recordGood r s).panel = s.panel ∧
    (recordGood r s).resetHold = s.resetHold ∧ (recordGood r s).freeCount = s.freeCount ∧
    (recordGood r s).pending = s.pending := by
  unfold recordGood
  (try dsimp only)
  (repeat' split) <;> simp

@[simp] theorem recordRead_frame (bytes : List Byte) (s : State) :
    (recordRead bytes s).stick = s.stick ∧ (recordRead bytes s).presets = s.presets ∧
    (recordRead bytes s).memory = s.memory ∧ (recordRead bytes s).clock = s.clock ∧
    (recordRead bytes s).sched = s.sched ∧ (recordRead bytes s).intake = s.intake ∧
    (recordRead bytes s).flags = s.flags ∧ (recordRead bytes s).hand = s.hand ∧ (recordRead bytes s).panel = s.panel ∧
    (recordRead bytes s).resetHold = s.resetHold ∧ (recordRead bytes s).freeCount = s.freeCount ∧
    (recordRead bytes s).pending = s.pending := by
  unfold recordRead
  (try dsimp only)
  (repeat' split) <;> simp

@[simp] theorem loadEntry_frame (body : PresetBody) (s : State) :
    (loadEntry body s).record = s.record ∧ (loadEntry body s).stick = s.stick ∧ (loadEntry body s).blend = s.blend ∧
    (loadEntry body s).coupling = s.coupling ∧ (loadEntry body s).limiter = s.limiter ∧
    (loadEntry body s).drive = s.drive ∧ (loadEntry body s).memory = s.memory ∧ (loadEntry body s).clock = s.clock ∧
    (loadEntry body s).sched = s.sched ∧ (loadEntry body s).intake = s.intake ∧ (loadEntry body s).peers = s.peers ∧
    (loadEntry body s).flags = s.flags ∧ (loadEntry body s).hand = s.hand ∧ (loadEntry body s).panel = s.panel ∧
    (loadEntry body s).resetHold = s.resetHold ∧ (loadEntry body s).freeCount = s.freeCount ∧
    (loadEntry body s).pending = s.pending ∧ (loadEntry body s).axis? = s.axis? ∧
    (loadEntry body s).hand? = s.hand? := by
  unfold loadEntry
  (try dsimp only)
  (repeat' split) <;> simp

@[simp] theorem deliver_frame (page : PageRead) (s : State) :
    (deliver page s).start = s.start ∧ (deliver page s).record = s.record ∧ (deliver page s).stick = s.stick ∧
    (deliver page s).blend = s.blend ∧ (deliver page s).coupling = s.coupling ∧ (deliver page s).limiter = s.limiter ∧
    (deliver page s).drive = s.drive ∧ (deliver page s).presets = s.presets ∧ (deliver page s).clock = s.clock ∧
    (deliver page s).sched = s.sched ∧ (deliver page s).intake = s.intake ∧ (deliver page s).peers = s.peers ∧
    (deliver page s).link = s.link ∧ (deliver page s).flags = s.flags ∧ (deliver page s).hand = s.hand ∧
    (deliver page s).panel = s.panel ∧ (deliver page s).resetHold = s.resetHold ∧
    (deliver page s).freeCount = s.freeCount ∧ (deliver page s).pending = s.pending ∧
    (deliver page s).axis? = s.axis? ∧ (deliver page s).hand? = s.hand? := by
  unfold deliver
  (repeat' split) <;> simp

@[simp] theorem pageRead_frame (page : PageRead) (s : State) :
    (pageRead page s).record = s.record ∧ (pageRead page s).stick = s.stick ∧ (pageRead page s).blend = s.blend ∧
    (pageRead page s).coupling = s.coupling ∧ (pageRead page s).limiter = s.limiter ∧
    (pageRead page s).drive = s.drive ∧ (pageRead page s).clock = s.clock ∧ (pageRead page s).sched = s.sched ∧
    (pageRead page s).intake = s.intake ∧ (pageRead page s).peers = s.peers ∧ (pageRead page s).flags = s.flags ∧
    (pageRead page s).hand = s.hand ∧ (pageRead page s).panel = s.panel ∧ (pageRead page s).resetHold = s.resetHold ∧
    (pageRead page s).freeCount = s.freeCount ∧ (pageRead page s).pending = s.pending ∧
    (pageRead page s).axis? = s.axis? ∧ (pageRead page s).hand? = s.hand? := by
  unfold pageRead
  (try dsimp only)
  simp

@[simp] theorem leaveStart_frame (s : State) :
    (leaveStart s).start = s.start ∧ (leaveStart s).record = s.record ∧ (leaveStart s).stick = s.stick ∧
    (leaveStart s).coupling = s.coupling ∧ (leaveStart s).presets = s.presets ∧ (leaveStart s).memory = s.memory ∧
    (leaveStart s).clock = s.clock ∧ (leaveStart s).intake = s.intake ∧ (leaveStart s).peers = s.peers ∧
    (leaveStart s).link = s.link ∧ (leaveStart s).flags = s.flags ∧ (leaveStart s).hand = s.hand ∧
    (leaveStart s).panel = s.panel ∧ (leaveStart s).resetHold = s.resetHold ∧ (leaveStart s).freeCount = s.freeCount ∧
    (leaveStart s).pending = s.pending ∧ (leaveStart s).axis? = s.axis? ∧ (leaveStart s).hand? = s.hand? := by
  unfold leaveStart
  (repeat' split) <;> simp

@[simp] theorem windowEnds_frame (frameFirst : Bool) (s : State) :
    (windowEnds frameFirst s).record = s.record ∧ (windowEnds frameFirst s).stick = s.stick ∧
    (windowEnds frameFirst s).coupling = s.coupling ∧ (windowEnds frameFirst s).presets = s.presets ∧
    (windowEnds frameFirst s).memory = s.memory ∧ (windowEnds frameFirst s).clock = s.clock ∧
    (windowEnds frameFirst s).intake = s.intake ∧ (windowEnds frameFirst s).peers = s.peers ∧
    (windowEnds frameFirst s).flags = s.flags ∧ (windowEnds frameFirst s).hand = s.hand ∧
    (windowEnds frameFirst s).panel = s.panel ∧ (windowEnds frameFirst s).resetHold = s.resetHold ∧
    (windowEnds frameFirst s).freeCount = s.freeCount ∧ (windowEnds frameFirst s).pending = s.pending ∧
    (windowEnds frameFirst s).axis? = s.axis? ∧ (windowEnds frameFirst s).hand? = s.hand? := by
  unfold windowEnds
  (try dsimp only)
  (repeat' split) <;> simp

end Sys2Proof.Machine
end

