-- ==== Sys2Proof/Laws/Memory.lean ====
section
/-! SUPPORT. The settings memory's image: every operation keeps the canonical form, a read after a write, and what the
page operations leave. -/
namespace Sys2Proof.Machine.Memory

set_option Elab.async false

theorem above_mono {a b : Nat} {cells : List Host.Cell} (h : above b cells = true) (hab : a ≤ b) :
    above a cells = true := by
  cases cells with
  | nil => rfl
  | cons c rest =>
    obtain ⟨x, v⟩ := c
    simp only [above, Bool.and_eq_true, decide_eq_true_eq, bne_iff_ne, ne_eq] at h ⊢
    exact ⟨⟨by omega, h.1.2⟩, h.2⟩

theorem wf_of_above {a : Nat} {cells : List Host.Cell} (h : above a cells = true) : wf cells = true := by
  cases cells with
  | nil => rfl
  | cons c rest =>
    obtain ⟨x, v⟩ := c
    simp only [above, wf, Bool.and_eq_true] at h ⊢
    exact ⟨h.1.2, h.2⟩

theorem write_above {a k : Nat} {v : Byte} {cells : List Host.Cell} (h : above a cells = true) (hk : a < k) :
    above a (write cells k v) = true := by
  induction cells generalizing a with
  | nil =>
    simp only [write]
    split <;> simp_all [above]
  | cons c rest ih =>
    obtain ⟨b, w⟩ := c
    simp only [above, Bool.and_eq_true, decide_eq_true_eq, bne_iff_ne, ne_eq] at h
    obtain ⟨⟨hab, hw⟩, hr⟩ := h
    simp only [write]
    split
    · split
      · simp_all [above]
      · simp_all [above]
    · split
      · subst k
        split
        · exact above_mono hr (by omega)
        · simp_all [above]
      · have := ih hr (by omega)
        simp_all [above]

/-- Writing one byte keeps the canonical form. -/
theorem write_wf {cells : List Host.Cell} (h : wf cells = true) (k : Nat) (v : Byte) :
    wf (write cells k v) = true := by
  cases cells with
  | nil =>
    simp only [write]
    split <;> simp_all [wf, above]
  | cons c rest =>
    obtain ⟨b, w⟩ := c
    simp only [wf, Bool.and_eq_true, bne_iff_ne, ne_eq] at h
    simp only [write]
    split
    · split
      · simp_all [wf]
      · simp_all [wf, above]
    · split
      · subst k
        split
        · exact wf_of_above h.2
        · simp_all [wf]
      · have := write_above (v := v) h.2 (show b < k by omega)
        simp_all [wf]

/-- Writing bytes keeps the canonical form. -/
theorem writeBytes_wf {cells : List Host.Cell} (h : wf cells = true) (k : Nat) (bytes : List Byte) :
    wf (writeBytes cells k bytes) = true := by
  induction bytes generalizing cells k with
  | nil => exact h
  | cons v rest ih => exact ih (write_wf h k v) (k + 1)

theorem read_of_above {a k : Nat} {cells : List Host.Cell} (h : above a cells = true) (hk : k ≤ a) :
    read cells k = erasedByte := by
  induction cells generalizing a with
  | nil => rfl
  | cons c rest ih =>
    obtain ⟨b, w⟩ := c
    simp only [above, Bool.and_eq_true, decide_eq_true_eq] at h
    have hb : k ≠ b := by omega
    simp only [read, if_neg hb]
    exact ih h.2 (by omega)

/-- A read after a write: the byte written at its address, every other byte as before. -/
theorem read_write {cells : List Host.Cell} (h : wf cells = true) (k a : Nat) (v : Byte) :
    read (write cells k v) a = if a = k then v else read cells a := by
  induction cells with
  | nil =>
    by_cases hv : v = erasedByte <;> by_cases ha : a = k <;> simp_all [write, read]
  | cons c rest ih =>
    obtain ⟨b, w⟩ := c
    have hr : above b rest = true := by
      simp only [wf, Bool.and_eq_true] at h
      exact h.2
    have hout : ∀ x, x ≤ b → read rest x = erasedByte := fun x hx => read_of_above hr hx
    have ih := ih (wf_of_above hr)
    simp only [write]
    split
    · rename_i hlt
      have hk := hout k (by omega)
      by_cases hv : v = erasedByte <;> by_cases ha : a = k <;> simp_all [read] <;> omega
    · split
      · subst k
        have hb := hout b (by omega)
        by_cases hv : v = erasedByte <;> by_cases ha : a = b <;> simp_all [read]
      · by_cases ha : a = b <;> simp_all [read]
        intro hk
        omega

/-- A read after bytes are written: the byte written there, or the byte as before. -/
theorem read_writeBytes {cells : List Host.Cell} (h : wf cells = true) (k a : Nat) (bytes : List Byte) :
    read (writeBytes cells k bytes) a =
      if k ≤ a ∧ a < k + bytes.length then bytes.getD (a - k) 0 else read cells a := by
  induction bytes generalizing cells k with
  | nil => rw [if_neg (by simp only [List.length_nil]; omega), writeBytes]
  | cons v rest ih =>
    simp only [writeBytes]
    rw [ih (write_wf h k v), read_write h]
    by_cases h1 : a = k
    · subst a
      rw [if_neg (by omega), if_pos rfl, if_pos (by simp only [List.length_cons]; omega)]
      simp only [Nat.sub_self, List.getD_cons_zero]
    · by_cases h2 : k + 1 ≤ a ∧ a < k + 1 + rest.length
      · have h3 : k ≤ a ∧ a < k + (v :: rest).length := by simp only [List.length_cons]; omega
        rw [if_pos h2, if_pos h3]
        have h4 : a - k = (a - (k + 1)) + 1 := by omega
        rw [h4, List.getD_cons_succ]
      · have h3 : ¬(k ≤ a ∧ a < k + (v :: rest).length) := by simp only [List.length_cons]; omega
        rw [if_neg h2, if_neg h3, if_neg h1]

theorem length_readBytes (cells : List Host.Cell) (a n : Nat) : (readBytes cells a n).length = n := by
  induction n generalizing a with
  | zero => rfl
  | succ n ih => simp [readBytes, ih]

/-- The canonical form after page `i` is set, torn, or its commit recorded. -/
theorem setPage_wf {s : State} (h : wf s.memory.cells = true) (i : Nat) (page : List Byte) :
    wf (s.setPage i page).memory.cells = true := writeBytes_wf h _ _

theorem tearPage_wf {s : State} (h : wf s.memory.cells = true) (i : Nat) :
    wf (s.tearPage i).memory.cells = true := writeBytes_wf h _ _

theorem setCommit_wf {s : State} (h : wf s.memory.cells = true) (c : Option (Nat × List Byte)) :
    wf (s.setCommit c).memory.cells = true := h

theorem reset_wf : wf State.reset.memory.cells = true := rfl

end Sys2Proof.Machine.Memory
end

