-- ==== Sys2Proof/Laws/Updates.lean ====
section
/-! SUPPORT. How the updates of State.lean compose: a later update of a field overwrites an earlier one, an update by the
field itself is none, and updates of different fields are brought into the fields' order. With these, simp compares two
chains of updates. -/
namespace Sys2Proof.Machine

set_option Elab.async false

@[simp] theorem State.withStart_withStart (s : State) (a b : StartController) :
    (s.withStart a).withStart b = s.withStart b := rfl
@[simp] theorem State.withStart_self (s : State) : s.withStart s.start = s := rfl
@[simp] theorem State.withRecord_withRecord (s : State) (a b : Option Record) :
    (s.withRecord a).withRecord b = s.withRecord b := rfl
@[simp] theorem State.withRecord_self (s : State) : s.withRecord s.record = s := rfl
@[simp] theorem State.withStick_withStick (s : State) (a b : StickShaper) :
    (s.withStick a).withStick b = s.withStick b := rfl
@[simp] theorem State.withStick_self (s : State) : s.withStick s.stick = s := rfl
@[simp] theorem State.withBlend_withBlend (s : State) (a b : BlendEngine) :
    (s.withBlend a).withBlend b = s.withBlend b := rfl
@[simp] theorem State.withBlend_self (s : State) : s.withBlend s.blend = s := rfl
@[simp] theorem State.withCoupling_withCoupling (s : State) (a b : CouplingUnit) :
    (s.withCoupling a).withCoupling b = s.withCoupling b := rfl
@[simp] theorem State.withCoupling_self (s : State) : s.withCoupling s.coupling = s := rfl
@[simp] theorem State.withLimiter_withLimiter (s : State) (a b : MotionLimiter) :
    (s.withLimiter a).withLimiter b = s.withLimiter b := rfl
@[simp] theorem State.withLimiter_self (s : State) : s.withLimiter s.limiter = s := rfl
@[simp] theorem State.withDrive_withDrive (s : State) (a b : DrivePort) :
    (s.withDrive a).withDrive b = s.withDrive b := rfl
@[simp] theorem State.withDrive_self (s : State) : s.withDrive s.drive = s := rfl
@[simp] theorem State.withPresets_withPresets (s : State) (a b : PresetStore) :
    (s.withPresets a).withPresets b = s.withPresets b := rfl
@[simp] theorem State.withPresets_self (s : State) : s.withPresets s.presets = s := rfl
@[simp] theorem State.withMemory_withMemory (s : State) (a b : SettingsMemory) :
    (s.withMemory a).withMemory b = s.withMemory b := rfl
@[simp] theorem State.withMemory_self (s : State) : s.withMemory s.memory = s := rfl
@[simp] theorem State.withClock_withClock (s : State) (a b : SceneClock) :
    (s.withClock a).withClock b = s.withClock b := rfl
@[simp] theorem State.withClock_self (s : State) : s.withClock s.clock = s := rfl
@[simp] theorem State.withSched_withSched (s : State) (a b : CueScheduler) :
    (s.withSched a).withSched b = s.withSched b := rfl
@[simp] theorem State.withSched_self (s : State) : s.withSched s.sched = s := rfl
@[simp] theorem State.withIntake_withIntake (s : State) (a b : Option RingRecord) :
    (s.withIntake a).withIntake b = s.withIntake b := rfl
@[simp] theorem State.withIntake_self (s : State) : s.withIntake s.intake = s := rfl
@[simp] theorem State.withPeers_withPeers (s : State) (a b : PeerTable) :
    (s.withPeers a).withPeers b = s.withPeers b := rfl
@[simp] theorem State.withPeers_self (s : State) : s.withPeers s.peers = s := rfl
@[simp] theorem State.withLink_withLink (s : State) (a b : LinkController) :
    (s.withLink a).withLink b = s.withLink b := rfl
@[simp] theorem State.withLink_self (s : State) : s.withLink s.link = s := rfl
@[simp] theorem State.withFlags_withFlags (s : State) (a b : FlagSet) :
    (s.withFlags a).withFlags b = s.withFlags b := rfl
@[simp] theorem State.withFlags_self (s : State) : s.withFlags s.flags = s := rfl
@[simp] theorem State.withHand_withHand (s : State) (a b : HandSampler) :
    (s.withHand a).withHand b = s.withHand b := rfl
@[simp] theorem State.withHand_self (s : State) : s.withHand s.hand = s := rfl
@[simp] theorem State.withPanel_withPanel (s : State) (a b : PanelLine) :
    (s.withPanel a).withPanel b = s.withPanel b := rfl
@[simp] theorem State.withPanel_self (s : State) : s.withPanel s.panel = s := rfl
@[simp] theorem State.withResetHold_withResetHold (s : State) (a b : Option StartCause) :
    (s.withResetHold a).withResetHold b = s.withResetHold b := rfl
@[simp] theorem State.withResetHold_self (s : State) : s.withResetHold s.resetHold = s := rfl
@[simp] theorem State.withFreeCount_withFreeCount (s : State) (a b : Nat) :
    (s.withFreeCount a).withFreeCount b = s.withFreeCount b := rfl
@[simp] theorem State.withFreeCount_self (s : State) : s.withFreeCount s.freeCount = s := rfl
@[simp] theorem State.withPending_withPending (s : State) (a b : List Instr) :
    (s.withPending a).withPending b = s.withPending b := rfl
@[simp] theorem State.withPending_self (s : State) : s.withPending s.pending = s := rfl
@[simp] theorem State.withRecord_withStart (s : State) (a : Option Record) (b : StartController) :
    (s.withRecord a).withStart b = (s.withStart b).withRecord a := rfl
@[simp] theorem State.withStick_withStart (s : State) (a : StickShaper) (b : StartController) :
    (s.withStick a).withStart b = (s.withStart b).withStick a := rfl
@[simp] theorem State.withBlend_withStart (s : State) (a : BlendEngine) (b : StartController) :
    (s.withBlend a).withStart b = (s.withStart b).withBlend a := rfl
@[simp] theorem State.withCoupling_withStart (s : State) (a : CouplingUnit) (b : StartController) :
    (s.withCoupling a).withStart b = (s.withStart b).withCoupling a := rfl
@[simp] theorem State.withLimiter_withStart (s : State) (a : MotionLimiter) (b : StartController) :
    (s.withLimiter a).withStart b = (s.withStart b).withLimiter a := rfl
@[simp] theorem State.withDrive_withStart (s : State) (a : DrivePort) (b : StartController) :
    (s.withDrive a).withStart b = (s.withStart b).withDrive a := rfl
@[simp] theorem State.withPresets_withStart (s : State) (a : PresetStore) (b : StartController) :
    (s.withPresets a).withStart b = (s.withStart b).withPresets a := rfl
@[simp] theorem State.withMemory_withStart (s : State) (a : SettingsMemory) (b : StartController) :
    (s.withMemory a).withStart b = (s.withStart b).withMemory a := rfl
@[simp] theorem State.withClock_withStart (s : State) (a : SceneClock) (b : StartController) :
    (s.withClock a).withStart b = (s.withStart b).withClock a := rfl
@[simp] theorem State.withSched_withStart (s : State) (a : CueScheduler) (b : StartController) :
    (s.withSched a).withStart b = (s.withStart b).withSched a := rfl
@[simp] theorem State.withIntake_withStart (s : State) (a : Option RingRecord) (b : StartController) :
    (s.withIntake a).withStart b = (s.withStart b).withIntake a := rfl
@[simp] theorem State.withPeers_withStart (s : State) (a : PeerTable) (b : StartController) :
    (s.withPeers a).withStart b = (s.withStart b).withPeers a := rfl
@[simp] theorem State.withLink_withStart (s : State) (a : LinkController) (b : StartController) :
    (s.withLink a).withStart b = (s.withStart b).withLink a := rfl
@[simp] theorem State.withFlags_withStart (s : State) (a : FlagSet) (b : StartController) :
    (s.withFlags a).withStart b = (s.withStart b).withFlags a := rfl
@[simp] theorem State.withHand_withStart (s : State) (a : HandSampler) (b : StartController) :
    (s.withHand a).withStart b = (s.withStart b).withHand a := rfl
@[simp] theorem State.withPanel_withStart (s : State) (a : PanelLine) (b : StartController) :
    (s.withPanel a).withStart b = (s.withStart b).withPanel a := rfl
@[simp] theorem State.withResetHold_withStart (s : State) (a : Option StartCause) (b : StartController) :
    (s.withResetHold a).withStart b = (s.withStart b).withResetHold a := rfl
@[simp] theorem State.withFreeCount_withStart (s : State) (a : Nat) (b : StartController) :
    (s.withFreeCount a).withStart b = (s.withStart b).withFreeCount a := rfl
@[simp] theorem State.withPending_withStart (s : State) (a : List Instr) (b : StartController) :
    (s.withPending a).withStart b = (s.withStart b).withPending a := rfl
@[simp] theorem State.withStick_withRecord (s : State) (a : StickShaper) (b : Option Record) :
    (s.withStick a).withRecord b = (s.withRecord b).withStick a := rfl
@[simp] theorem State.withBlend_withRecord (s : State) (a : BlendEngine) (b : Option Record) :
    (s.withBlend a).withRecord b = (s.withRecord b).withBlend a := rfl
@[simp] theorem State.withCoupling_withRecord (s : State) (a : CouplingUnit) (b : Option Record) :
    (s.withCoupling a).withRecord b = (s.withRecord b).withCoupling a := rfl
@[simp] theorem State.withLimiter_withRecord (s : State) (a : MotionLimiter) (b : Option Record) :
    (s.withLimiter a).withRecord b = (s.withRecord b).withLimiter a := rfl
@[simp] theorem State.withDrive_withRecord (s : State) (a : DrivePort) (b : Option Record) :
    (s.withDrive a).withRecord b = (s.withRecord b).withDrive a := rfl
@[simp] theorem State.withPresets_withRecord (s : State) (a : PresetStore) (b : Option Record) :
    (s.withPresets a).withRecord b = (s.withRecord b).withPresets a := rfl
@[simp] theorem State.withMemory_withRecord (s : State) (a : SettingsMemory) (b : Option Record) :
    (s.withMemory a).withRecord b = (s.withRecord b).withMemory a := rfl
@[simp] theorem State.withClock_withRecord (s : State) (a : SceneClock) (b : Option Record) :
    (s.withClock a).withRecord b = (s.withRecord b).withClock a := rfl
@[simp] theorem State.withSched_withRecord (s : State) (a : CueScheduler) (b : Option Record) :
    (s.withSched a).withRecord b = (s.withRecord b).withSched a := rfl
@[simp] theorem State.withIntake_withRecord (s : State) (a : Option RingRecord) (b : Option Record) :
    (s.withIntake a).withRecord b = (s.withRecord b).withIntake a := rfl
@[simp] theorem State.withPeers_withRecord (s : State) (a : PeerTable) (b : Option Record) :
    (s.withPeers a).withRecord b = (s.withRecord b).withPeers a := rfl
@[simp] theorem State.withLink_withRecord (s : State) (a : LinkController) (b : Option Record) :
    (s.withLink a).withRecord b = (s.withRecord b).withLink a := rfl
@[simp] theorem State.withFlags_withRecord (s : State) (a : FlagSet) (b : Option Record) :
    (s.withFlags a).withRecord b = (s.withRecord b).withFlags a := rfl
@[simp] theorem State.withHand_withRecord (s : State) (a : HandSampler) (b : Option Record) :
    (s.withHand a).withRecord b = (s.withRecord b).withHand a := rfl
@[simp] theorem State.withPanel_withRecord (s : State) (a : PanelLine) (b : Option Record) :
    (s.withPanel a).withRecord b = (s.withRecord b).withPanel a := rfl
@[simp] theorem State.withResetHold_withRecord (s : State) (a : Option StartCause) (b : Option Record) :
    (s.withResetHold a).withRecord b = (s.withRecord b).withResetHold a := rfl
@[simp] theorem State.withFreeCount_withRecord (s : State) (a : Nat) (b : Option Record) :
    (s.withFreeCount a).withRecord b = (s.withRecord b).withFreeCount a := rfl
@[simp] theorem State.withPending_withRecord (s : State) (a : List Instr) (b : Option Record) :
    (s.withPending a).withRecord b = (s.withRecord b).withPending a := rfl
@[simp] theorem State.withBlend_withStick (s : State) (a : BlendEngine) (b : StickShaper) :
    (s.withBlend a).withStick b = (s.withStick b).withBlend a := rfl
@[simp] theorem State.withCoupling_withStick (s : State) (a : CouplingUnit) (b : StickShaper) :
    (s.withCoupling a).withStick b = (s.withStick b).withCoupling a := rfl
@[simp] theorem State.withLimiter_withStick (s : State) (a : MotionLimiter) (b : StickShaper) :
    (s.withLimiter a).withStick b = (s.withStick b).withLimiter a := rfl
@[simp] theorem State.withDrive_withStick (s : State) (a : DrivePort) (b : StickShaper) :
    (s.withDrive a).withStick b = (s.withStick b).withDrive a := rfl
@[simp] theorem State.withPresets_withStick (s : State) (a : PresetStore) (b : StickShaper) :
    (s.withPresets a).withStick b = (s.withStick b).withPresets a := rfl
@[simp] theorem State.withMemory_withStick (s : State) (a : SettingsMemory) (b : StickShaper) :
    (s.withMemory a).withStick b = (s.withStick b).withMemory a := rfl
@[simp] theorem State.withClock_withStick (s : State) (a : SceneClock) (b : StickShaper) :
    (s.withClock a).withStick b = (s.withStick b).withClock a := rfl
@[simp] theorem State.withSched_withStick (s : State) (a : CueScheduler) (b : StickShaper) :
    (s.withSched a).withStick b = (s.withStick b).withSched a := rfl
@[simp] theorem State.withIntake_withStick (s : State) (a : Option RingRecord) (b : StickShaper) :
    (s.withIntake a).withStick b = (s.withStick b).withIntake a := rfl
@[simp] theorem State.withPeers_withStick (s : State) (a : PeerTable) (b : StickShaper) :
    (s.withPeers a).withStick b = (s.withStick b).withPeers a := rfl
@[simp] theorem State.withLink_withStick (s : State) (a : LinkController) (b : StickShaper) :
    (s.withLink a).withStick b = (s.withStick b).withLink a := rfl
@[simp] theorem State.withFlags_withStick (s : State) (a : FlagSet) (b : StickShaper) :
    (s.withFlags a).withStick b = (s.withStick b).withFlags a := rfl
@[simp] theorem State.withHand_withStick (s : State) (a : HandSampler) (b : StickShaper) :
    (s.withHand a).withStick b = (s.withStick b).withHand a := rfl
@[simp] theorem State.withPanel_withStick (s : State) (a : PanelLine) (b : StickShaper) :
    (s.withPanel a).withStick b = (s.withStick b).withPanel a := rfl
@[simp] theorem State.withResetHold_withStick (s : State) (a : Option StartCause) (b : StickShaper) :
    (s.withResetHold a).withStick b = (s.withStick b).withResetHold a := rfl
@[simp] theorem State.withFreeCount_withStick (s : State) (a : Nat) (b : StickShaper) :
    (s.withFreeCount a).withStick b = (s.withStick b).withFreeCount a := rfl
@[simp] theorem State.withPending_withStick (s : State) (a : List Instr) (b : StickShaper) :
    (s.withPending a).withStick b = (s.withStick b).withPending a := rfl
@[simp] theorem State.withCoupling_withBlend (s : State) (a : CouplingUnit) (b : BlendEngine) :
    (s.withCoupling a).withBlend b = (s.withBlend b).withCoupling a := rfl
@[simp] theorem State.withLimiter_withBlend (s : State) (a : MotionLimiter) (b : BlendEngine) :
    (s.withLimiter a).withBlend b = (s.withBlend b).withLimiter a := rfl
@[simp] theorem State.withDrive_withBlend (s : State) (a : DrivePort) (b : BlendEngine) :
    (s.withDrive a).withBlend b = (s.withBlend b).withDrive a := rfl
@[simp] theorem State.withPresets_withBlend (s : State) (a : PresetStore) (b : BlendEngine) :
    (s.withPresets a).withBlend b = (s.withBlend b).withPresets a := rfl
@[simp] theorem State.withMemory_withBlend (s : State) (a : SettingsMemory) (b : BlendEngine) :
    (s.withMemory a).withBlend b = (s.withBlend b).withMemory a := rfl
@[simp] theorem State.withClock_withBlend (s : State) (a : SceneClock) (b : BlendEngine) :
    (s.withClock a).withBlend b = (s.withBlend b).withClock a := rfl
@[simp] theorem State.withSched_withBlend (s : State) (a : CueScheduler) (b : BlendEngine) :
    (s.withSched a).withBlend b = (s.withBlend b).withSched a := rfl
@[simp] theorem State.withIntake_withBlend (s : State) (a : Option RingRecord) (b : BlendEngine) :
    (s.withIntake a).withBlend b = (s.withBlend b).withIntake a := rfl
@[simp] theorem State.withPeers_withBlend (s : State) (a : PeerTable) (b : BlendEngine) :
    (s.withPeers a).withBlend b = (s.withBlend b).withPeers a := rfl
@[simp] theorem State.withLink_withBlend (s : State) (a : LinkController) (b : BlendEngine) :
    (s.withLink a).withBlend b = (s.withBlend b).withLink a := rfl
@[simp] theorem State.withFlags_withBlend (s : State) (a : FlagSet) (b : BlendEngine) :
    (s.withFlags a).withBlend b = (s.withBlend b).withFlags a := rfl
@[simp] theorem State.withHand_withBlend (s : State) (a : HandSampler) (b : BlendEngine) :
    (s.withHand a).withBlend b = (s.withBlend b).withHand a := rfl
@[simp] theorem State.withPanel_withBlend (s : State) (a : PanelLine) (b : BlendEngine) :
    (s.withPanel a).withBlend b = (s.withBlend b).withPanel a := rfl
@[simp] theorem State.withResetHold_withBlend (s : State) (a : Option StartCause) (b : BlendEngine) :
    (s.withResetHold a).withBlend b = (s.withBlend b).withResetHold a := rfl
@[simp] theorem State.withFreeCount_withBlend (s : State) (a : Nat) (b : BlendEngine) :
    (s.withFreeCount a).withBlend b = (s.withBlend b).withFreeCount a := rfl
@[simp] theorem State.withPending_withBlend (s : State) (a : List Instr) (b : BlendEngine) :
    (s.withPending a).withBlend b = (s.withBlend b).withPending a := rfl
@[simp] theorem State.withLimiter_withCoupling (s : State) (a : MotionLimiter) (b : CouplingUnit) :
    (s.withLimiter a).withCoupling b = (s.withCoupling b).withLimiter a := rfl
@[simp] theorem State.withDrive_withCoupling (s : State) (a : DrivePort) (b : CouplingUnit) :
    (s.withDrive a).withCoupling b = (s.withCoupling b).withDrive a := rfl
@[simp] theorem State.withPresets_withCoupling (s : State) (a : PresetStore) (b : CouplingUnit) :
    (s.withPresets a).withCoupling b = (s.withCoupling b).withPresets a := rfl
@[simp] theorem State.withMemory_withCoupling (s : State) (a : SettingsMemory) (b : CouplingUnit) :
    (s.withMemory a).withCoupling b = (s.withCoupling b).withMemory a := rfl
@[simp] theorem State.withClock_withCoupling (s : State) (a : SceneClock) (b : CouplingUnit) :
    (s.withClock a).withCoupling b = (s.withCoupling b).withClock a := rfl
@[simp] theorem State.withSched_withCoupling (s : State) (a : CueScheduler) (b : CouplingUnit) :
    (s.withSched a).withCoupling b = (s.withCoupling b).withSched a := rfl
@[simp] theorem State.withIntake_withCoupling (s : State) (a : Option RingRecord) (b : CouplingUnit) :
    (s.withIntake a).withCoupling b = (s.withCoupling b).withIntake a := rfl
@[simp] theorem State.withPeers_withCoupling (s : State) (a : PeerTable) (b : CouplingUnit) :
    (s.withPeers a).withCoupling b = (s.withCoupling b).withPeers a := rfl
@[simp] theorem State.withLink_withCoupling (s : State) (a : LinkController) (b : CouplingUnit) :
    (s.withLink a).withCoupling b = (s.withCoupling b).withLink a := rfl
@[simp] theorem State.withFlags_withCoupling (s : State) (a : FlagSet) (b : CouplingUnit) :
    (s.withFlags a).withCoupling b = (s.withCoupling b).withFlags a := rfl
@[simp] theorem State.withHand_withCoupling (s : State) (a : HandSampler) (b : CouplingUnit) :
    (s.withHand a).withCoupling b = (s.withCoupling b).withHand a := rfl
@[simp] theorem State.withPanel_withCoupling (s : State) (a : PanelLine) (b : CouplingUnit) :
    (s.withPanel a).withCoupling b = (s.withCoupling b).withPanel a := rfl
@[simp] theorem State.withResetHold_withCoupling (s : State) (a : Option StartCause) (b : CouplingUnit) :
    (s.withResetHold a).withCoupling b = (s.withCoupling b).withResetHold a := rfl
@[simp] theorem State.withFreeCount_withCoupling (s : State) (a : Nat) (b : CouplingUnit) :
    (s.withFreeCount a).withCoupling b = (s.withCoupling b).withFreeCount a := rfl
@[simp] theorem State.withPending_withCoupling (s : State) (a : List Instr) (b : CouplingUnit) :
    (s.withPending a).withCoupling b = (s.withCoupling b).withPending a := rfl
@[simp] theorem State.withDrive_withLimiter (s : State) (a : DrivePort) (b : MotionLimiter) :
    (s.withDrive a).withLimiter b = (s.withLimiter b).withDrive a := rfl
@[simp] theorem State.withPresets_withLimiter (s : State) (a : PresetStore) (b : MotionLimiter) :
    (s.withPresets a).withLimiter b = (s.withLimiter b).withPresets a := rfl
@[simp] theorem State.withMemory_withLimiter (s : State) (a : SettingsMemory) (b : MotionLimiter) :
    (s.withMemory a).withLimiter b = (s.withLimiter b).withMemory a := rfl
@[simp] theorem State.withClock_withLimiter (s : State) (a : SceneClock) (b : MotionLimiter) :
    (s.withClock a).withLimiter b = (s.withLimiter b).withClock a := rfl
@[simp] theorem State.withSched_withLimiter (s : State) (a : CueScheduler) (b : MotionLimiter) :
    (s.withSched a).withLimiter b = (s.withLimiter b).withSched a := rfl
@[simp] theorem State.withIntake_withLimiter (s : State) (a : Option RingRecord) (b : MotionLimiter) :
    (s.withIntake a).withLimiter b = (s.withLimiter b).withIntake a := rfl
@[simp] theorem State.withPeers_withLimiter (s : State) (a : PeerTable) (b : MotionLimiter) :
    (s.withPeers a).withLimiter b = (s.withLimiter b).withPeers a := rfl
@[simp] theorem State.withLink_withLimiter (s : State) (a : LinkController) (b : MotionLimiter) :
    (s.withLink a).withLimiter b = (s.withLimiter b).withLink a := rfl
@[simp] theorem State.withFlags_withLimiter (s : State) (a : FlagSet) (b : MotionLimiter) :
    (s.withFlags a).withLimiter b = (s.withLimiter b).withFlags a := rfl
@[simp] theorem State.withHand_withLimiter (s : State) (a : HandSampler) (b : MotionLimiter) :
    (s.withHand a).withLimiter b = (s.withLimiter b).withHand a := rfl
@[simp] theorem State.withPanel_withLimiter (s : State) (a : PanelLine) (b : MotionLimiter) :
    (s.withPanel a).withLimiter b = (s.withLimiter b).withPanel a := rfl
@[simp] theorem State.withResetHold_withLimiter (s : State) (a : Option StartCause) (b : MotionLimiter) :
    (s.withResetHold a).withLimiter b = (s.withLimiter b).withResetHold a := rfl
@[simp] theorem State.withFreeCount_withLimiter (s : State) (a : Nat) (b : MotionLimiter) :
    (s.withFreeCount a).withLimiter b = (s.withLimiter b).withFreeCount a := rfl
@[simp] theorem State.withPending_withLimiter (s : State) (a : List Instr) (b : MotionLimiter) :
    (s.withPending a).withLimiter b = (s.withLimiter b).withPending a := rfl
@[simp] theorem State.withPresets_withDrive (s : State) (a : PresetStore) (b : DrivePort) :
    (s.withPresets a).withDrive b = (s.withDrive b).withPresets a := rfl
@[simp] theorem State.withMemory_withDrive (s : State) (a : SettingsMemory) (b : DrivePort) :
    (s.withMemory a).withDrive b = (s.withDrive b).withMemory a := rfl
@[simp] theorem State.withClock_withDrive (s : State) (a : SceneClock) (b : DrivePort) :
    (s.withClock a).withDrive b = (s.withDrive b).withClock a := rfl
@[simp] theorem State.withSched_withDrive (s : State) (a : CueScheduler) (b : DrivePort) :
    (s.withSched a).withDrive b = (s.withDrive b).withSched a := rfl
@[simp] theorem State.withIntake_withDrive (s : State) (a : Option RingRecord) (b : DrivePort) :
    (s.withIntake a).withDrive b = (s.withDrive b).withIntake a := rfl
@[simp] theorem State.withPeers_withDrive (s : State) (a : PeerTable) (b : DrivePort) :
    (s.withPeers a).withDrive b = (s.withDrive b).withPeers a := rfl
@[simp] theorem State.withLink_withDrive (s : State) (a : LinkController) (b : DrivePort) :
    (s.withLink a).withDrive b = (s.withDrive b).withLink a := rfl
@[simp] theorem State.withFlags_withDrive (s : State) (a : FlagSet) (b : DrivePort) :
    (s.withFlags a).withDrive b = (s.withDrive b).withFlags a := rfl
@[simp] theorem State.withHand_withDrive (s : State) (a : HandSampler) (b : DrivePort) :
    (s.withHand a).withDrive b = (s.withDrive b).withHand a := rfl
@[simp] theorem State.withPanel_withDrive (s : State) (a : PanelLine) (b : DrivePort) :
    (s.withPanel a).withDrive b = (s.withDrive b).withPanel a := rfl
@[simp] theorem State.withResetHold_withDrive (s : State) (a : Option StartCause) (b : DrivePort) :
    (s.withResetHold a).withDrive b = (s.withDrive b).withResetHold a := rfl
@[simp] theorem State.withFreeCount_withDrive (s : State) (a : Nat) (b : DrivePort) :
    (s.withFreeCount a).withDrive b = (s.withDrive b).withFreeCount a := rfl
@[simp] theorem State.withPending_withDrive (s : State) (a : List Instr) (b : DrivePort) :
    (s.withPending a).withDrive b = (s.withDrive b).withPending a := rfl
@[simp] theorem State.withMemory_withPresets (s : State) (a : SettingsMemory) (b : PresetStore) :
    (s.withMemory a).withPresets b = (s.withPresets b).withMemory a := rfl
@[simp] theorem State.withClock_withPresets (s : State) (a : SceneClock) (b : PresetStore) :
    (s.withClock a).withPresets b = (s.withPresets b).withClock a := rfl
@[simp] theorem State.withSched_withPresets (s : State) (a : CueScheduler) (b : PresetStore) :
    (s.withSched a).withPresets b = (s.withPresets b).withSched a := rfl
@[simp] theorem State.withIntake_withPresets (s : State) (a : Option RingRecord) (b : PresetStore) :
    (s.withIntake a).withPresets b = (s.withPresets b).withIntake a := rfl
@[simp] theorem State.withPeers_withPresets (s : State) (a : PeerTable) (b : PresetStore) :
    (s.withPeers a).withPresets b = (s.withPresets b).withPeers a := rfl
@[simp] theorem State.withLink_withPresets (s : State) (a : LinkController) (b : PresetStore) :
    (s.withLink a).withPresets b = (s.withPresets b).withLink a := rfl
@[simp] theorem State.withFlags_withPresets (s : State) (a : FlagSet) (b : PresetStore) :
    (s.withFlags a).withPresets b = (s.withPresets b).withFlags a := rfl
@[simp] theorem State.withHand_withPresets (s : State) (a : HandSampler) (b : PresetStore) :
    (s.withHand a).withPresets b = (s.withPresets b).withHand a := rfl
@[simp] theorem State.withPanel_withPresets (s : State) (a : PanelLine) (b : PresetStore) :
    (s.withPanel a).withPresets b = (s.withPresets b).withPanel a := rfl
@[simp] theorem State.withResetHold_withPresets (s : State) (a : Option StartCause) (b : PresetStore) :
    (s.withResetHold a).withPresets b = (s.withPresets b).withResetHold a := rfl
@[simp] theorem State.withFreeCount_withPresets (s : State) (a : Nat) (b : PresetStore) :
    (s.withFreeCount a).withPresets b = (s.withPresets b).withFreeCount a := rfl
@[simp] theorem State.withPending_withPresets (s : State) (a : List Instr) (b : PresetStore) :
    (s.withPending a).withPresets b = (s.withPresets b).withPending a := rfl
@[simp] theorem State.withClock_withMemory (s : State) (a : SceneClock) (b : SettingsMemory) :
    (s.withClock a).withMemory b = (s.withMemory b).withClock a := rfl
@[simp] theorem State.withSched_withMemory (s : State) (a : CueScheduler) (b : SettingsMemory) :
    (s.withSched a).withMemory b = (s.withMemory b).withSched a := rfl
@[simp] theorem State.withIntake_withMemory (s : State) (a : Option RingRecord) (b : SettingsMemory) :
    (s.withIntake a).withMemory b = (s.withMemory b).withIntake a := rfl
@[simp] theorem State.withPeers_withMemory (s : State) (a : PeerTable) (b : SettingsMemory) :
    (s.withPeers a).withMemory b = (s.withMemory b).withPeers a := rfl
@[simp] theorem State.withLink_withMemory (s : State) (a : LinkController) (b : SettingsMemory) :
    (s.withLink a).withMemory b = (s.withMemory b).withLink a := rfl
@[simp] theorem State.withFlags_withMemory (s : State) (a : FlagSet) (b : SettingsMemory) :
    (s.withFlags a).withMemory b = (s.withMemory b).withFlags a := rfl
@[simp] theorem State.withHand_withMemory (s : State) (a : HandSampler) (b : SettingsMemory) :
    (s.withHand a).withMemory b = (s.withMemory b).withHand a := rfl
@[simp] theorem State.withPanel_withMemory (s : State) (a : PanelLine) (b : SettingsMemory) :
    (s.withPanel a).withMemory b = (s.withMemory b).withPanel a := rfl
@[simp] theorem State.withResetHold_withMemory (s : State) (a : Option StartCause) (b : SettingsMemory) :
    (s.withResetHold a).withMemory b = (s.withMemory b).withResetHold a := rfl
@[simp] theorem State.withFreeCount_withMemory (s : State) (a : Nat) (b : SettingsMemory) :
    (s.withFreeCount a).withMemory b = (s.withMemory b).withFreeCount a := rfl
@[simp] theorem State.withPending_withMemory (s : State) (a : List Instr) (b : SettingsMemory) :
    (s.withPending a).withMemory b = (s.withMemory b).withPending a := rfl
@[simp] theorem State.withSched_withClock (s : State) (a : CueScheduler) (b : SceneClock) :
    (s.withSched a).withClock b = (s.withClock b).withSched a := rfl
@[simp] theorem State.withIntake_withClock (s : State) (a : Option RingRecord) (b : SceneClock) :
    (s.withIntake a).withClock b = (s.withClock b).withIntake a := rfl
@[simp] theorem State.withPeers_withClock (s : State) (a : PeerTable) (b : SceneClock) :
    (s.withPeers a).withClock b = (s.withClock b).withPeers a := rfl
@[simp] theorem State.withLink_withClock (s : State) (a : LinkController) (b : SceneClock) :
    (s.withLink a).withClock b = (s.withClock b).withLink a := rfl
@[simp] theorem State.withFlags_withClock (s : State) (a : FlagSet) (b : SceneClock) :
    (s.withFlags a).withClock b = (s.withClock b).withFlags a := rfl
@[simp] theorem State.withHand_withClock (s : State) (a : HandSampler) (b : SceneClock) :
    (s.withHand a).withClock b = (s.withClock b).withHand a := rfl
@[simp] theorem State.withPanel_withClock (s : State) (a : PanelLine) (b : SceneClock) :
    (s.withPanel a).withClock b = (s.withClock b).withPanel a := rfl
@[simp] theorem State.withResetHold_withClock (s : State) (a : Option StartCause) (b : SceneClock) :
    (s.withResetHold a).withClock b = (s.withClock b).withResetHold a := rfl
@[simp] theorem State.withFreeCount_withClock (s : State) (a : Nat) (b : SceneClock) :
    (s.withFreeCount a).withClock b = (s.withClock b).withFreeCount a := rfl
@[simp] theorem State.withPending_withClock (s : State) (a : List Instr) (b : SceneClock) :
    (s.withPending a).withClock b = (s.withClock b).withPending a := rfl
@[simp] theorem State.withIntake_withSched (s : State) (a : Option RingRecord) (b : CueScheduler) :
    (s.withIntake a).withSched b = (s.withSched b).withIntake a := rfl
@[simp] theorem State.withPeers_withSched (s : State) (a : PeerTable) (b : CueScheduler) :
    (s.withPeers a).withSched b = (s.withSched b).withPeers a := rfl
@[simp] theorem State.withLink_withSched (s : State) (a : LinkController) (b : CueScheduler) :
    (s.withLink a).withSched b = (s.withSched b).withLink a := rfl
@[simp] theorem State.withFlags_withSched (s : State) (a : FlagSet) (b : CueScheduler) :
    (s.withFlags a).withSched b = (s.withSched b).withFlags a := rfl
@[simp] theorem State.withHand_withSched (s : State) (a : HandSampler) (b : CueScheduler) :
    (s.withHand a).withSched b = (s.withSched b).withHand a := rfl
@[simp] theorem State.withPanel_withSched (s : State) (a : PanelLine) (b : CueScheduler) :
    (s.withPanel a).withSched b = (s.withSched b).withPanel a := rfl
@[simp] theorem State.withResetHold_withSched (s : State) (a : Option StartCause) (b : CueScheduler) :
    (s.withResetHold a).withSched b = (s.withSched b).withResetHold a := rfl
@[simp] theorem State.withFreeCount_withSched (s : State) (a : Nat) (b : CueScheduler) :
    (s.withFreeCount a).withSched b = (s.withSched b).withFreeCount a := rfl
@[simp] theorem State.withPending_withSched (s : State) (a : List Instr) (b : CueScheduler) :
    (s.withPending a).withSched b = (s.withSched b).withPending a := rfl
@[simp] theorem State.withPeers_withIntake (s : State) (a : PeerTable) (b : Option RingRecord) :
    (s.withPeers a).withIntake b = (s.withIntake b).withPeers a := rfl
@[simp] theorem State.withLink_withIntake (s : State) (a : LinkController) (b : Option RingRecord) :
    (s.withLink a).withIntake b = (s.withIntake b).withLink a := rfl
@[simp] theorem State.withFlags_withIntake (s : State) (a : FlagSet) (b : Option RingRecord) :
    (s.withFlags a).withIntake b = (s.withIntake b).withFlags a := rfl
@[simp] theorem State.withHand_withIntake (s : State) (a : HandSampler) (b : Option RingRecord) :
    (s.withHand a).withIntake b = (s.withIntake b).withHand a := rfl
@[simp] theorem State.withPanel_withIntake (s : State) (a : PanelLine) (b : Option RingRecord) :
    (s.withPanel a).withIntake b = (s.withIntake b).withPanel a := rfl
@[simp] theorem State.withResetHold_withIntake (s : State) (a : Option StartCause) (b : Option RingRecord) :
    (s.withResetHold a).withIntake b = (s.withIntake b).withResetHold a := rfl
@[simp] theorem State.withFreeCount_withIntake (s : State) (a : Nat) (b : Option RingRecord) :
    (s.withFreeCount a).withIntake b = (s.withIntake b).withFreeCount a := rfl
@[simp] theorem State.withPending_withIntake (s : State) (a : List Instr) (b : Option RingRecord) :
    (s.withPending a).withIntake b = (s.withIntake b).withPending a := rfl
@[simp] theorem State.withLink_withPeers (s : State) (a : LinkController) (b : PeerTable) :
    (s.withLink a).withPeers b = (s.withPeers b).withLink a := rfl
@[simp] theorem State.withFlags_withPeers (s : State) (a : FlagSet) (b : PeerTable) :
    (s.withFlags a).withPeers b = (s.withPeers b).withFlags a := rfl
@[simp] theorem State.withHand_withPeers (s : State) (a : HandSampler) (b : PeerTable) :
    (s.withHand a).withPeers b = (s.withPeers b).withHand a := rfl
@[simp] theorem State.withPanel_withPeers (s : State) (a : PanelLine) (b : PeerTable) :
    (s.withPanel a).withPeers b = (s.withPeers b).withPanel a := rfl
@[simp] theorem State.withResetHold_withPeers (s : State) (a : Option StartCause) (b : PeerTable) :
    (s.withResetHold a).withPeers b = (s.withPeers b).withResetHold a := rfl
@[simp] theorem State.withFreeCount_withPeers (s : State) (a : Nat) (b : PeerTable) :
    (s.withFreeCount a).withPeers b = (s.withPeers b).withFreeCount a := rfl
@[simp] theorem State.withPending_withPeers (s : State) (a : List Instr) (b : PeerTable) :
    (s.withPending a).withPeers b = (s.withPeers b).withPending a := rfl
@[simp] theorem State.withFlags_withLink (s : State) (a : FlagSet) (b : LinkController) :
    (s.withFlags a).withLink b = (s.withLink b).withFlags a := rfl
@[simp] theorem State.withHand_withLink (s : State) (a : HandSampler) (b : LinkController) :
    (s.withHand a).withLink b = (s.withLink b).withHand a := rfl
@[simp] theorem State.withPanel_withLink (s : State) (a : PanelLine) (b : LinkController) :
    (s.withPanel a).withLink b = (s.withLink b).withPanel a := rfl
@[simp] theorem State.withResetHold_withLink (s : State) (a : Option StartCause) (b : LinkController) :
    (s.withResetHold a).withLink b = (s.withLink b).withResetHold a := rfl
@[simp] theorem State.withFreeCount_withLink (s : State) (a : Nat) (b : LinkController) :
    (s.withFreeCount a).withLink b = (s.withLink b).withFreeCount a := rfl
@[simp] theorem State.withPending_withLink (s : State) (a : List Instr) (b : LinkController) :
    (s.withPending a).withLink b = (s.withLink b).withPending a := rfl
@[simp] theorem State.withHand_withFlags (s : State) (a : HandSampler) (b : FlagSet) :
    (s.withHand a).withFlags b = (s.withFlags b).withHand a := rfl
@[simp] theorem State.withPanel_withFlags (s : State) (a : PanelLine) (b : FlagSet) :
    (s.withPanel a).withFlags b = (s.withFlags b).withPanel a := rfl
@[simp] theorem State.withResetHold_withFlags (s : State) (a : Option StartCause) (b : FlagSet) :
    (s.withResetHold a).withFlags b = (s.withFlags b).withResetHold a := rfl
@[simp] theorem State.withFreeCount_withFlags (s : State) (a : Nat) (b : FlagSet) :
    (s.withFreeCount a).withFlags b = (s.withFlags b).withFreeCount a := rfl
@[simp] theorem State.withPending_withFlags (s : State) (a : List Instr) (b : FlagSet) :
    (s.withPending a).withFlags b = (s.withFlags b).withPending a := rfl
@[simp] theorem State.withPanel_withHand (s : State) (a : PanelLine) (b : HandSampler) :
    (s.withPanel a).withHand b = (s.withHand b).withPanel a := rfl
@[simp] theorem State.withResetHold_withHand (s : State) (a : Option StartCause) (b : HandSampler) :
    (s.withResetHold a).withHand b = (s.withHand b).withResetHold a := rfl
@[simp] theorem State.withFreeCount_withHand (s : State) (a : Nat) (b : HandSampler) :
    (s.withFreeCount a).withHand b = (s.withHand b).withFreeCount a := rfl
@[simp] theorem State.withPending_withHand (s : State) (a : List Instr) (b : HandSampler) :
    (s.withPending a).withHand b = (s.withHand b).withPending a := rfl
@[simp] theorem State.withResetHold_withPanel (s : State) (a : Option StartCause) (b : PanelLine) :
    (s.withResetHold a).withPanel b = (s.withPanel b).withResetHold a := rfl
@[simp] theorem State.withFreeCount_withPanel (s : State) (a : Nat) (b : PanelLine) :
    (s.withFreeCount a).withPanel b = (s.withPanel b).withFreeCount a := rfl
@[simp] theorem State.withPending_withPanel (s : State) (a : List Instr) (b : PanelLine) :
    (s.withPending a).withPanel b = (s.withPanel b).withPending a := rfl
@[simp] theorem State.withFreeCount_withResetHold (s : State) (a : Nat) (b : Option StartCause) :
    (s.withFreeCount a).withResetHold b = (s.withResetHold b).withFreeCount a := rfl
@[simp] theorem State.withPending_withResetHold (s : State) (a : List Instr) (b : Option StartCause) :
    (s.withPending a).withResetHold b = (s.withResetHold b).withPending a := rfl
@[simp] theorem State.withPending_withFreeCount (s : State) (a : List Instr) (b : Nat) :
    (s.withPending a).withFreeCount b = (s.withFreeCount b).withPending a := rfl

end Sys2Proof.Machine
end

