-- ==== Sys2Proof/Laws/Ops.lean ====
section
/-! SUPPORT. What each shared operation does, said once: when a command runs, what the small updates set, the abandonment of
a plan, the fault entry, the arithmetic's bounds, and a record received whole from HUNT. What an operation leaves alone
is in Frames.lean. -/
namespace Sys2Proof.Machine

set_option Elab.async false

/-! ## When a command runs -/

@[simp] theorem whenRunning_running {s : State} (h : s.resetHold = none) (f : State → State) :
    whenRunning s f = .next (f s) := by simp [whenRunning, h]

theorem whenRunning_held {s : State} (h : s.resetHold.isSome = true) (f : State → State) : whenRunning s f = .next s := by
  simp [whenRunning, h]

theorem whenDue_due {due : Bool} {s : State} (h : s.resetHold = none) (hd : due = true) (f : State → State) :
    whenDue due s f = .next (f s) := by simp [whenDue, h, hd]

/-- A change of the carrier at a running part. -/
@[simp] theorem carrierChange_running {s : State} (h : s.resetHold = none) (present : Bool) (f : State → State) :
    carrierChange present f s = .next (f s) := by simp [carrierChange, h]

/-- A change of the carrier at a part held in reset. -/
theorem carrierChange_held {s : State} (h : s.resetHold.isSome = true) (present : Bool) (f : State → State) :
    carrierChange present f s = .next (s.withLink { s.link with carrier := present }) := by simp [carrierChange, h]

/-- What a part that enters reset changes on the line. -/
@[simp] theorem releaseLine_link (s : State) :
    (releaseLine s).link = { s.link with carrier := s.foreignCarrier } := rfl

theorem foreignCarrier_held {s : State} (h : s.resetHold.isSome = true) : s.foreignCarrier = s.link.carrier := by
  simp [State.foreignCarrier, h]

theorem foreignCarrier_running {s : State} (h : s.resetHold = none) :
    s.foreignCarrier = (s.link.carrier && !s.link.phase.onWire) := by simp [State.foreignCarrier, h]

theorem whenDue_not_due {due : Bool} {s : State} (h : s.resetHold = none) (hd : due = false) (f : State → State) :
    whenDue due s f = .next s := by simp [whenDue, h, hd]

/-! ## The small updates -/

@[simp] theorem enterMove_blend (m : MoveState) (s : State) : (enterMove m s).blend = { s.blend with move := m } := rfl
@[simp] theorem enterMove_drive (m : MoveState) (s : State) :
    (enterMove m s).drive = { s.drive with enable := m.driveEnable, brake := m.brakeOutput } := rfl
@[simp] theorem setStopCause_blend (c : StopCause) (s : State) :
    (setStopCause c s).blend = { s.blend with stopCause := c } := rfl
@[simp] theorem zeroPark_blend (s : State) : (zeroPark s).blend = { s.blend with park := 0 } := rfl
@[simp] theorem zeroBlend_blend (s : State) : (zeroBlend s).blend = { s.blend with w := 0, d := 0 } := rfl
@[simp] theorem setC_blend (c : Int) (s : State) : (setC c s).blend = { s.blend with c := c } := rfl
@[simp] theorem setLatch_stick (s : State) : (setLatch s).stick = { s.stick with latch := true } := rfl
@[simp] theorem setFlag_flags (f : EventFlag) (s : State) : (setFlag f s).flags = s.flags ||| f.mask := rfl
@[simp] theorem trackSetpoint_limiter (s : State) :
    (trackSetpoint s).limiter = { s.limiter with setpoint := s.drive.measured * 16, v0 := 0, stepPos := s.drive.measured } :=
  rfl
@[simp] theorem post_sched (cue : CueId) (p : Phase) (r : Reason) (s : State) :
    (post cue p r s).sched = { s.sched with report := ⟨some cue, p, r⟩ } := rfl

/-! ## Abandonment and the fault entry -/

/-- An abandonment drops both plans and zeroes weight and trim (R24, R44). -/
@[simp] theorem abandon_blend (why : Reason) (s : State) :
    (abandon why s).blend = { s.blend with w := 0, d := 0, plan := none, waiting := none } := by
  unfold abandon; split <;> rfl

/-- The report an abandonment leaves. -/
def abandonReport (why : Reason) (b : BlendEngine) (r : CueReport) : CueReport :=
  match b.plan, b.waiting with
  | some p, _ => ⟨some p.cue, .abandoned, why⟩
  | none, some p => ⟨some p.cue, .abandoned, why⟩
  | none, none => r

@[simp] theorem abandon_sched (why : Reason) (s : State) :
    (abandon why s).sched = { s.sched with report := abandonReport why s.blend s.sched.report } := by
  unfold abandon abandonReport
  cases s.blend.plan <;> cases s.blend.waiting <;> rfl

/-- The fault entry's outputs and records (R89). -/
theorem faultEntry_drive (cause : FaultCause) (s : State) :
    (faultEntry cause s).drive = { s.drive with enable := false, brake := .engaged, pulses := 0, cause := cause,
                                                further := false, followingRun := 0 } := by
  simp [faultEntry, blendFaultEntry, MoveState.driveEnable, MoveState.brakeOutput]

/-- The fault entry's Blend Engine (R42). -/
theorem faultEntry_blend (cause : FaultCause) (s : State) :
    (faultEntry cause s).blend = { s.blend with
      move := .fault, stopCause := .none, plan := none, waiting := none, w := 0, d := 0,
      c := s.drive.measured * 16, park := 0, brake := 0 } := by
  simp [faultEntry, blendFaultEntry, Config.subCounts]

/-- Raising a cause: nothing in START, the further mark in FAULT, else the fault entry (R79, R84, R85, R89, R90). -/
theorem raise_cases (cause : FaultCause) (s : State) :
    (s.blend.move = .start ∧ raise cause s = s) ∨
    (s.blend.move = .fault ∧ raise cause s = s.withDrive { s.drive with further := true }) ∨
    (s.blend.move ≠ .start ∧ s.blend.move ≠ .fault ∧ raise cause s = faultEntry cause s) := by
  unfold raise; cases h : s.blend.move <;> simp

/-! ## Arithmetic -/

theorem clamp_between (x : Int) {lo hi : Int} (h : lo ≤ hi) : lo ≤ clamp x lo hi ∧ clamp x lo hi ≤ hi := by
  unfold clamp; omega

theorem clamp_within {x lo hi : Int} (h : lo ≤ x) (h' : x ≤ hi) : clamp x lo hi = x := by unfold clamp; omega

theorem divFloor_eq (a : Int) {b : Int} (h : 0 ≤ b) : divFloor a b = a / b := Int.fdiv_eq_ediv_of_nonneg a h

/-- The lock's result lies within the configured limits wherever its argument does (R25, R26, log 14). -/
theorem lockC_between (ax : AxisSettings) (d : DrivePort) (prev c : Int) (h : ax.llo ≤ ax.lhi)
    (hc : ax.llo * 16 ≤ c ∧ c ≤ ax.lhi * 16) :
    ax.llo * 16 ≤ lockC ax d prev c ∧ lockC ax d prev c ≤ ax.lhi * 16 := by
  have hp := clamp_between prev (lo := ax.llo * 16) (hi := ax.lhi * 16) (by omega)
  simp only [lockC, AxisSettings.limit, Config.subCounts] at *
  split <;> split <;> omega

/-! ## A record's fields (R191) -/

/-- Past the record length every byte reads as 0xFF. -/
theorem recordByte_past (bytes : List Byte) {len i : Nat} (h : len ≤ i) : recordByte bytes len i = 0xFF :=
  if_neg (by omega)

/-- Within the record length a byte reads as it is. -/
theorem recordByte_within (bytes : List Byte) {len i : Nat} (h : i < len) :
    recordByte bytes len i = byteAt bytes 0xFF i := if_pos h

/-- No check fails: each one's fields lie whole within the record length, and its values pass. -/
theorem firstFailed_none (len : Nat) (get : Nat → Byte) (checks : List (Nat × Bool)) :
    firstFailed len get checks = none ↔ ∀ c ∈ checks, fieldsEnd get c.1 ≤ len ∧ c.2 = true := by
  simp [firstFailed]

/-- The check reported is one that fails, by a field cut off or by its values. -/
theorem firstFailed_some {len : Nat} {get : Nat → Byte} {checks : List (Nat × Bool)} {n : Nat}
    (h : firstFailed len get checks = some n) : ∃ c ∈ checks, c.1 = n ∧ (len < fieldsEnd get n ∨ c.2 = false) := by
  obtain ⟨c, hc, rfl⟩ := Option.map_eq_some_iff.mp h
  refine ⟨c, List.mem_of_find?_eq_some hc, rfl, ?_⟩
  have := List.find?_some hc
  by_cases hl : fieldsEnd get c.1 ≤ len
  · simp_all
  · exact .inl (by omega)

/-! ## A record received whole (R171, log 6) -/

/-- In BODY, the bytes still to come complete the record. -/
theorem receiveBytes_body (rest : List Byte) (s : State) (hb : s.panel.phase = .body) (h2 : 2 ≤ s.panel.buffer.length)
    (hr : rest ≠ [])
    (hl : s.panel.buffer.length + rest.length = (byteAt s.panel.buffer 0 1).toNat + 3) :
    receiveBytes rest s = takeRecord (s.panel.buffer ++ rest) (setParser .body (s.panel.buffer ++ rest) s) := by
  induction rest generalizing s with
  | nil => exact absurd rfl hr
  | cons b rest ih =>
    have hlen : ∀ l : List Byte, byteAt (s.panel.buffer ++ l) 0 1 = byteAt s.panel.buffer 0 1 := fun l => by
      simp [byteAt, List.getElem?_append_left (show 1 < s.panel.buffer.length by omega)]
    have hstep : receiveByte s b =
        if (s.panel.buffer ++ [b]).length = (byteAt (s.panel.buffer ++ [b]) 0 1).toNat + 3
        then takeRecord (s.panel.buffer ++ [b]) (setParser .body (s.panel.buffer ++ [b]) s)
        else setParser .body (s.panel.buffer ++ [b]) s := by
      simp only [receiveByte, hb]
    simp only [receiveBytes, List.foldl_cons, hstep, hlen]
    cases rest with
    | nil =>
      simp only [List.length_cons, List.length_nil] at hl
      simp [hl]
    | cons b' rest =>
      simp only [List.length_cons] at hl
      have hne : ¬(s.panel.buffer ++ [b]).length = (byteAt s.panel.buffer 0 1).toNat + 3 := by
        simp only [List.length_append, List.length_cons, List.length_nil]; omega
      rw [if_neg hne]
      have := ih (setParser .body (s.panel.buffer ++ [b]) s) (by simp [setParser]) (by simp [setParser]; omega)
        (by simp)
        (by have h1 := hlen [b]; simp only [setParser, State.withPanel_panel, h1, List.length_append, List.length_cons,
              List.length_nil]; omega)
      simpa [receiveBytes, setParser] using this

/-- A record of a body of 1 to 250 bytes, received in HUNT, is taken as one event. -/
theorem receiveBytes_hunt (body : List Byte) (check : Byte) (s : State) (h : s.panel.phase = .hunt)
    (h1 : body ≠ []) (h2 : body.length ≤ 250) :
    receiveBytes (rawRecord body check) s =
      takeRecord (rawRecord body check) (setParser .body (rawRecord body check) s) := by
  have hpos : 1 ≤ body.length := List.length_pos_iff.2 h1
  have hlen : (BitVec.ofNat 8 body.length).toNat = body.length := by simp; omega
  have e1 : receiveByte s 0xA5#8 = setParser .length [0xA5#8] s := by simp [receiveByte, h]
  have e2 : receiveByte (setParser .length [0xA5#8] s) (BitVec.ofNat 8 body.length) =
      setParser .body [0xA5#8, BitVec.ofNat 8 body.length] s := by
    have : 1 ≤ (BitVec.ofNat 8 body.length).toNat ∧ (BitVec.ofNat 8 body.length).toNat ≤ 250 := by omega
    simp only [receiveByte, setParser, State.withPanel_panel, this, and_self, if_true]
    simp
  have := receiveBytes_body (body ++ [check]) (setParser .body [0xA5#8, BitVec.ofNat 8 body.length] s)
    (by simp [setParser]) (by simp [setParser]) (by simp) (by simp [setParser, byteAt]; omega)
  simp only [rawRecord, receiveBytes, List.foldl_cons, e1, e2] at this ⊢
  simpa [setParser] using this

end Sys2Proof.Machine
end

