-- ==== Sys2Proof/Tests/Slice0.lean ====
section
/-! SUPPORT. The tests: ill-formed terms that each check refuses; the spec's own worked figures; and, for every statement
of Obligations.lean that has hypotheses, a station and operands that meet them, clause by clause, with what the command
then shows. Expected values are those of the spec's tables and sentences. -/
namespace Sys2Proof.Machine.Tests

set_option Elab.async false

/-! ## Stations -/

/-- The state after a command. -/
def after (c : Instr) (s : State) : State :=
  match exec c s with
  | .next t => t
  | .fault _ | .refused _ => s

/-- The settings of the worked sequences of section 2.4 with the bounds of section 4.4: MIX mode, limits of 10,000 counts
either way, A = 4, Vmax = 12, no partners, no parking. -/
def axis : AxisSettings :=
  { llo := -10000, lhi := 10000, vmax := 12, accel := 4, vjog := 12, deadband := 100, expo := 8, mappings := [],
    mode := .mix, fadeRate := 256, trimScale := 512, follow := none, k := 0, guard := none, l0 := 0, l1 := 0, lsafe := 0,
    interlock := false, parkTime := 0, brakeSetTime := 10, brakeReleaseTime := 150, feLimit := 20, feTime := 3,
    lowPolarity := .activeHigh, highPolarity := .activeLow, stepPolarity := .normal }

/-- A record around settings: address 1, 25 fps, T_fresh 10, T_stale 20. -/
def recordOf (peers : List PeerSpec) (clock : Option Nat) (settings : RoleSettings) : Record :=
  { address := 1, label := 7, framePeriod := 5, fps := 25, clockSource := clock, tFresh := 10, tStale := 20,
    peers := peers, settings := settings }

/-- A running axis station in a move state, its outputs as the move state has them. -/
def axisWith (ax : AxisSettings) (m : MoveState) : State :=
  { State.reset with
    record := some (recordOf [] none (.axis ax)), start := { State.reset.start with phase := .running, verdict := .good },
    stick := ⟨0, false⟩, blend := { State.reset.blend with move := m }, coupling := State.reset.coupling.configured ax,
    drive := { State.reset.drive with enable := m.driveEnable, brake := m.brakeOutput, lastRead := .good,
                                      cause := if m = .fault then .drive else .none } }

/-- The running axis station of the worked sequences. -/
def running (m : MoveState) : State := axisWith axis m

/-- The same, with a peer entry and the record's peer list. -/
def withPeer (s : State) (e : PeerEntry) : State := s.withPeers { s.peers with entries := [e] }

/-- A calibration of section 10.1's worked table. -/
def calibration : Calibration := ⟨60, 512, 1000⟩

/-- A running hand station. -/
def handStation : State :=
  { State.reset with
    record := some (recordOf [] none (.hand (List.replicate 8 calibration))),
    start := { State.reset.start with phase := .running, verdict := .good } }

/-- The cue and the plan of the worked sequences of section 2.4, at step k. -/
def cue1 : CueId := ⟨2, 9⟩
def planAt (k : Nat) : Plan := ⟨0, 65536, 8, k, cue1, 256, false⟩

/-- A PLAY or BLEND state of the worked sequences. -/
def playing (m : MoveState) (k : Nat) : State :=
  (running m).withBlend { (running m).blend with plan := some (planAt k) }

/-- The stick at a computed Vj, the latch clear. -/
def push (v : Int) (s : State) : State := s.withStick ⟨v, false⟩

/-- A firing of a kind for preset 3, with a duration of 2000 ms. -/
def firing (k : CueKind) : Firing := ⟨cue1, k, 3, 2000, 0, false⟩

/-- A station whose preset 3 is VALID at 4,096 counts. -/
def stored (s : State) : State := s.withPresets (s.presets.setEntry 3 ⟨.valid 4096 none none, .saved⟩)

/-- Bytes and the CRC-16 after them. -/
def checked (bytes : List Byte) : List Byte := bytes ++ bytesOf (crc16 bytes).toNat 2

/-- A record of an axis station with the STICK peer 2 and the STATE peer 3, its guard partner the given address. -/
def axisBytes (guard : Byte) : List Byte :=
  [113, 0, 1, 7, 3, 25, 2, 10, 0, 20, 2, 2, 2, 3, 3] ++ List.replicate 28 0xFF ++
  bytesOf (-100) 3 ++ bytesOf 200 3 ++ bytesOf 100 2 ++ bytesOf 4 2 ++ bytesOf 20 2 ++ bytesOf 100 2 ++ [8] ++
  [1, 2, 0, 1, 1, 0, 0xFF] ++ List.replicate 18 0xFF ++ [0, 0, 8, 2, 0, 3, 0xF0, 0x00, guard] ++
  bytesOf 20000 3 ++ bytesOf 2048 2 ++ bytesOf 150 3 ++ [1, 0, 10, 0, 10, 0, 0, 0, 20, 3, 0, 1, 0]

/-- A record of a hand station with no peers. -/
def handBytes : List Byte :=
  [91, 1, 1, 7, 3, 25, 0, 10, 0, 20, 0] ++ List.replicate 32 0xFF ++
  (List.replicate 8 (bytesOf 60 2 ++ bytesOf 512 2 ++ bytesOf 1000 2)).flatten

/-! ## Ill-formed commands -/

theorem test_record_of_257_bytes_is_ill_formed :
    (Instr.recordReadComplete (List.replicate 257 0)).wellFormed = false := by decide +kernel
theorem test_address_0_is_ill_formed : (Instr.entryBecomesAging 0).wellFormed = false := by decide
theorem test_address_63_is_ill_formed : (Instr.entryBecomesStale 63).wellFormed = false := by decide
theorem test_ageing_order_names_addresses :
    (Instr.ageingExpiry [2, 63]).wellFormed = false ∧ (Instr.ageingExpiry [62, 2]).wellFormed = true := by decide
theorem test_good_length_is_no_bad_length : (Instr.badFrameAtLength 250).wellFormed = false := by decide
theorem test_good_record_is_no_unknown_kind : (Instr.requestUnknownKind 0x13 [] 0x47).wellFormed = false := by decide
theorem test_bad_check_is_well_formed : (Instr.requestUnknownKind 0x13 [] 0x48).wellFormed = true := by decide

/-! ## The spec's worked figures -/

/-- R190: the CRC-16 of "123456789" is 0x29B1 (the published check value of this CRC). -/
theorem test_crc_of_the_digits :
    crc16 [0x31, 0x32, 0x33, 0x34, 0x35, 0x36, 0x37, 0x38, 0x39] = 0x29B1#16 := by decide +kernel
/-- Section 1.4: J = 1200 gives s' = 1156, s = 904, Vj = 1766; −1200 gives −1766; J = 102 gives 1. -/
theorem test_stick_chain :
    removeDeadband 100 1200 = 1156 ∧ bendExpo 8 1156 = 904 ∧ scaleJog 4000 904 = 1766 ∧
    scaleJog 4000 (bendExpo 8 (removeDeadband 100 (-1200))) = -1766 ∧
    scaleJog 4000 (bendExpo 8 (removeDeadband 100 102)) = 1 ∧ removeDeadband 100 100 = 0 := by decide
/-- R19's second table. -/
theorem test_plan_positions :
    [1, 2, 3, 4, 5, 6, 7, 8].map (fun k => (planAt k).position) =
      [2816, 10240, 20736, 32768, 44800, 55296, 62720, 65536] := by decide +kernel
/-- Section 3.6: K = −1000 rounds 37 and −37 to −145 and 144. -/
theorem test_follow_term : followTerm (-1000) 37 = -145 ∧ followTerm (-1000) (-37) = 144 ∧
    followTerm (-4096) 100 = -1600 := by decide
/-- Section 3.7: the guard limit's table. -/
theorem test_guard_limit :
    let ax := { axis with llo := 0, lhi := 30000, l0 := 20000, l1 := 2048, lsafe := 18000 }
    [8000, 24000, -3, -6000, -50000].map (guardLimit ax) = [24000, 30000, 19998, 17000, 0] ∧
    safeLimit ax = 18000 := by decide
/-- Section 4.4: the approach to a still target, v at each handover. -/
theorem test_approach :
    requestVelocity 12 4 40 0 = 4 ∧ requestVelocity 12 4 36 4 = 8 ∧ requestVelocity 12 4 28 8 = 12 ∧
    requestVelocity 12 4 16 12 = 9 ∧ requestVelocity 12 4 7 9 = 5 ∧ requestVelocity 12 4 2 5 = 2 ∧
    requestVelocity 12 4 0 2 = 0 ∧ brakingBound 4 40 = 16 ∧ requestVelocity 12 4 (-24) 12 = 8 := by decide +kernel
/-- Section 7.4: the distances of the worked classification at 25 fps, now 10:00:00:00. -/
theorem test_distances :
    let now := frameNumber 25 ⟨10, 0, 0, 0⟩
    dayDistance 25 (frameNumber 25 ⟨9, 59, 59, 23⟩) now = 2159998 ∧
    dayDistance 25 (frameNumber 25 ⟨11, 0, 0, 0⟩) now = 90000 ∧
    dayDistance 25 (frameNumber 25 ⟨21, 59, 59, 24⟩) now = 1079999 := by decide +kernel
/-- R112's table at 24 fps: 984 at period 41, 8 and a frame at period 42; the day ends at 23:59:59:23. -/
theorem test_clock_ticks :
    SceneClock.tick 24 ⟨⟨0, 0, 0, 0⟩, 960, true⟩ = ⟨⟨0, 0, 0, 0⟩, 984, true⟩ ∧
    SceneClock.tick 24 ⟨⟨23, 59, 59, 23⟩, 984, true⟩ = ⟨⟨0, 0, 0, 0⟩, 8, true⟩ := by decide
/-- Section 10.1: the worked calibration. -/
theorem test_calibration :
    [512, 756, 1000, 1030, 1041, 268, 20, 19].map calibration.channel = [0, 1023, 2047, 2047, 0, -1105, -2047, 0] := by
  decide
/-- Section 2.4, nudge and return: expiry 4 gives w = 512, Pj = 11,240 and C = 22,004. -/
theorem test_nudge_expiry_4 :
    let s := push 1000 (playing .blend 3)
    let t := after .periodExpiry (s.withBlend { s.blend with w := 256, pj := 10240, c := 20736, prevC := 20736 })
    t.blend.w = 512 ∧ t.blend.pj = 11240 ∧ t.blend.c = 22004 ∧ t.blend.move = .blend := by decide +kernel
/-- Section 2.4, takeover: expiry 4 of the second sequence gives JOG with C = 3,000. -/
theorem test_takeover_expiry_4 :
    let s := push 1000 (playing .blend 3)
    let t := after .periodExpiry (s.withBlend { s.blend with w := 768, pj := 2000, c := 6684, prevC := 6684 })
    t.blend.w = 0 ∧ t.blend.c = 3000 ∧ t.blend.move = .jog ∧ t.flags = 0x02 := by decide +kernel
/-- Section 2.5: a GO in PARKED with r = 150 and N = 2000 leaves N' = 1850. -/
theorem test_plan_compression :
    (fire axis (firing .go) (stored (running .parked))).blend.waiting.map (fun p => p.n) = some 1850 := by decide +kernel
/-- Section 4.5: the worked stop's first expiry, v = 8 and S = 1,008. -/
theorem test_stop_expiry_1 :
    let s := fire axis (firing .halt) ((running .jog).withLimiter ⟨1000, 12, 62, 0⟩)
    let t := after .periodExpiry s
    t.blend.move = .stopping ∧ t.limiter.setpoint = 1008 ∧ t.limiter.v0 = 8 := by decide +kernel

/-! ## The laws hold of the stations the witnesses use -/

theorem test_running_obeys_its_laws (m : MoveState) (h : m = .start → False) :
    (running m).StartLaw ∧ (running m).DriveLaw := by
  refine ⟨⟨fun h => by simp [running, axisWith] at h, fun r hr => ?_, fun h => ?_, fun h => ?_⟩, ?_⟩
  · obtain rfl : recordOf [] none (.axis axis) = r := by simpa [running, axisWith] using hr
    exact ⟨by decide, by decide, by decide, by decide, fun ax ha => by
      obtain rfl : axis = ax := by simpa [recordOf] using ha
      exact ⟨by decide, by decide, by decide, by decide, by decide, by decide⟩⟩
  · simp [running, axisWith, State.axis?, recordOf] at h
  · simp [running, axisWith] at h
  · cases m <;> exact ⟨by decide, by decide, by decide, by decide⟩

theorem test_reset_obeys_StoreLaw : State.reset.StoreLaw :=
  ⟨by decide, by decide, by decide, by decide, by simp [State.reset, PresetStore.initial], by decide +kernel, by decide⟩

/-! ## Witnesses: the step, start and record -/

theorem test_meets_StepTakesFrontCommand :
    (State.reset.withPending [.readClock]).pending = .readClock :: [] ∧ State.reset.pending = [] := by decide

theorem test_meets_EveryCommandAnswersNext :
    let s := State.reset.withResetHold (some .pin)
    (∀ r m, Instr.readClock ≠ .start r m) ∧ (∀ k, Instr.readClock ≠ .resetEntered k) ∧ s.resetHold.isSome = true ∧
    after .readClock s = s ∧ (after .carrierStart s).link.carrier = true ∧
    (after .carrierEnd (after .carrierStart s)) = s := by
  refine ⟨?_, ?_, ?_, ?_, ?_, ?_⟩ <;> first | (intros; decide) | simp

/-- A page that is being committed when the station starts. -/
def committing : State := State.reset.setCommit (some (63, List.replicate 16 7))

theorem test_meets_StartEndsThePageWrite :
    committing.MemoryLaw ∧ State.reset.memory.commit = none ∧ (List.replicate 16 (7 : Byte)).length = 16 ∧
    (after (.start .pin .kept) committing).start.cause = .pin ∧
    (after (.start .brownout .kept) committing).start.cause = .brownout ∧
    (after (.start .power .lostInCommit) committing).freeCount = 1 := by
  unfold State.MemoryLaw; decide +kernel

/-- A record of eight bytes whose role is neither AXIS nor HAND: it fails check 1. -/
def badRole : List Byte := checked [8, 2, 1, 0, 3, 25, 0, 10]

theorem test_meets_RefusedRecordChangesOnlyTheVerdict :
    State.reset.resetHold = none ∧ State.reset.start.phase = .loadingRecord ∧
    (after (.recordReadComplete [7]) State.reset).start.verdict = .badCheck ∧
    (after (.recordReadComplete [7]) State.reset).start.recordLength = some 7 ∧
    (after (.recordReadComplete [255]) State.reset).start.verdict = .badCheck ∧
    (after (.recordReadComplete [8, 2, 1, 0, 3, 25, 0, 10, 0, 0]) State.reset).start.verdict = .badCheck ∧
    examine 8 (recordByte badRole 8) = .inl 1 ∧
    (after (.recordReadComplete badRole) State.reset).start.failingCheck = some 1 ∧
    (after .recordAddressTimeout State.reset).start.verdict = .unreadable := by decide +kernel

/-- A record cut short fails the first check that reads a field it does not hold whole, though 0xFF be in range there (R191). -/
theorem test_short_record_fails_first_reader :
    let failed := fun len => match examine len (recordByte (axisBytes 3) len) with
      | .inl n => n
      | .inr _ => 0
    ([8, 9, 10, 14, 43, 46, 48, 49, 57, 58, 64, 65, 87, 91, 100, 101, 107, 112, 113].map failed) =
      [5, 5, 6, 6, 8, 8, 8, 9, 10, 11, 11, 12, 12, 13, 13, 14, 15, 15, 0] := by decide +kernel

/-- The checks of R183: 16 for a hand station, 10 (Vjog above Vmax) and 13 (a partner not listed) for an axis station;
records one byte too short for their roles, and of eight bytes (R191). -/
theorem test_meets_FirstFailingCheckIsReported :
    examine 91 (recordByte (handBytes.set 45 0) 91) = .inl 16 ∧ examine 113 (recordByte ((axisBytes 3).set 54 101) 113) = .inl 10 ∧
    examine 113 (recordByte (axisBytes 2) 113) = .inl 13 ∧ examine 90 (recordByte handBytes 90) = .inl 16 ∧
    examine 112 (recordByte (axisBytes 3) 112) = .inl 15 ∧ (examine 8 (recordByte (axisBytes 3) 8)).isLeft = true ∧
    (examine 8 (recordByte handBytes 8)).isLeft = true ∧
    (examine 113 (recordByte (axisBytes 3) 113)).isRight = true ∧ (examine 91 (recordByte handBytes 91)).isRight = true := by
  decide +kernel

/-- A CRC-16 in four parts, so that each is a short evaluation. -/
theorem crc16_in_parts (bytes : List Byte) (a b c d : CheckWord)
    (h1 : (bytes.take 28).foldl crcByte 0xFFFF#16 = a) (h2 : ((bytes.drop 28).take 28).foldl crcByte a = b)
    (h3 : (((bytes.drop 28).drop 28).take 28).foldl crcByte b = c)
    (h4 : (((bytes.drop 28).drop 28).drop 28).foldl crcByte c = d) : crc16 bytes = d := by
  rw [crc16, ← List.take_append_drop 28 bytes, List.foldl_append, h1, ← List.take_append_drop 28 (bytes.drop 28),
    List.foldl_append, h2, ← List.take_append_drop 28 ((bytes.drop 28).drop 28), List.foldl_append, h3, h4]

/-- Three good records: a guarded axis, one without a guard, a hand station, each with its CRC-16. -/
theorem test_meets_GoodRecordIsHandedToTheBlocks :
    (crc16 (axisBytes 3) = 6850#16 ∧ crc16 (axisBytes 0) = 44202#16 ∧ crc16 handBytes = 248#16) ∧
    (axisBytes 3).length = 113 ∧ (axisBytes 3).head? = some 113 ∧ handBytes.length = 91 ∧
    (examine 113 (recordByte (axisBytes 3) 113)).isRight = true ∧ (examine 113 (recordByte (axisBytes 0) 113)).isRight = true ∧
    (examine 91 (recordByte handBytes 91)).isRight = true := by
  refine ⟨⟨?_, ?_, ?_⟩, ?_⟩
  · exact crc16_in_parts _ 2517#16 51841#16 27626#16 _ (by decide +kernel) (by decide +kernel) (by decide +kernel)
      (by decide +kernel)
  · exact crc16_in_parts _ 2517#16 51841#16 27626#16 _ (by decide +kernel) (by decide +kernel) (by decide +kernel)
      (by decide +kernel)
  · exact crc16_in_parts _ 7913#16 10781#16 33863#16 _ (by decide +kernel) (by decide +kernel) (by decide +kernel)
      (by decide +kernel)
  · decide +kernel

/-- The two records, each field at its offset of R191. -/
theorem test_record_fields :
    examine 113 (recordByte (axisBytes 3) 113) = .inr
      { address := 1, label := 7, framePeriod := 3, fps := 25, clockSource := some 2, tFresh := 10, tStale := 20,
        peers := [⟨2, .stick⟩, ⟨3, .state⟩],
        settings := .axis
          { llo := -100, lhi := 200, vmax := 100, accel := 4, vjog := 20, deadband := 100, expo := 8,
            mappings := [⟨2, 0, 1, 256, none⟩], mode := .mix, fadeRate := 8, trimScale := 512, follow := some 3,
            k := -4096, guard := some 3, l0 := 20000, l1 := 2048, lsafe := 150, interlock := true, parkTime := 10,
            brakeSetTime := 10, brakeReleaseTime := 0, feLimit := 20, feTime := 3, lowPolarity := .activeHigh,
            highPolarity := .activeLow, stepPolarity := .normal } } ∧
    examine 91 (recordByte handBytes 91) = .inr
      { address := 1, label := 7, framePeriod := 3, fps := 25, clockSource := none, tFresh := 10, tStale := 20,
        peers := [], settings := .hand (List.replicate 8 calibration) } := by decide +kernel

/-- What a good record hands to the blocks: the guard's safe limit, the upper limit without a guard, the announce window
of a hand station. -/
theorem test_good_record_reaches_the_blocks :
    let c := fun guard => (match examine 113 (recordByte (axisBytes guard) 113) with
      | .inr r => recordGood r State.reset
      | .inl _ => State.reset).coupling
    (c 3).guardMode = .safe ∧ (c 3).lhiEff = 150 ∧ (c 0).guardMode = .fixed ∧ (c 0).lhiEff = 200 ∧
    let hand := match examine 91 (recordByte handBytes 91) with
      | .inr r => recordGood r State.reset
      | .inl _ => State.reset
    hand.start.phase = .announcing ∧ hand.start.windowTimer = some 0 ∧
    hand.link.current.map (fun f => f.contents.kind) = some .announce ∧ hand.link.phase = .wait := by decide +kernel

/-- An axis station that loads its presets, at a page. -/
def loading (page : Nat) : State :=
  (running .start).withStart { (running .start).start with phase := .loadingPresets, nextPage := page }

theorem test_meets_PageReadLoadsItsEntry :
    (loading 62).resetHold = none ∧ (loading 62).start.phase = .loadingPresets ∧ (loading 62).MemoryLaw ∧
    (after (.presetPageRead .held) (loading 62)).start.nextPage = 63 ∧
    (after (.presetPageRead (.written (Vector.replicate 16 0xFF))) (loading 63)).start.phase = .announcing ∧
    ((after .pageReadTimeout (loading 62)).presets.entry 62).body = .invalid ∧
    (after .pageReadTimeout (loading 63)).start =
      { (loading 63).start with nextPage := 64, phase := .announcing, windowTimer := some 0 } ∧
    (after .pageReadTimeout (loading 63)).link.current.map (fun f => f.contents.kind) = some .announce := by
  unfold State.MemoryLaw; decide +kernel

/-- R98, R99: a page of target −2, its stored-at at the edge of the range or past it. -/
theorem test_meets_PageContentsDecideValidity :
    let page := fun ff : Byte => checked [0xA6, 0xFF, 0xFF, 0xFE, 23, 59, 59, ff, 62, 255] ++ [0, 0, 0, 0]
    (page 24).length = 16 ∧ loadPage 25 (page 24) = .valid (-2) (some ⟨23, 59, 59, 24⟩) (some ⟨62, 255⟩) ∧
    loadPage 25 (page 25) = .valid (-2) none (some ⟨62, 255⟩) ∧
    loadPage 25 (List.replicate 16 0xFF) = .empty ∧ loadPage 25 ((page 24).set 0 0xA5) = .invalid := by decide +kernel

/-- An axis station at a time of its announce window, nothing standing. -/
def announcing (w : Nat) : State :=
  (running .start).withStart { (running .start).start with phase := .announcing, windowTimer := some w }

theorem test_meets_AnnounceFrameIsBuilt :
    (announcing 0).resetHold = none ∧ (announcing 0).link.current = none ∧ (announcing 0).link.line ≠ .free ∧
    (after .announceBuild (announcing 0)).start.windowTimer = some 60 ∧
    (after .announceBuild (announcing 59)).start.windowTimer = some 60 ∧
    (after .announceBuild (announcing 60)).start.windowTimer = some 120 ∧
    (after .announceBuild (announcing 119)).start.windowTimer = some 120 ∧
    (let on := fun l => after .announceBuild ((announcing 0).withLink { (announcing 0).link with line := l })
     (on .gap).link.phase = .wait ∧ (on .free).link.phase = .send) := by decide +kernel

theorem test_meets_WindowEndStartsPeriodicFrames :
    let hand := handStation.withStart { handStation.start with phase := .announcing, windowTimer := some 120 }
    (announcing 120).axis? = some axis ∧ (announcing 120).blend.move = .start ∧ (announcing 120).drive.failureRun < 5 ∧
    (after (.announceWindowEnd true) (announcing 120)).blend.move = .parked ∧
    hand.hand?.isSome = true ∧ (after (.announceWindowEnd false) hand).start.phase = .running ∧
    (after (.announceWindowEnd false) hand).link.current.map (fun f => f.contents.kind) = some .stick := by decide +kernel

/-- R149, R152: the first STATE frame replaces an ANNOUNCE in BACKOFF, waits in the slot beside one on the wire, and begins
its attempt at once on a FREE line. -/
theorem test_first_periodic_frame_meets_the_queue :
    let s := announcing 120
    let at' := fun p l c => (after (.announceWindowEnd true)
      (s.withLink { s.link with current := c, phase := p, line := l, attempts := 3 })).link
    let announce : Frame := ⟨0, .announce ⟨0, 1, 2, 3, 4⟩, none, 0⟩
    let kind := fun f : Option Frame => f.map fun f => f.contents.kind
    kind (at' .backoff .gap (some announce)).current = some .state ∧ (at' .backoff .gap (some announce)).attempts = 3 ∧
    kind (at' .send .busy (some announce)).current = some .announce ∧
    kind (at' .send .busy (some announce)).periodic = some .state ∧ (at' .wait .free none).phase = .send ∧
    (at' .wait .free none).line = .busy ∧ (at' .wait .gap none).phase = .wait := by decide +kernel

theorem test_meets_EndOfStartRaisesWhatStands :
    let s := (announcing 120).withDrive { (announcing 120).drive with failureRun := 5, high := ⟨.active, none⟩ }
    let t := after (.announceWindowEnd false) s
    t.drive.cause = .feedback ∧ t.drive.further = true ∧
    (after (.announceWindowEnd false) (s.withDrive { s.drive with failureRun := 4 })).drive.further = false := by
  decide +kernel

/-! ## Witnesses: the servo chain -/

/-- A STICK entry of a peer, and a mapping of its channel 1 through switch 2. -/
def stickEntry (f : Freshness) (switches : BitVec 16) : PeerEntry :=
  ⟨2, .stick, some 5, f, 0, some (.stick ⟨[0, 3000, 0, 0, 0, 0, 0, 0], switches⟩), none, none, none⟩
def mapping : Mapping := ⟨2, 1, -1, 256, some 2⟩

theorem test_meets_StickValuesCombineIntoJ :
    let value := fun f w => rawValue ⟨[stickEntry f w], []⟩ mapping
    rawValue ⟨[], []⟩ mapping = 0 ∧ value .aging 4 = 2047 ∧ value .fresh 0 = 0 ∧ value .stale 4 = 0 ∧
    combined ⟨[stickEntry .fresh 4], []⟩ [mapping, mapping] = -2047 ∧
    contribution ⟨2, 1, 1, 255, none⟩ (-2047) = -2039 := by decide

theorem test_meets_ShapingStagesFollowTheirFormulas :
    axis.Good ∧ removeDeadband 511 512 = 1 ∧ removeDeadband 511 511 = 0 ∧ bendExpo 16 2047 = 2047 ∧
    (recompute axis (push 5 (running .hold))).stick = ⟨0, false⟩ :=
  ⟨⟨by decide, by decide, by decide, by decide, by decide, by decide⟩, by decide, by decide, by decide, by decide⟩

theorem test_meets_PlanPositionStaysBetween :
    (planAt 0).position = 0 ∧ (planAt 8).position = 65536 ∧ 1 ≤ (planAt 8).n ∧ (planAt 8).k ≤ (planAt 8).n := by decide

theorem test_meets_SetpointRequestFollowsTheBrakingBound :
    let l : MotionLimiter := ⟨15, 16383, 0, 0⟩
    l.stepPos = l.setpoint / 16 ∧ (l.step 16383 1 .hold 134217712 0).lastSteps = 1024 := by decide +kernel

theorem test_meets_SetpointStopsHoldsOrTracks :
    MotionLimiter.step 12 4 .stopping 0 0 ⟨1000, 12, 62, 0⟩ = ⟨1008, 8, 63, 1⟩ ∧
    MotionLimiter.step 12 4 .stopping 0 0 ⟨1000, -3, 62, 0⟩ = ⟨1000, 0, 62, 0⟩ ∧
    MotionLimiter.step 12 4 .parking 50 7 ⟨1000, 1, 62, 3⟩ = ⟨1000, 0, 62, 0⟩ ∧
    MotionLimiter.step 12 4 .fault 50 (-7) ⟨1000, 1, 62, 3⟩ = ⟨-112, 0, -7, 0⟩ := by decide

/-- STATE contents of a partner in a move state, at a position. -/
def stateAt (move : Nat) (position : Int) : StateContents := ⟨move, 0, position, 0, 0, 0, 0, 0, 0, 0, 0⟩
def stateEntry (f : Freshness) (move : Nat) (position : Int) : PeerEntry :=
  ⟨3, .state, some 5, f, 0, some (.state (stateAt move position)), none, none, none⟩

theorem test_meets_PartnersMoveTheTarget :
    let ax := { axis with follow := some 3, k := -1000, guard := some 3, l0 := 20000, l1 := 2048 }
    let s := couplingAccepted ax (stateEntry .fresh 4 (-6000)) (axisWith ax .hold)
    (stateEntry .fresh 4 5).state? = some (stateAt 4 5) ∧ s.coupling.reference = some (-6000) ∧ s.coupling.q = 0 ∧
    s.coupling.lhiEff = 10000 ∧ (formTarget ax s).coupling.g = 0 ∧
    (couplingAccepted axis (stateEntry .fresh 4 9) s).coupling = s.coupling ∧
    (stickEntry .fresh 4).state? = none ∧ couplingAccepted ax (stickEntry .fresh 4) s = s := by decide +kernel

theorem test_meets_PeriodExpiryTracksOutsideServo :
    let s := State.reset.withDrive { State.reset.drive with measured := -3 }
    s.record = none ∧ (after .periodExpiry s).limiter.setpoint = -48 ∧
    handStation.axis? = none ∧ after .periodExpiry handStation = handStation ∧
    (running .parked).presentedVj = 0 ∧ (after .periodExpiry (running .parked)).blend.move = .parked ∧
    (after .periodExpiry (running .fault)).blend.move = .fault := by decide +kernel

theorem test_meets_HoldAndJogAtAnExpiry :
    (running .hold).axis? = some axis ∧ (running .hold).interlockHolds axis = false ∧ (running .hold).holdStays axis ∧
    (after .periodExpiry (push 1 (running .hold))).blend.move = .jog ∧
    (after .periodExpiry (running .jog)).blend.move = .hold ∧
    (after .periodExpiry (push (-1) (running .jog))).blend.c = -1 ∧
    (let locked := fun low high v =>
       let s := push v (running .jog)
       (after .periodExpiry (s.withDrive { s.drive with lowLock := low, highLock := high })).blend.c
     locked true false (-1) = 0 ∧ locked true false 1 = 1 ∧ locked false true 1 = 0 ∧ locked false true (-1) = -1 ∧
     locked true true 1 = 0 ∧ locked true true (-1) = 0) := by
  unfold State.holdStays; decide +kernel

theorem test_meets_PlayFollowsThePlan :
    let add := { axis with mode := .add }
    let s := (axisWith add .play).withBlend { (axisWith add .play).blend with plan := some (planAt 4) }
    (running .play).blend.w = 0 ∧ (playing .play 0).blend.plan = some (planAt 0) ∧
    (after .periodExpiry (playing .play 0)).blend.c = 2816 ∧
    (after .periodExpiry (push 1000 s)).blend.d = 500 ∧ (after .periodExpiry (push 1000 s)).blend.c = 45300 := by
  decide +kernel

theorem test_meets_PushInPlayBeginsTheBlend :
    let fast := (playing .play 2).withBlend { (playing .play 2).blend with plan := some { planAt 2 with f := 1024 } }
    (after .periodExpiry (push 1000 (playing .play 2))).blend.move = .blend ∧
    (after .periodExpiry (push 1000 (playing .play 2))).blend.w = 256 ∧
    (after .periodExpiry (push 1 fast)).blend.move = .jog := by decide +kernel

theorem test_meets_BlendCrossfadesPlanAndStick :
    let s := (playing .blend 4).withBlend { (playing .blend 4).blend with w := 512, pj := 11240, prevC := 22004 }
    (after .periodExpiry s).blend.c = 36410 ∧ (after .periodExpiry s).blend.w = 256 ∧
    (after .periodExpiry (s.withBlend { s.blend with w := 256 })).blend.move = .play ∧
    (after .periodExpiry (push 1 (s.withBlend { s.blend with w := 768 }))).blend.move = .jog := by decide +kernel

theorem test_meets_PlanArrivesAtRest :
    let s := playing .play 8
    (planAt 7).k + 1 = (planAt 7).n ∧ s.atRest = true ∧ s.presentedVj = 0 ∧
    (after .periodExpiry s).blend.move = .hold ∧ (after .periodExpiry s).blend.c = 65536 ∧
    (after .periodExpiry s).sched.report = ⟨some cue1, .arrived, .none⟩ := by decide +kernel

/-- An axis that follows address 3 under the interlock. -/
def follower : AxisSettings := { axis with follow := some 3, interlock := true }
/-- It, in a move state, with its partner reporting a move state. -/
def following (m : MoveState) (partner : Nat) : State := withPeer (axisWith follower m) (stateEntry .fresh partner 0)

theorem test_following_obeys_DriveLaw_and_BlendLaw :
    (following .hold 10).DriveLaw ∧ (following .hold 10).BlendLaw :=
  ⟨⟨by decide, by decide, by decide, by decide⟩,
   ⟨by decide, by decide, by simp [following, withPeer, axisWith, State.reset, BlendEngine.initial],
    by simp [following, withPeer, axisWith, State.reset, BlendEngine.initial], by decide, by decide,
    by simp [following, withPeer, axisWith], by decide, fun _ _ _ => by decide, by decide⟩⟩

theorem test_meets_InterlockStopsTheAxis :
    let s := (following .play 10).withBlend { (following .play 10).blend with plan := some (planAt 1) }
    s.interlockHolds follower = true ∧ (after .periodExpiry s).blend.stopCause = .interlock ∧
    (after .periodExpiry s).sched.report = ⟨some cue1, .abandoned, .faulted⟩ ∧ (after .periodExpiry s).blend.c = 10240 ∧
    (after .periodExpiry (following .hold 10)).blend.move = .stopping ∧
    (after .periodExpiry (push 7 (following .jog 10))).blend.c = 7 ∧
    (let b := (following .blend 10).withBlend { (following .blend 10).blend with
      plan := some (planAt 4), w := 512, pj := 11240, prevC := 22004 }
     (after .periodExpiry b).blend.c = 36410 ∧ (after .periodExpiry b).blend.move = .stopping) := by decide +kernel

theorem test_meets_StopEndsAtRest :
    let s := (running .stopping).withBlend { (running .stopping).blend with stopCause := .halt }
    let i := (following .interlocked 4).withBlend { (following .interlocked 4).blend with stopCause := .interlock }
    (after .periodExpiry s).blend.move = .hold ∧
    (after .periodExpiry (s.withLimiter ⟨0, 1, 0, 0⟩)).blend.move = .stopping ∧
    (after .periodExpiry (following .stopping 10)).blend.move = .interlocked ∧
    (after .periodExpiry i).blend.move = .hold ∧
    (after .periodExpiry (withPeer i (stateEntry .stale 10 0))).blend.move = .interlocked := by decide +kernel

theorem test_meets_ParkingSetsTheBrake :
    let ax := { axis with parkTime := 1 }
    let hold := (axisWith ax .hold).withBlend { (axisWith ax .hold).blend with park := 999 }
    let parking := fun n => (running .parking).withBlend { (running .parking).blend with brake := n }
    hold.atRest = true ∧ (after .parkTimeElapsed hold).blend.move = .parking ∧
    (after .parkTimeElapsed hold).blend.brake = 10 ∧ (after .periodExpiry (parking 2)).blend.brake = 1 ∧
    (after .brakeSetComplete (parking 1)).blend.move = .parked := by decide +kernel

theorem test_meets_ReleaseCompletesIntoPlanOrStick :
    let at' := fun n => (running .releasing).withBlend { (running .releasing).blend with brake := n }
    let waiting := (at' 1).withBlend { (at' 1).blend with waiting := some ⟨65536, 8, cue1, 256, false⟩ }
    (after .periodExpiry (push 1 (running .parked))).blend.brake = 150 ∧
    (after .periodExpiry (push 1 (running .parking))).blend.move = .releasing ∧
    (let ax := { axis with brakeReleaseTime := 0 }
     let parked := (axisWith ax .parked).withDrive { (axisWith ax .parked).drive with measured := 20000 }
     let t := after .periodExpiry (push 1 parked)
     parked.blend.plan = none ∧ parked.blend.waiting = none ∧ t.blend.move = .jog ∧ t.blend.c = 160000 ∧
     (after .periodExpiry (push 1 (axisWith ax .parking))).blend.move = .jog ∧
     (after .periodExpiry (push 1 (withPeer (axisWith { follower with brakeReleaseTime := 0 } .parked)
       (stateEntry .fresh 10 0)))).blend.move = .stopping) ∧
    (after .periodExpiry (at' 2)).blend.brake = 1 ∧ (after .releaseComplete (at' 1)).blend.move = .hold ∧
    (after .releaseComplete (push 1 (at' 1))).blend.move = .jog ∧
    (after .releaseComplete waiting).blend.plan = some (planAt 0) ∧
    (after .releaseComplete ((following .releasing 10).withBlend { (following .releasing 10).blend with brake := 1 })).blend.move
      = .stopping := by decide +kernel

/-! ## Witnesses: cues -/

theorem test_meets_GoStartsThePlan :
    let report := fun s => (fire axis (firing .go) s).sched.report.reason
    report (running .start) = .notReady ∧ report (running .interlocked) = .interlock ∧
    report (running .hold) = .invalidPreset ∧ report (running .releasing) = .invalidPreset ∧
    (stored (running .hold)).presets.target? 3 = some 4096 ∧
    (fire axis (firing .go) (stored (running .hold))).blend.plan = some ⟨0, 65536, 2000, 0, cue1, 256, false⟩ ∧
    (fire axis (firing .go) (stored (running .stopping))).blend.move = .play := by decide +kernel

theorem test_meets_GoWaitsForTheBrake :
    let ax := { axis with brakeReleaseTime := 0 }
    let late := fire axis { firing .go with duration := 150 } (stored (running .parking))
    late.flags = 0x10 ∧ late.blend.waiting = some ⟨65536, 1, cue1, 256, true⟩ ∧
    (fire axis (firing .go) (stored (running .releasing))).blend.waiting.isSome = true ∧
    (fire ax (firing .go) (stored (axisWith ax .parked))).blend.move = .play ∧
    (fire { follower with brakeReleaseTime := 0 } (firing .go) (stored (following .parked 10))).sched.report =
      ⟨some cue1, .abandoned, .faulted⟩ ∧
    (fire follower (firing .go) (stored (following .parked 10))).sched.report = ⟨some cue1, .moving, .none⟩ := by
  decide +kernel

theorem test_meets_HaltAndDisarmWithdrawCues :
    let armed : List ArmedCue := [⟨⟨2, 4⟩, .go, 3, 1, 0, ⟨0, 0, 0, 9⟩⟩, ⟨⟨4, 4⟩, .go, 3, 1, 0, ⟨0, 0, 0, 9⟩⟩]
    let s := fun m => (playing m 1).withSched { State.reset.sched with armed := armed }
    (fire axis (firing .halt) (s .play)).blend.move = .stopping ∧ (fire axis (firing .halt) (s .play)).sched.armed = [] ∧
    (fire axis (firing .halt) (s .releasing)).blend.plan = none ∧
    (fire axis (firing .halt) (s .fault)).blend.move = .fault ∧
    (fire axis (firing .disarm) (s .hold)).sched.armed = armed.drop 1 := by decide +kernel

theorem test_meets_ClearReturnsFromFault :
    let pressed := (running .fault).withDrive { (running .fault).drive with low := ⟨.active, none⟩ }
    (fire axis (firing .clear) (running .hold)).sched.report.phase = .done ∧
    (fire axis (firing .clear) pressed).blend.move = .parked ∧ (fire axis (firing .clear) pressed).drive.lowLock = true ∧
    (fire axis (firing .clear) (pressed.withDrive { pressed.drive with lastRead := .none })).sched.report.reason =
      .faultActive := by decide +kernel

theorem test_meets_StoreCapturesTheCommandedPosition :
    let s := (running .hold).withBlend { (running .hold).blend with c := -17 }
    let t := fire axis (firing .store) s
    (t.presets.entry 3).body = .valid (-2) (some ⟨0, 0, 0, 0⟩) (some cue1) ∧ (t.presets.entry 3).save = .writing ∧
    ((fire axis (firing .store) t).presets.entry 3).save = .waiting ∧
    (fire axis { firing .store with preset := 64 } s).sched.report.reason = .invalidPreset ∧
    (fire axis (firing .store) (running .fault)).sched.report.reason = .notReady := by decide +kernel

/-! ## Witnesses: the Drive Port and the writer -/

theorem test_meets_InputsFilterAndRaise :
    let s := fun m => (running m).withDrive { (running m).drive with low := ⟨.inactive, some true⟩, amp := ⟨.unknown, some true⟩ }
    let go := fun m => after (.drivePortTimerExpiry true true true .amplifier) (s m)
    (go .hold).drive.cause = .drive ∧ (go .hold).drive.further = true ∧ (go .start).blend.move = .start ∧
    (go .fault).drive.further = true ∧ (go .hold).drive.high = ⟨.unknown, some false⟩ ∧
    (after (.drivePortTimerExpiry false true false .lowStop) (s .hold)).blend.move = .hold := by decide +kernel

theorem test_meets_PositionReadTakesOrCounts :
    let s := fun m run => (running m).withDrive { (running m).drive with followingRun := run, failureRun := 4 }
    let read := fun (data : BitVec 24) m run => after (.positionReadComplete true data false) (s m run)
    (read 0xFFFFEB .hold 2).drive.cause = .following ∧ (read 0xFFFFEC .hold 2).drive.followingRun = 0 ∧
    (read 0xFFFFEB .hold 1).drive.followingRun = 2 ∧ (read 0x000015 .parked 2).drive.followingRun = 0 ∧
    (after (.positionReadComplete false 0 false) (s .hold 0)).drive.cause = .feedback ∧
    (after (.positionReadComplete true 9 true) (running .hold)).drive.failureRun = 1 := by decide +kernel

theorem test_meets_FaultEntryStopsTheAxis :
    raise .drive (running .start) = running .start ∧ (raise .drive (running .fault)).drive.further = true ∧
    (raise .drive (playing .play 2)).sched.report = ⟨some cue1, .abandoned, .faulted⟩ ∧
    (raise .drive (running .parked)).blend.move = .fault := by decide +kernel

theorem test_meets_SingleCountsCount :
    let s := running .hold
    let gap := fun l n => (after .backoffRegisterShift (s.withLink { s.link with line := l, gapTimer := n })).link.gapTimer
    (after .stepPulseEmitted (s.withDrive { s.drive with pulses := 1 })).drive.pulses = 0 ∧
    (after .periodCountExpiry (s.withLink { s.link with periodCount := 4294967295 })).link.periodCount = 0 ∧
    (after .backoffRegisterShift (s.withLink { s.link with shiftReg := 0x10001 })).link.shiftReg = 0x00003 ∧
    gap .gap 30 = 31 ∧ gap .lateGap 46 = 47 ∧ gap .free 48 = 48 := by decide +kernel

/-- A station whose writer is at an attempt on page 5, page 3 waiting. -/
def writing (phase : WritePhase) (n : Nat) : State :=
  (running .hold).withPresets
    { State.reset.presets.setSave 3 .waiting with writeBack := [3], inFlight := some ⟨5, n, phase, List.replicate 16 9⟩ }

theorem test_writing_obeys_StoreLaw : (writing .sending 3).StoreLaw ∧ (writing .programming 3).StoreLaw := by
  constructor <;>
  exact ⟨by decide +kernel, by decide, by decide, by decide, by simp [writing], by decide +kernel, by decide⟩

theorem test_meets_WriterTriesThreeTimes :
    let failed := after (.sendingEnd false)
    (writing .sending 3).MemoryLaw ∧
    (after (.sendingEnd true) (writing .sending 1)).memory.commit = some (5, List.replicate 16 9) ∧
    (failed (writing .sending 2)).presets.inFlight.map (fun f => f.attempt) = some 3 ∧
    ((failed (writing .sending 3)).presets.entry 5).save = .unsaved ∧ (failed (writing .sending 3)).flags = 0x04 ∧
    ((after .programmingAcknowledged (writing .programming 1)).presets.entry 5).save = .saved ∧
    ((after .programmingAcknowledged (writing .programming 1)).presets.entry 3).save = .writing ∧
    (after .programmingTimeout (writing .programming 3)).freeCount = 1 ∧
    (after .programmingTimeout (writing .programming 2)).presets.inFlight.map (fun f => f.attempt) = some 3 := by
  unfold State.MemoryLaw; decide +kernel

/-! ## Witnesses: clock, cues and peers -/

/-- A synced clock at a timecode and accumulator. -/
def clockAt (t : Timecode) (acc : Nat) (s : State) : State := s.withClock ⟨t, acc, true⟩

theorem test_running_obeys_ClockLaw : (clockAt ⟨23, 59, 59, 24⟩ 975 (running .hold)).ClockLaw :=
  ⟨by simp [clockAt, running, axisWith], fun r h => by
    obtain rfl : recordOf [] none (.axis axis) = r := by simpa [clockAt, running, axisWith] using h
    decide, by decide⟩

theorem test_meets_ClockCountsFramesAndFires :
    let s := clockAt ⟨23, 59, 59, 24⟩ 975 (running .hold)
    let armed := s.withSched { s.sched with armed := [⟨cue1, .disarm, 0, 0, 0, ⟨0, 0, 0, 0⟩⟩, ⟨⟨2, 1⟩, .go, 0, 0, 0, ⟨0, 0, 0, 1⟩⟩] }
    (after .sceneClockExpiry (clockAt ⟨0, 0, 0, 0⟩ 974 s)).clock.acc = 999 ∧
    (after .sceneClockExpiry s).clock = ⟨⟨0, 0, 0, 0⟩, 0, true⟩ ∧
    (after .frameAdvance armed).sched = ⟨[], ⟨some cue1, .done, .none⟩⟩ ∧
    after .frameAdvance (clockAt ⟨23, 59, 59, 24⟩ 975 handStation) = clockAt ⟨0, 0, 0, 0⟩ 0 handStation := by
  decide +kernel

/-- Entries due at one frame advance (R121): a CLEAR, then a DISARM of source 2 that takes the HALT after it off the list;
source 4's entry of the frame fires last, and an entry of the next frame stays. A HALT that comes first empties the
list. -/
theorem test_due_entries_fire_in_order :
    let at0 : CueId → CueKind → ArmedCue := fun c k => ⟨c, k, 0, 0, 0, ⟨0, 0, 0, 0⟩⟩
    let next : ArmedCue := ⟨⟨4, 8⟩, .halt, 0, 0, 0, ⟨0, 0, 0, 1⟩⟩
    let go := fun armed =>
      after .frameAdvance ((clockAt ⟨23, 59, 59, 24⟩ 975 (running .hold)).withSched { State.reset.sched with armed := armed })
    let mixed := go [at0 ⟨4, 6⟩ .clear, at0 cue1 .disarm, at0 ⟨2, 1⟩ .halt, at0 ⟨4, 7⟩ .store, next]
    mixed.sched = ⟨[next], ⟨some ⟨4, 7⟩, .done, .none⟩⟩ ∧ mixed.stick.latch = false ∧
    (go [at0 cue1 .halt, at0 ⟨4, 7⟩ .store, next]).sched = ⟨[], ⟨some cue1, .done, .none⟩⟩ ∧
    (go [at0 cue1 .halt, next]).stick.latch = true := by decide +kernel

/-- A CUE record: number 9, kind, scope bit 1, preset 3, duration 2000, and a start time or none. -/
def cueRecord (number kind scope timed : Byte) (start : List Byte) : RingRecord :=
  ⟨2, .cue, 0, [number, kind, 0, 0, 0, 0, 0, 0, 0, scope, 3, 0x07, 0xD0, 0, 0, timed] ++ start, 7⟩

/-- A station with the peer 2, the last cue taken from it, and one record in its ring. -/
def hearing (last : Option Nat) (r : RingRecord) (s : State) : State :=
  (withPeer s { stickEntry .fresh 4 with lastCue := last }).withLink { s.link with ring := [r] }

theorem test_meets_CuesAreTakenOnce :
    let s := clockAt ⟨10, 0, 0, 0⟩ 0 (running .hold)
    let report := fun last r => (after (.intakeTake false) (hearing last r s)).sched.report
    (recordOf [] none (.axis axis)).Good ∧
    report (some 8) (cueRecord 9 3 2 0 [0, 0, 0, 0]) = ⟨some cue1, .done, .none⟩ ∧
    report (some 138) (cueRecord 9 3 2 0 [0, 0, 0, 0]) = ⟨some cue1, .done, .none⟩ ∧
    report (some 9) (cueRecord 9 3 2 0 [0, 0, 0, 0]) = s.sched.report ∧
    report (some 137) (cueRecord 9 3 2 0 [0, 0, 0, 0]) = s.sched.report ∧
    report none (cueRecord 9 5 2 0 [0, 0, 0, 0]) = s.sched.report ∧
    report none (cueRecord 9 3 4 0 [0, 0, 0, 0]) = s.sched.report ∧
    report none { cueRecord 9 3 2 0 [0, 0, 0, 0] with source := 3 } = s.sched.report ∧
    (after (.intakeTake true) (hearing none (cueRecord 9 3 2 0 [0, 0, 0, 0]) handStation)).link.ring = [] :=
  ⟨(test_running_obeys_its_laws .hold (by decide)).1.record _ rfl, by decide +kernel⟩

/-- Section 7.4: the worked classification at 25 fps, now 10:00:00:00, with what the report and the flags then show; a
CLEAR that fires posts DONE. -/
theorem test_worked_classification :
    let s := clockAt ⟨10, 0, 0, 0⟩ 0 (running .hold)
    let full := s.withSched { s.sched with
      armed := (List.range 8).map fun n => ⟨⟨4, n⟩, .go, 0, 0, 0, ⟨10, 0, 0, 1⟩⟩ }
    let taken := fun s start => after (.intakeTake false) (hearing none (cueRecord 9 3 2 1 start) s)
    let shown := fun s start => ((taken s start).sched.report.phase, (taken s start).sched.report.reason, (taken s start).flags)
    shown s [10, 0, 0, 0] = (.done, .none, 0) ∧ shown s [9, 59, 59, 24] = (.done, .none, 0x10) ∧
    shown s [9, 59, 59, 23] = (.done, .none, 0x10) ∧ shown s [9, 59, 59, 22] = (.missed, .none, 0x08) ∧
    shown s [10, 0, 0, 1] = (.armed, .none, 0) ∧ shown s [11, 0, 0, 0] = (.armed, .none, 0) ∧
    shown s [11, 0, 0, 1] = (.refused, .tooFar, 0) ∧ shown s [21, 59, 59, 24] = (.refused, .tooFar, 0) ∧
    shown s [22, 0, 0, 0] = (.refused, .tooFar, 0) ∧ shown s [22, 0, 0, 1] = (.missed, .none, 0x08) ∧
    shown s [10, 0, 0, 25] = (.refused, .tooFar, 0) ∧ shown full [10, 0, 0, 1] = (.refused, .listFull, 0) ∧
    shown (s.withClock { s.clock with synced := false }) [10, 0, 0, 0] = (.refused, .unsynced, 0) := by decide +kernel

/-- A STICK record of the peer 2 with a sequence. -/
def stickRecord (seq : Nat) : RingRecord := ⟨2, .stick, seq, List.replicate 24 0, 7⟩

theorem test_meets_IntakeUpdatesItsEntry :
    let s := running .hold
    let entry := fun s => (after (.intakeTake false) s).peers.entries.map fun e => (e.lastSequence, e.age, e.heardAt)
    let hand := hearing none ⟨2, .announce, 0, [0, 1, 2, 3, 4, 5], 7⟩ handStation
    newer 5 132 ∧ ¬newer 5 133 ∧
    entry (hearing none (stickRecord 132) s) = [(some 132, 0, some 7)] ∧
    entry (hearing none (stickRecord 133) s) = [(some 5, 0, none)] ∧
    entry (hearing none { stickRecord 132 with kind := .state } s) = [(some 5, 0, none)] ∧
    entry (hearing none { stickRecord 132 with source := 3 } s) = [(some 5, 0, none)] ∧
    entry (hearing none ⟨2, .announce, 0, [0, 1, 2, 3, 4, 5], 7⟩ s) = [(none, 0, some 7)] ∧
    (after (.intakeTake false) hand).peers.roster.length = 1 := by
  unfold newer; decide +kernel

/-- A running axis station whose clock source is the STICK peer 2, mapped, and a frame of that peer in its ring with a
stamp: every channel at 0. -/
def hearingClock (stamp : List Byte) (s : State) : State :=
  let ax := { axis with mappings := [⟨2, 1, 1, 256, none⟩] }
  (hearing none ⟨2, .stick, 6, List.replicate 18 0 ++ stamp, 7⟩ s).withRecord
    (some (recordOf [⟨2, .stick⟩] (some 2) (.axis ax)))

/-- Section 7.2: the worked comparison at 25 fps, the local clock at 10:00:00:00 with accumulator 500, not yet synced; a
stamp out of range is not compared. -/
theorem test_worked_comparison :
    let s := (running .hold).withClock ⟨⟨10, 0, 0, 0⟩, 500, false⟩
    let heard := fun stamp => (after (.intakeTake false) (hearingClock stamp s)).clock
    heard [10, 0, 0, 0, 2, 28] = ⟨⟨10, 0, 0, 0⟩, 500, true⟩ ∧ heard [10, 0, 0, 0, 2, 38] = ⟨⟨10, 0, 0, 0⟩, 500, true⟩ ∧
    heard [10, 0, 0, 0, 2, 39] = ⟨⟨10, 0, 0, 0⟩, 551, true⟩ ∧ heard [10, 0, 0, 1, 0, 0] = ⟨⟨10, 0, 0, 1⟩, 0, true⟩ ∧
    heard [9, 59, 59, 24, 1, 224] = ⟨⟨9, 59, 59, 24⟩, 480, true⟩ ∧
    heard [23, 59, 59, 24, 3, 222] = ⟨⟨23, 59, 59, 24⟩, 990, true⟩ ∧
    heard [10, 0, 0, 25, 0, 0] = ⟨⟨10, 0, 0, 0⟩, 500, false⟩ ∧
    heard [10, 0, 0, 1, 3, 232] = ⟨⟨10, 0, 0, 0⟩, 500, false⟩ := by decide +kernel

/-- Section 7.6: the worked loads at 25 fps, each by the clock source's stamp; what stays armed, the report and the
flags. -/
theorem test_worked_loads :
    let armed : List ArmedCue := [⟨⟨11, 4⟩, .go, 3, 2000, 0, ⟨10, 0, 0, 20⟩⟩, ⟨⟨11, 5⟩, .store, 4, 0, 0, ⟨10, 0, 1, 10⟩⟩,
      ⟨⟨12, 9⟩, .go, 3, 2000, 0, ⟨10, 0, 5, 0⟩⟩]
    let s := (clockAt ⟨10, 0, 0, 0⟩ 0 (stored (running .hold))).withSched { State.reset.sched with armed := armed }
    let load := fun first ss ff mm => after (.intakeTake first) (hearingClock [if mm = 59 then 9 else 10, mm, ss, ff, 0, 0] s)
    let left := fun t : State => t.sched.armed.map fun e => (e.cue.number, e.remaining 25 (frameNumber 25 t.clock.time))
    let late := load true 1 15 0
    left late = [(9, 85)] ∧ late.sched.report = ⟨some ⟨11, 5⟩, .done, .none⟩ ∧ late.flags = 0x10 ∧
    late.blend.plan.map (fun p => p.late) = some true ∧
    left (load false 1 10 0) = [(9, 90)] ∧ (load false 1 10 0).flags = 0x10 ∧
    left (load false 3 0 0) = [(9, 50)] ∧ (load false 3 0 0).sched.report = ⟨some ⟨11, 5⟩, .missed, .none⟩ ∧
    (load false 3 0 0).flags = 0x08 ∧
    left (load false 50 0 59) = [(4, 270), (5, 285), (9, 375)] ∧ (load false 50 0 59).flags = 0 ∧
    (load false 50 0 59).sched.report = s.sched.report := by decide +kernel

/-- R13: a frame of the mapped clock source whose load fires an armed HALT. Handed to the Scene Clock first, the latch is
set before the recompute and cleared by it; handed to the Stick Shaper first, it is set after it. -/
theorem test_latch_follows_the_order :
    let halt : ArmedCue := ⟨⟨3, 1⟩, .halt, 0, 0, 0, ⟨10, 0, 0, 2⟩⟩
    let s := (clockAt ⟨10, 0, 0, 0⟩ 0 (running .hold)).withSched { State.reset.sched with armed := [halt] }
    let take := fun first => after (.intakeTake first) (hearingClock [10, 0, 0, 2, 0, 0] s)
    (take true).stick.latch = false ∧ (take false).stick.latch = true ∧
    (take true).sched.report = (take false).sched.report := by decide +kernel

/-- Peers 2 and 4, both mapped to full deflections that cancel, of an age, as an axis station holds them. -/
def twoSticks (f : Freshness) (age : Nat) : State :=
  let ax := { axis with mappings := [⟨2, 1, 1, 256, none⟩, ⟨4, 1, -1, 256, none⟩] }
  ((axisWith ax .hold).withPeers { State.reset.peers with
    entries := [{ stickEntry f 4 with age := age }, { stickEntry f 4 with address := 4, age := age }] }).withStick ⟨0, true⟩

theorem test_meets_AgeingChangesFreshness :
    let s := fun f age => withPeer (running .hold) { stickEntry f 4 with age := age }
    let fresh := fun c f age => (after c (s f age)).peers.entries.map fun e => e.freshness
    fresh (.ageingExpiry []) .fresh 9 = [.fresh] ∧ fresh (.entryBecomesAging 2) .fresh 10 = [.aging] ∧
    fresh (.ageingExpiry []) .aging 19 = [.aging] ∧ fresh (.entryBecomesStale 2) .aging 20 = [.stale] ∧
    (after (.ageingExpiry []) (s .aging 20)).flags = 0x80 ∧
    ((twoSticks .aging 20).peers.entries.map fun e => e.address).Nodup ∧
    visitOrder [4] [2, 4] = [4, 2] ∧ visitOrder [4, 2] [2, 4] = [4, 2] ∧ visitOrder [9] [2, 4] = [2, 4] ∧
    (after (.ageingExpiry [4]) (twoSticks .aging 20)).peers.entries.map (fun e => e.freshness) = [.stale, .stale] ∧
    (after (.entryBecomesStale 4) (twoSticks .aging 20)) = after (.ageingExpiry [4]) (twoSticks .aging 20) := by
  decide +kernel

/-! ## Witnesses: the crane link -/

/-- A CUE frame and a STATE frame in the queue. -/
def cueFrame1 : Frame := ⟨0, .cue ⟨9, 0, 2, 3, 2000, 0, 0, ⟨0, 0, 0, 0⟩⟩, none, 0⟩
def stateFrame : Frame := ⟨4, .state (stateAt 4 0), none, 0x81⟩

/-- A station whose current frame stands in a phase, the line in a condition. -/
def sending (f : Frame) (p : SendPhase) (line : LineCondition) : State :=
  (running .hold).withLink { (running .hold).link with current := some f, phase := p, line := line }

theorem test_meets_LineFollowsTheCarrier :
    let s := sending stateFrame .wait
    (after .carrierStart (s .lateGap)).link.line = .lateGap ∧ (after .carrierStart (s .free)).link.line = .busy ∧
    (after .carrierEnd (s .busy)).link.line = .gap ∧ (after .lateGap (s .gap)).link.gapTimer = 32 ∧
    (after .gapEnd (s .lateGap)).link.phase = .send ∧
    (after .gapEnd (sending stateFrame .backoff .lateGap)).link.line = .free := by decide +kernel

/-- R164: a station that starts amid another station's frame finds the line BUSY after its first gap and defers behind it;
one that starts while it drives the line alone finds it FREE. -/
theorem test_start_defers_behind_a_foreign_frame :
    let gap := fun s => after .gapEnd (after .lateGap (after (.start .pin .kept) s))
    let amid := gap (after .carrierStart handStation)
    let alone := gap (sending stateFrame .send .busy)
    amid.link.line = .busy ∧ alone.link.line = .free ∧
    (after (.start .pin .kept) (after .carrierStart handStation)).link.line = .gap ∧
    (after .carrierEnd amid).link.line = .gap := by decide +kernel

/-- R164: a part that enters reset while it drives the line releases it; a foreign frame that begins before the start,
through a second condition of reset, is still deferred to. -/
theorem test_start_defers_behind_a_frame_begun_in_reset :
    let gap := fun s => after .gapEnd (after .lateGap (after (.start .pin .kept) s))
    let driving := (sending stateFrame .send .busy).withLink { (sending stateFrame .send .busy).link with carrier := true }
    let held := after (.resetEntered .pin) driving
    held.link.carrier = false ∧ (gap held).link.line = .free ∧
    (gap (after .carrierStart (after .carrierEnd held))).link.line = .busy ∧
    (gap (after (.resetEntered .brownout) (after .carrierStart held))).link.line = .busy ∧
    (gap (after (.resetEntered .pin) (after .carrierStart handStation))).link.line = .busy ∧
    (gap driving).link.line = .free := by decide +kernel

theorem test_meets_CollisionsBackOff :
    let jam := fun f n r d => (sending f .jam .busy).withLink
      { (sending f .jam .busy).link with attempts := n, round := r, drawn := d }
    (after .collision (sending cueFrame1 .send .busy)).link.attempts = 1 ∧
    stateFrame.isPeriodic = true ∧ (after .jamEnd (jam stateFrame 15 1 1023)).link.backoff = 65472 ∧
    (after .jamEnd (jam stateFrame 15 1 0)).link.phase = .wait ∧
    (after .jamEnd (jam cueFrame1 16 1 0)).link.round = 2 ∧ (after .jamEnd (jam cueFrame1 16 2 0)).link.current = none ∧
    (after .jamEnd (jam stateFrame 16 1 0)).link.current = none ∧
    (let queued := fun f r c p => (after .jamEnd ((jam f 16 r 0).withLink
       { (jam f 16 r 0).link with cueSlots := c, periodic := p })).link
     (queued cueFrame1 2 [] (some stateFrame)).current = some stateFrame ∧
     (queued cueFrame1 2 [cueFrame1] (some stateFrame)).current = some cueFrame1 ∧
     (queued cueFrame1 2 [cueFrame1] (some stateFrame)).periodic = some stateFrame ∧
     (queued stateFrame 1 [cueFrame1] (some stateFrame)).current = some cueFrame1 ∧
     (queued stateFrame 1 [] (some stateFrame)).current = none ∧
     (queued stateFrame 1 [] (some stateFrame)).periodic = none) ∧
    (after .backoffEnd (sending stateFrame .backoff .gap)).link.phase = .wait ∧
    (after .backoffEnd (sending stateFrame .backoff .free)).link.phase = .send := by decide +kernel

theorem test_meets_CompletedFrameLeavesTheQueue :
    let s := (sending stateFrame .send .busy).withFlags 0xA1
    let t := after .attemptComplete (s.withLink { s.link with periodic := some stateFrame })
    (after .attemptComplete s).flags = 0x20 ∧ (after .attemptComplete s).link.current = none ∧
    t.link.current = some { stateFrame with standing := 0 } ∧
    (after .attemptComplete (s.withLink { s.link with cueSlots := [cueFrame1], periodic := some stateFrame })).link.current =
      some cueFrame1 := by decide +kernel

theorem test_meets_PeriodicFrameIsBuilt :
    let on := fun s : State => s.withLink { s.link with periodTimer := true, nextSequence := some 255 }
    (after .framePeriodExpiry (on (running .hold))).link.current.map (fun f => f.sequence) = some 255 ∧
    (after .framePeriodExpiry (on (running .hold))).link.nextSequence = some 0 ∧
    (after .framePeriodExpiry (on (sending stateFrame .backoff .gap))).link.current.map (fun f => f.sequence) = some 255 ∧
    (after .framePeriodExpiry (on (sending cueFrame1 .wait .gap))).link.periodic.isSome = true ∧
    (after .framePeriodExpiry (on handStation)).link.current.map (fun f => f.contents.kind) = some .stick := by
  decide +kernel

theorem test_meets_ReceptionFillsTheRing :
    let s := running .hold
    let full := s.withLink { s.link with ring := List.replicate 8 (stickRecord 1) }
    let busy := s.withLink { s.link with reception := true, acceptMap := acceptMapOf [⟨2, .stick⟩] }
    let frame := checked ([2, 2, 9, 24] ++ List.replicate 24 0)
    (after .startPattern s).link.reception = true ∧ (after .startPattern full).flags = 0x01 ∧
    (after (.endOfReceipt frame true) busy).link.ring = [⟨2, .stick, 9, List.replicate 24 0, 0⟩] ∧
    (after (.endOfReceipt (frame.set 0 3) true) busy).link.ring = [] ∧
    (after (.endOfReceipt frame false) busy).link.reception = false := by decide +kernel

/-! ## Witnesses: hand inputs and the panel line -/

theorem test_meets_HandScanCalibratesAndDebounces :
    let s := handStation.withHand { handStation.hand with history := List.replicate 16 [true, true, true] }
    let t := after (.handSamplerExpiry #v[20, 19, 1023, 512, 268, 756, 1000, 60] 0x8001) s
    handStation.hand? = some (List.replicate 8 calibration) ∧ (List.replicate 8 calibration).length = 8 ∧
    t.hand.values = [-2047, 0, 2047, 0, -1105, 1023, 2047, -2047] ∧ t.hand.faults = 0x02 ∧ t.hand.switches = 0x8001 := by
  decide +kernel

theorem test_meets_HandStationSendsCuesAndSetsTheClock :
    let t := after (.sendCue 0 2 63 60000 1024 1 23 59 59 24) handStation
    handStation.panel.phase = .hunt ∧ t.panel.reply = panelRecord [0x11, 0, 0] ∧ t.panel.nextCue = 1 ∧
    t.link.current.map (fun f => f.contents.kind) = some .cue ∧
    (after (.setClock 23 59 59 24) handStation).clock.time = ⟨23, 59, 59, 24⟩ ∧
    (after (.sendCue 2 2 63 0 0 0 0 0 0 0) (handStation.withLink (sending stateFrame .wait .gap).link)).link.cueSlots.length
      = 1 ∧
    handStation.link.current = none ∧ t.link.phase = .wait ∧
    (after (.sendCue 1 2 0 0 0 0 0 0 0 0)
      (handStation.withLink { handStation.link with line := .free })).link.phase = .send := by decide +kernel

theorem test_meets_ReadsAnswerFromTheState :
    let status := fun c s => ((after c s).panel.reply.drop 3).head?
    let queue := (sending stateFrame .wait .gap).link
    let full := handStation.withLink { queue with cueSlots := List.replicate 4 cueFrame1 }
    status .readClock handStation = some 0 ∧ status (.readPeer 0) handStation = some 2 ∧
    status (.readPeer 62) handStation = some 5 ∧ status (.readRoster 60) handStation = some 0 ∧
    status (.readRoster 61) handStation = some 2 ∧ status (.readCue 1) handStation = some 0 ∧
    status (.readPreset 1) handStation = some 4 ∧ status (.readPreset 63) (running .hold) = some 0 ∧
    status (.readPreset 64) (running .hold) = some 2 ∧ status (.readSelf 8) (running .hold) = some 2 ∧
    status (.readSelf 7) (running .hold) = some 4 ∧ status (.readSelf 4) (running .hold) = some 0 ∧
    status (.sendCue 1 2 0 0 0 0 0 0 0 0) full = some 3 ∧ status (.sendCue 5 2 0 0 0 0 0 0 0 0) handStation = some 2 ∧
    status (.sendCue 1 2 0 0 0 0 0 0 0 0) (running .hold) = some 4 ∧ status (.setClock 0 0 0 0) (running .hold) = some 4 ∧
    status .readClock State.reset = some 4 := by decide +kernel

/-- The bytes of replies, written out from R143, R174 to R176 and R192. -/
theorem test_reply_items :
    let items := fun c s => (((after c s).panel.reply.drop 4).dropLast : List Byte)
    let clocked := handStation.withClock ⟨⟨23, 5, 59, 24⟩, 975, true⟩
    let listed := handStation.withPanel { handStation.panel with recent := [⟨7, .queued⟩, ⟨8, .sent⟩, ⟨9, .lost⟩] }
    let entry : PeerEntry := ⟨3, .stick, some 200, .aging, 258, none, some ⟨⟨1, 2, 3, 4⟩, 999⟩, some 65537, none⟩
    let rostered := handStation.withPeers { handStation.peers with roster := [⟨5, ⟨0, 2, 0x1234, 9, 20⟩, 256⟩] }
    let kept := (running .hold).withPresets
      ((running .hold).presets.setEntry 3 ⟨.valid (-2) none (some ⟨2, 9⟩), .unsaved⟩)
    items .readClock clocked = [23, 5, 59, 24, 0x03, 0xCF, 1, 25, 0, 0xFF] ∧
    items (.readCue 6) listed = [0] ∧ items (.readCue 7) listed = [1] ∧ items (.readCue 8) listed = [2] ∧
    items (.readCue 9) listed = [3] ∧
    items (.readPeer 3) (withPeer handStation entry) = [3, 2, 2, 1, 2, 1, 200, 0, 0xFF, 1, 0, 1, 0, 1,
      1, 1, 2, 3, 4, 0x03, 0xE7, 0] ++ List.replicate 18 0xFF ∧
    items (.readRoster 0) rostered = [1, 1, 5, 0, 2, 0x12, 0x34, 9, 20, 0, 0, 1, 0] ∧
    items (.readRoster 1) rostered = [1, 0] ∧
    items (.readPreset 3) kept = [1, 1, 0xFF, 0xFF, 0xFE, 0, 0xFF, 0xFF, 0xFF, 0xFF, 1, 2, 9, 3, 0, 0xFF, 0xFF] ∧
    items (.readSelf 0) State.reset = [0xFF, 0, 0, 0xFF, 0, 0xFF, 0, 0xFF, 0, 0, 0, 0, 0, 0xFF, 0, 0xFF, 0, 0xFF, 0xFF] := by
  decide +kernel

/-- The bytes of some sections of READ_SELF, written out from R45, R71, R95, R165, R177 and R192; which sections a station
without a record and a hand station serve (R178). -/
theorem test_section_items :
    let served := fun s : State => (List.range 9).filter fun n => (s.selfItems n).isSome
    served State.reset = [0, 5] ∧ served handStation = [0, 1, 2, 7] ∧ served (running .hold) = [0, 1, 2, 3, 4, 5, 6] ∧
    (running .hold).selfItems 1 = some [0, 0xFF, 0xFF, 0xFF, 0xFF, 0xFF, 0, 0, 0, 0, 0, 0, 0, 0, 0, 0, 5] ∧
    (sending stateFrame .backoff .gap).selfItems 1 = some [1, 3, 4, 3, 0, 1, 0, 0, 0, 0, 0, 0, 0, 0, 0, 0, 5] ∧
    State.reset.selfItems 5 = some [0, 0, 0, 0, 2, 2, 2] ∧
    ((playing .play 3).selfItems 3).map (List.take 23) =
      some [0, 0, 0, 6, 2, 1, 0, 0, 0, 0, 0, 1, 0, 0, 0, 8, 0, 3, 2, 9, 1, 0, 0] ∧
    (running .hold).selfItems 4 = some ([0, 0xFF, 0xFF, 0xFF, 0, 0, 0, 0, 0, 0, 2, 0, 0x27, 0x10] ++
      List.replicate 16 0 ++ [0, 12, 0, 4]) ∧
    (running .hold).selfItems 6 = some [0, 0, 0xFF, 0xFF, 0xFF, 64, 0, 0, 64, 0, 0, 0] ∧
    (handStation.selfItems 7).map List.length = some (8 * 3 + 8 * 2 + 1 + 2) := by decide +kernel

/-- The field checks of SEND_CUE and SET_CLOCK at the edges of their ranges, 25 fps, and BUSY behind them (R173, R175). -/
theorem test_panel_field_checks :
    let full := handStation.withLink { (sending stateFrame .wait .gap).link with cueSlots := List.replicate 4 cueFrame1 }
    let status := fun c s => ((after c s).panel.reply.drop 3).head?
    let go := fun p d f t ff => status (.sendCue 0 2 p d f t 23 59 59 ff) full
    go 63 60000 1024 1 24 = some 3 ∧ go 63 1 0 0 25 = some 3 ∧ go 64 1 0 0 0 = some 2 ∧ go 63 0 0 0 0 = some 2 ∧
    go 63 60001 0 0 0 = some 2 ∧ go 63 1 1025 0 0 = some 2 ∧ go 63 1 0 2 0 = some 2 ∧ go 63 1 0 1 25 = some 2 ∧
    status (.sendCue 2 2 64 0 0 0 0 0 0 0) full = some 2 ∧ status (.sendCue 2 2 63 0 2000 0 0 0 0 0) full = some 3 ∧
    status (.sendCue 4 2 64 0 2000 1 24 0 0 0) full = some 2 ∧ status (.sendCue 4 2 64 0 2000 1 0 0 0 0) full = some 3 ∧
    status (.setClock 24 0 0 0) full = some 2 ∧ status (.setClock 0 60 0 0) full = some 2 ∧
    status (.setClock 0 0 60 0) full = some 2 ∧ status (.setClock 0 0 0 25) full = some 2 ∧
    status (.setClock 23 59 59 24) full = some 0 := by decide +kernel

theorem test_meets_ParserFollowsItsPhases :
    let s := fun p b => (running .hold).withPanel { State.reset.panel with phase := p, buffer := b }
    let phase := fun c s => (after c s).panel.phase
    phase (.panelByteReceived 0xA5) (s .hunt []) = .length ∧ phase (.panelByteReceived 250) (s .length [0xA5]) = .body ∧
    phase (.badFrameAtLength 251) (s .length [0xA5]) = .reply ∧ phase (.badFrameAtLength 0) (s .length [0xA5]) = .reply ∧
    phase (.panelByteReceived 0x13) (s .body [0xA5, 1]) = .body ∧
    phase (.panelByteReceived 0x47) (s .body [0xA5, 1, 0x13]) = .reply ∧
    (let reply := fun c b => (after (.panelByteReceived c) (s .body b)).panel.reply
     byteSum [0xA5, 2, 0x13, 0, 0x46] = 0 ∧ reply 0x46 [0xA5, 2, 0x13, 0] = panelRecord [0x13, 1] ∧
     byteSum [0xA5, 1, 0x14, 0x46] = 0 ∧ reply 0x46 [0xA5, 1, 0x14] = panelRecord [0x14, 1] ∧
     reply 0x48 [0xA5, 1, 0x13] = panelRecord [0x13, 1] ∧ reply 0x41 [0xA5, 1, 0x19] = panelRecord [0x19, 2]) ∧
    phase .parserTimeout (s .body [0xA5, 1]) = .hunt ∧ phase .replySent (s .reply []) = .hunt ∧
    (after (.requestUnknownKind 0x19 [] 0x41) (running .hold)).panel.reply = panelRecord [0x19, 2] ∧
    (after (.requestUnknownKind 0x13 [] 0x48) (running .hold)).panel.reply = panelRecord [0x13, 1] := by decide +kernel

/-! ## Witnesses: encodings and laws -/

theorem test_meets_PresetPageLoadsBack :
    loadPage 30 (PresetEntry.page ⟨.valid (-8388608) (some ⟨23, 59, 59, 29⟩) (some ⟨62, 255⟩), .saved⟩) =
      .valid (-8388608) (some ⟨23, 59, 59, 29⟩) (some ⟨62, 255⟩) ∧
    (⟨23, 59, 59, 29⟩ : Timecode).inRange 30 = true := by decide +kernel

theorem test_meets_FramesAreReadBack :
    let c : Contents := .state ⟨10, 5, -8388608, 134217712, -16383, 1023, 62, 255, 7, 11, 0xFF⟩
    let f : Frame := ⟨255, c, none, 0xFF⟩
    c.fits ∧ (goodFrame 61 ((wireBytes 62 f ⟨⟨23, 59, 59, 29⟩, 999⟩).drop 4) true 0).isSome = true ∧
    (goodFrame 62 ((wireBytes 62 f ⟨⟨23, 59, 59, 29⟩, 999⟩).drop 4) true 0) = none := by
  unfold Contents.fits; decide +kernel

/-- A running station with a command in its queue. -/
def stepping : State := (running .hold).withPending [.periodExpiry]

/-- Every law's premises hold of a running station, whose step answers next. -/
theorem test_meets_EveryStepKeepsItsLaws :
    stepping.StartLaw ∧ stepping.DriveLaw ∧ stepping.BlendLaw ∧ stepping.CommandedLaw ∧ stepping.SetpointLaw ∧
    stepping.GuardLaw ∧ stepping.ClockLaw ∧ stepping.ArmedLaw ∧ stepping.LinkLaw ∧ stepping.ListLaw ∧ stepping.StoreLaw ∧
    stepping.MemoryLaw ∧ (∃ t, step stepping = .next t ∧ t.pending = []) := by
  have hax : ∀ ax, stepping.axis? = some ax → ax = axis := fun ax h => by
    simpa [stepping, running, axisWith, State.axis?, recordOf, eq_comm] using h
  have hr : ∀ r, stepping.record = some r → r = recordOf [] none (.axis axis) := fun r h => by
    simpa [stepping, running, axisWith, eq_comm] using h
  obtain ⟨l, d⟩ := test_running_obeys_its_laws .hold (by decide)
  refine ⟨⟨l.loading, l.record, l.axis, l.running⟩, ⟨d.enable, d.brake, d.cause, d.further⟩,
    ⟨by decide, by decide, fun p h => ?_, fun p h => ?_, by decide, by decide, fun _ _ h => absurd h (by decide), by decide,
      fun _ _ _ => by decide, by decide⟩,
    fun ax h _ => hax ax h ▸ by decide, ⟨fun ax h => hax ax h ▸ by decide, by decide, by decide⟩,
    ⟨fun ax h => hax ax h ▸ by decide, fun ax h _ => hax ax h ▸ by decide⟩,
    ⟨fun h => by simp [stepping, running, axisWith] at h, fun r h => hr r h ▸ by decide, by decide⟩,
    ⟨by decide, by decide, by decide, fun _ _ e h => ?_, fun _ _ => by simp [stepping, running, axisWith, State.reset, CueScheduler.initial]⟩,
    ⟨fun f h => by simp [stepping, running, axisWith, State.reset, LinkController.initial] at h,
      fun f h => by simp [stepping, running, axisWith, State.reset, LinkController.initial] at h,
      by decide, by decide, by decide, by decide, by decide, by decide⟩, ⟨by decide, by decide, by decide, by decide⟩,
    ⟨by decide, by decide, by decide, by decide, by simp [stepping, running, axisWith, State.reset, PresetStore.initial],
      by decide +kernel, by decide⟩, by unfold State.MemoryLaw; decide, ?_⟩
  · simp [stepping, running, axisWith, State.reset, BlendEngine.initial] at h
  · simp [stepping, running, axisWith, State.reset, BlendEngine.initial] at h
  · simp [stepping, running, axisWith, State.reset, CueScheduler.initial] at h
  · exact ⟨_, rfl, by decide +kernel⟩

end Sys2Proof.Machine.Tests
end

/-! The Stick Shaper (spec/01_stick_shaping.md): one rule per stage of the chain from a mapping's raw value to the jog
demand, and the statements O14 and O15 assembled from them. -/
namespace Sys2Proof.Machine

/-! ## Truncating division -/

theorem divTrunc_neg (a b : Int) : divTrunc (-a) b = -divTrunc a b := Int.neg_tdiv a b

theorem divTrunc_of_nonneg {a : Int} (h : 0 ≤ a) (b : Int) : divTrunc a b = a / b := Int.tdiv_eq_ediv_of_nonneg h

theorem divTrunc_mul_cancel (a : Int) {b : Int} (h : b ≠ 0) : divTrunc (a * b) b = a := Int.mul_tdiv_cancel a h

theorem natAbs_divTrunc_le {a b : Int} {c : Nat} (h : a.natAbs ≤ b.natAbs * c) : (divTrunc a b).natAbs ≤ c := by
  rw [divTrunc, Int.natAbs_tdiv]
  exact Nat.div_le_of_le_mul h

theorem divTrunc_eq_zero {a b : Int} (h : a.natAbs < b.natAbs) : divTrunc a b = 0 := by
  rw [← Int.natAbs_eq_zero, divTrunc, Int.natAbs_tdiv]
  exact Nat.div_eq_of_lt h

/-! ## Raw value, contribution and combined deflection (R2 to R4) -/

theorem Mapping.enabled_iff (m : Mapping) (c : StickContents) :
    m.enabled c = true ↔ ∀ i, m.enable = some i → c.switches.getLsbD i = true := by
  unfold Mapping.enabled
  cases m.enable <;> simp

theorem rawValue_of_find_none {peers : PeerTable} {m : Mapping} (h : peers.find m.source = none) :
    rawValue peers m = 0 := by
  simp [rawValue, h]

/-- An entry without usable contents: never received, too old, or of another kind. -/
theorem rawValue_of_unusable {peers : PeerTable} {m : Mapping} {e : PeerEntry} (h : peers.find m.source = some e)
    (hu : e.freshness = .silent ∨ e.freshness = .stale ∨ e.stick? = none) : rawValue peers m = 0 := by
  obtain hu | hu | hu := hu
  · simp [rawValue, h, hu]
  · simp [rawValue, h, hu]
  · cases hf : e.freshness <;> simp [rawValue, h, hu, hf]

theorem rawValue_of_usable {peers : PeerTable} {m : Mapping} {e : PeerEntry} {c : StickContents}
    (h : peers.find m.source = some e) (hf : e.freshness = .fresh ∨ e.freshness = .aging) (hc : e.stick? = some c) :
    rawValue peers m = if m.enabled c then clamp (c.values.getD m.channel 0) (-2047) 2047 else 0 := by
  obtain hf | hf := hf <;> simp [rawValue, h, hf, hc, Config.fullStick]

theorem contribution_neg (m : Mapping) (x : Int) : contribution m (-x) = -contribution m x := by
  simp only [contribution, Int.neg_mul, divTrunc_neg, Int.mul_neg]

theorem contribution_of_nonneg (m : Mapping) {x : Int} (h : 0 ≤ x) :
    contribution m x = m.sign * (x * m.gain / 256) := by
  rw [contribution, divTrunc_of_nonneg (Int.mul_nonneg h (Int.natCast_nonneg _))]

theorem contribution_full_gain {m : Mapping} (h : m.gain = 256) (x : Int) : contribution m x = m.sign * x := by
  rw [contribution, h]
  exact congrArg _ (divTrunc_mul_cancel x (by decide))

/-- A gain of at most 256 does not enlarge the raw value. -/
theorem natAbs_contribution_le {m : Mapping} (hs : m.sign = 1 ∨ m.sign = -1) (hg : m.gain ≤ 256) (x : Int) :
    (contribution m x).natAbs ≤ x.natAbs := by
  have hsign : m.sign.natAbs = 1 := by omega
  have hscaled : (x * m.gain).natAbs ≤ Int.natAbs 256 * x.natAbs := by
    rw [Int.natAbs_mul, Int.natAbs_natCast, Nat.mul_comm]
    exact Nat.mul_le_mul_right _ hg
  rw [contribution, Int.natAbs_mul, hsign, Nat.one_mul]
  exact natAbs_divTrunc_le hscaled

theorem natAbs_combined_le (peers : PeerTable) (ms : List Mapping) : (combined peers ms).natAbs ≤ 2047 := by
  obtain ⟨hlo, hhi⟩ := clamp_between ((ms.map fun m => contribution m (rawValue peers m)).sum)
    (lo := -2047) (hi := 2047) (by decide)
  simp only [combined, Config.fullStick]
  omega

/-- Settles O14: the rules of the raw value, the contribution and the clamped sum. -/
theorem stickValuesCombineIntoJ : Obligations.StickValuesCombineIntoJ := by
  refine ⟨fun peers m => ⟨rawValue_of_find_none, fun e he => ⟨rawValue_of_unusable he, fun c hf hc => ⟨?_, ?_⟩⟩⟩,
    fun m x hs hg hx => ⟨?_, contribution_of_nonneg m, contribution_neg m x, fun h => contribution_full_gain h x⟩,
    fun peers ms => ⟨rfl, natAbs_combined_le peers ms⟩⟩
  · intro hclosed
    rw [rawValue_of_usable he hf hc, if_pos ((m.enabled_iff c).2 hclosed), clamp]
  · intro i hi hopen
    have hdisabled : ¬ m.enabled c = true := fun h => by simp [(m.enabled_iff c).1 h i hi] at hopen
    rw [rawValue_of_usable he hf hc, if_neg hdisabled]
  · exact Nat.le_trans (natAbs_contribution_le hs hg x) hx

/-! ## Deadband (R5) -/

theorem removeDeadband_within {d : Nat} {j : Int} (h : j.natAbs ≤ d) : removeDeadband d j = 0 := if_pos h

theorem removeDeadband_beyond {d : Nat} {j : Int} (hd : d ≤ 2047) (h : d < j) :
    removeDeadband d j = (j - d) * 2047 / (2047 - d) := by
  have habs : (j.natAbs : Int) = j := by omega
  have hsign : j.sign = 1 := Int.sign_eq_one_of_pos (by omega)
  rw [removeDeadband, if_neg (by omega), hsign, habs, Int.one_mul, Config.fullStick,
    divTrunc_of_nonneg (by omega)]

theorem removeDeadband_neg (d : Nat) (j : Int) : removeDeadband d (-j) = -removeDeadband d j := by
  simp only [removeDeadband, Int.natAbs_neg, Int.sign_neg, Int.neg_mul]
  split <;> simp

theorem natAbs_removeDeadband_le {d : Nat} {j : Int} (hd : d ≤ 2047) (hj : j.natAbs ≤ 2047) :
    (removeDeadband d j).natAbs ≤ 2047 := by
  by_cases h : j.natAbs ≤ d
  · simp [removeDeadband_within h]
  · have hsign : j.sign.natAbs = 1 := Int.natAbs_sign_of_ne_zero (by omega)
    rw [removeDeadband, if_neg h, Int.natAbs_mul, hsign, Nat.one_mul, Config.fullStick]
    exact natAbs_divTrunc_le (by omega)

theorem removeDeadband_full {d : Nat} (h : d < 2047) : removeDeadband d 2047 = 2047 := by
  rw [removeDeadband_beyond (by omega) (by omega)]
  exact Int.mul_ediv_cancel_left 2047 (by omega)

/-- The first deflection beyond a deadband of at most half the range counts as 1. -/
theorem removeDeadband_first {d : Nat} (h : d ≤ 1023) : removeDeadband d (d + 1) = 1 := by
  rw [removeDeadband_beyond (by omega) (by omega), Int.ediv_eq_iff_of_pos (by omega)]
  omega

theorem removeDeadband_zero (j : Int) : removeDeadband 0 j = j := by
  by_cases h : j.natAbs ≤ 0
  · rw [removeDeadband_within h]
    omega
  · simp only [removeDeadband, if_neg h, Config.fullStick, Int.natCast_zero, Int.sub_zero]
    rw [divTrunc_mul_cancel _ (by decide), Int.sign_mul_natAbs]

/-! ## Expo (R6) -/

theorem bendExpo_numerator_nonneg {e : Nat} {x : Int} (he : e ≤ 16) (hx : 0 ≤ x) :
    0 ≤ x * (16 - e) * 2047 + x * x * e := by
  have hlinear : 0 ≤ x * (16 - e) := Int.mul_nonneg hx (by omega)
  have hsquare : 0 ≤ x * x * e := Int.mul_nonneg (Int.mul_nonneg hx hx) (Int.natCast_nonneg e)
  omega

theorem bendExpo_of_nonneg {e : Nat} {x : Int} (he : e ≤ 16) (hx : 0 ≤ x) :
    bendExpo e x = (x * (16 - e) * 2047 + x * x * e) / (16 * 2047) := by
  have habs : (x.natAbs : Int) = x := by omega
  rw [bendExpo, habs, Config.fullStick, divTrunc_of_nonneg (bendExpo_numerator_nonneg he hx)]

theorem bendExpo_neg (e : Nat) (x : Int) : bendExpo e (-x) = -bendExpo e x := by
  simp only [bendExpo, Int.natAbs_neg, Int.neg_mul, ← Int.neg_add, divTrunc_neg]

/-- The expo only bends towards 0: the squared term is at most full deflection times the linear one. -/
theorem bendExpo_natCast_le {e n : Nat} (he : e ≤ 16) (hn : n ≤ 2047) :
    0 ≤ bendExpo e n ∧ bendExpo e n ≤ n := by
  have hn0 : 0 ≤ (n : Int) := Int.natCast_nonneg n
  have hsquare : (n * n * e : Int) ≤ n * 2047 * e :=
    Int.mul_le_mul_of_nonneg_right (Int.mul_le_mul_of_nonneg_left (by omega) hn0) (Int.natCast_nonneg e)
  rw [bendExpo_of_nonneg he hn0]
  refine ⟨Int.ediv_nonneg (bendExpo_numerator_nonneg he hn0) (by decide), Int.ediv_le_of_le_mul (by decide) ?_⟩
  calc (n * (16 - e) * 2047 + n * n * e : Int) ≤ n * (16 - e) * 2047 + n * 2047 * e :=
      Int.add_le_add_left hsquare _
    _ = n * 2047 * (16 - e + e) := by rw [Int.mul_right_comm, ← Int.mul_add]
    _ = n * (16 * 2047) := by rw [Int.sub_add_cancel, Int.mul_assoc, Int.mul_comm 2047 16]

theorem natAbs_bendExpo_le {e : Nat} {x : Int} (he : e ≤ 16) (hx : x.natAbs ≤ 2047) :
    (bendExpo e x).natAbs ≤ x.natAbs := by
  obtain ⟨hlo, hhi⟩ := bendExpo_natCast_le he hx
  obtain h | h := Int.natAbs_eq x
  · rw [← h] at hlo hhi
    omega
  · have hneg := bendExpo_neg e x.natAbs
    rw [← h] at hneg
    omega

theorem bendExpo_full {e : Nat} (he : e ≤ 16) : bendExpo e 2047 = 2047 := by
  rw [bendExpo_of_nonneg he (by decide)]
  omega

theorem bendExpo_zero (x : Int) : bendExpo 0 x = x := by
  have hlinear : x * (16 - (0 : Nat)) * 2047 + x * x.natAbs * (0 : Nat) = x * (16 * 2047) := by
    rw [Int.natCast_zero, Int.mul_zero, Int.add_zero, Int.sub_zero, Int.mul_assoc]
  rw [bendExpo, Config.fullStick, hlinear, divTrunc_mul_cancel x (by decide)]

/-! ## Jog speed (R7) -/

theorem scaleJog_of_nonneg (v : Nat) {x : Int} (hx : 0 ≤ x) : scaleJog v x = x * v / 2047 :=
  divTrunc_of_nonneg (Int.mul_nonneg hx (Int.natCast_nonneg v)) _

theorem scaleJog_neg (v : Nat) (x : Int) : scaleJog v (-x) = -scaleJog v x := by
  rw [scaleJog, Int.neg_mul, divTrunc_neg, scaleJog]

theorem natAbs_scaleJog_le (v : Nat) {x : Int} (hx : x.natAbs ≤ 2047) : (scaleJog v x).natAbs ≤ v := by
  refine natAbs_divTrunc_le ?_
  rw [Int.natAbs_mul]
  exact Nat.mul_le_mul_right v hx

theorem scaleJog_full (v : Nat) : scaleJog v 2047 = v := by
  rw [scaleJog, Int.mul_comm]
  exact divTrunc_mul_cancel v (by decide)

theorem scaleJog_small {v : Nat} {x : Int} (h : x.natAbs * v < 2047) : scaleJog v x = 0 := by
  refine divTrunc_eq_zero ?_
  rw [Int.natAbs_mul]
  exact h

/-! ## The whole chain and the recompute (R8, R9, R12) -/

/-- Every stage keeps the full range, so the jog speed bounds the demand. -/
theorem natAbs_jogDemand_le {ax : AxisSettings} (good : ax.Good) (peers : PeerTable) :
    (jogDemand ax peers).natAbs ≤ ax.vjog := by
  have hdeadband : (removeDeadband ax.deadband (combined peers ax.mappings)).natAbs ≤ 2047 :=
    natAbs_removeDeadband_le (Nat.le_trans good.deadband (by decide)) (natAbs_combined_le peers ax.mappings)
  exact natAbs_scaleJog_le ax.vjog (Nat.le_trans (natAbs_bendExpo_le good.expo hdeadband) hdeadband)

@[simp] theorem recompute_stick (ax : AxisSettings) (s : State) :
    (recompute ax s).stick = ⟨jogDemand ax s.peers, s.stick.latch && jogDemand ax s.peers != 0⟩ := rfl

/-- A latch that the recompute clears hides nothing: the computed Vj is then 0. -/
theorem recompute_presentedVj (ax : AxisSettings) (s : State) :
    (recompute ax s).presentedVj = if s.stick.latch then 0 else jogDemand ax s.peers := by
  rw [State.presentedVj, recompute_stick]
  cases s.stick.latch
  · rfl
  · by_cases h : jogDemand ax s.peers = 0 <;> simp [h]

/-- Settles O15: the rules of the three stages, of the demand they bound, and of the recompute. -/
theorem shapingStagesFollowTheirFormulas : Obligations.ShapingStagesFollowTheirFormulas := by
  refine ⟨fun d j hd hj => ?_, fun e x he hx => ?_, fun v x hx => ?_, fun ax peers good => ?_, fun ax s => ?_⟩
  · have hrange : d ≤ 2047 := by omega
    exact ⟨removeDeadband_within, removeDeadband_beyond hrange, removeDeadband_neg d j,
      natAbs_removeDeadband_le hrange hj, removeDeadband_full (by omega), removeDeadband_first (by omega),
      removeDeadband_zero j⟩
  · exact ⟨bendExpo_of_nonneg he, bendExpo_neg e x, Nat.le_trans (natAbs_bendExpo_le he hx) hx, bendExpo_full he,
      bendExpo_zero x⟩
  · exact ⟨scaleJog_of_nonneg v, scaleJog_neg v x, natAbs_scaleJog_le v hx, scaleJog_full v, scaleJog_small⟩
  · have hle := natAbs_jogDemand_le good peers
    exact ⟨hle, Nat.le_trans hle good.vjog.2⟩
  · exact ⟨rfl, by simp, recompute_presentedVj ax s, rfl⟩

end Sys2Proof.Machine

/-! The Blend Engine (spec/02_the_blend_engine.md): the plan's course, what a HALT does to each move state, and the
statements O16 and O32 assembled from them. -/
namespace Sys2Proof.Machine

/-! ## The plan's course (R19) -/

theorem planU_zero (n : Nat) : planU 0 n = 0 := by simp [planU]

theorem planU_self {n : Nat} (h : 1 ≤ n) : planU n n = 65536 := Nat.mul_div_cancel_left 65536 h

theorem planU_mono {k k' : Nat} (n : Nat) (h : k ≤ k') : planU k n ≤ planU k' n :=
  Nat.div_le_div_right (Nat.mul_le_mul_right 65536 h)

theorem planU_le {k n : Nat} (hn : 1 ≤ n) (h : k ≤ n) : planU k n ≤ 65536 :=
  planU_self hn ▸ planU_mono n h

/-- The cubic 3 m u² - 2 u³ rises up to u = m: the difference at u ≤ v is v - u times
3 m (u + v) - 2 (u² + u v + v²), and every product in the last bracket is at most m u or m v. -/
theorem smoothstep_mono {u v m : Int} (hu : 0 ≤ u) (huv : u ≤ v) (hv : v ≤ m) :
    u * u * (3 * m - 2 * u) ≤ v * v * (3 * m - 2 * v) := by
  have huu : u * u ≤ m * u := Int.mul_le_mul_of_nonneg_right (by omega) hu
  have huv_left : u * v ≤ m * v := Int.mul_le_mul_of_nonneg_right (by omega) (by omega)
  have huv_right : v * u ≤ m * u := Int.mul_le_mul_of_nonneg_right hv hu
  have hvv : v * v ≤ m * v := Int.mul_le_mul_of_nonneg_right hv (by omega)
  have hfactor : 0 ≤ 3 * m * (u + v) - 2 * (u * u + u * v + v * v) := by grind
  have hdifference : v * v * (3 * m - 2 * v) - u * u * (3 * m - 2 * u) =
      (v - u) * (3 * m * (u + v) - 2 * (u * u + u * v + v * v)) := by grind
  refine Int.sub_nonneg.1 ?_
  rw [hdifference]
  exact Int.mul_nonneg (by omega) hfactor

theorem planE_mono {u v : Nat} (huv : u ≤ v) (hv : v ≤ 65536) : planE u ≤ planE v := by
  refine Nat.div_le_div_right (Int.ofNat_le.1 ?_)
  have hcubic := smoothstep_mono (u := u) (v := v) (m := 65536) (by omega) (by omega) (by omega)
  have hcast : ∀ x : Nat, x ≤ 65536 → ((196608 - 2 * x : Nat) : Int) = 3 * 65536 - 2 * x := by omega
  rw [Int.natCast_mul, Int.natCast_mul, Int.natCast_mul, Int.natCast_mul, hcast u (Nat.le_trans huv hv), hcast v hv]
  exact hcubic

theorem planE_le {u : Nat} (h : u ≤ 65536) : planE u ≤ 65536 := planE_mono h (Nat.le_refl _)

theorem divTrunc_mul_between_of_nonneg {x : Int} (hx : 0 ≤ x) {e m : Nat} (hm : 0 < m) (h : e ≤ m) :
    0 ≤ divTrunc (x * e) m ∧ divTrunc (x * e) m ≤ x := by
  have hnonneg : 0 ≤ x * e := Int.mul_nonneg hx (Int.natCast_nonneg e)
  rw [divTrunc_of_nonneg hnonneg]
  refine ⟨Int.ediv_nonneg hnonneg (Int.natCast_nonneg m), Int.ediv_le_of_le_mul (Int.natCast_pos.2 hm) ?_⟩
  exact Int.mul_le_mul_of_nonneg_left (Int.ofNat_le.2 h) hx

/-- A fraction e / m of a distance, rounded toward 0, lies between 0 and the distance. -/
theorem divTrunc_mul_between (x : Int) {e m : Nat} (hm : 0 < m) (h : e ≤ m) :
    min 0 x ≤ divTrunc (x * e) m ∧ divTrunc (x * e) m ≤ max 0 x := by
  obtain hx | hx := Int.le_total 0 x
  · have hforth := divTrunc_mul_between_of_nonneg hx hm h
    omega
  · have hback := divTrunc_mul_between_of_nonneg (x := -x) (by omega) hm h
    rw [Int.neg_mul, divTrunc_neg] at hback
    omega

theorem Plan.position_between (p : Plan) (hn : 1 ≤ p.n) (hk : p.k ≤ p.n) :
    min p.p0 p.t ≤ p.position ∧ p.position ≤ max p.p0 p.t := by
  have hcourse := divTrunc_mul_between (p.t - p.p0) (m := 65536) (by decide) (planE_le (planU_le hn hk))
  rw [Int.cast_ofNat_Int] at hcourse
  rw [Plan.position]
  omega

theorem Plan.position_start (p : Plan) (h : p.k = 0) : p.position = p.p0 := by
  simp [Plan.position, h, planU_zero, planE, divTrunc]

theorem Plan.position_end (p : Plan) (hn : 1 ≤ p.n) (h : p.k = p.n) : p.position = p.t := by
  have hfull : planE 65536 = 65536 := by decide
  rw [Plan.position, h, planU_self hn, hfull]
  have hwhole : divTrunc ((p.t - p.p0) * (65536 : Nat)) 65536 = p.t - p.p0 := divTrunc_mul_cancel _ (by decide)
  omega

/-- Settles O16: E lies between 0 and 65536 and does not fall while u rises to 65536. -/
theorem planPositionStaysBetween : Obligations.PlanPositionStaysBetween := by
  intro p hn hk
  obtain ⟨hlow, hhigh⟩ := p.position_between hn hk
  exact ⟨rfl, hlow, hhigh, p.position_start, p.position_end hn,
    fun k hle hkn => planE_mono (planU_mono p.n hle) (planU_le hn hkn)⟩

/-! ## HALT and DISARM (R11, R34, R124) -/

/-- A HALT of a moving axis: the plan abandoned, then STOPPING with cause HALT. -/
theorem haltMove_moving {s : State} (h : s.blend.move ∈ [.jog, .play, .blend]) :
    haltMove s = enterMove .stopping (setStopCause .halt (abandon .stopped s)) := by
  simp only [List.mem_cons, List.not_mem_nil, or_false] at h
  obtain h | h | h := h <;> simp only [haltMove, h]

theorem haltMove_releasing {s : State} (h : s.blend.move = .releasing) : haltMove s = abandon .stopped s := by
  simp only [haltMove, h]

/-- In no other move state does a HALT change the axis (R34). -/
theorem haltMove_elsewhere {s : State}
    (h : s.blend.move ∈ [.hold, .stopping, .interlocked, .parking, .parked, .start, .fault]) : haltMove s = s := by
  simp only [List.mem_cons, List.not_mem_nil, or_false] at h
  obtain h | h | h | h | h | h | h := h <;> simp only [haltMove, h]

@[simp] theorem haltCue_blend (cue : CueId) (s : State) : (haltCue cue s).blend = (haltMove s).blend := by
  simp [haltCue]

@[simp] theorem haltCue_drive (cue : CueId) (s : State) : (haltCue cue s).drive = (haltMove s).drive := by
  simp [haltCue]

@[simp] theorem haltCue_stick (cue : CueId) (s : State) :
    (haltCue cue s).stick = { s.stick with latch := true } := by
  simp [haltCue]

/-- The report of an abandonment within the HALT is overwritten by DONE (R126). -/
@[simp] theorem haltCue_sched (cue : CueId) (s : State) : (haltCue cue s).sched = ⟨[], ⟨some cue, .done, .none⟩⟩ := rfl

/-- A HALT changes the Stick Shaper, the Blend Engine, the Drive Port and the Cue Scheduler alone. -/
theorem haltCue_restored (cue : CueId) (s : State) :
    ((((haltCue cue s).withStick s.stick).withBlend s.blend).withDrive s.drive).withSched s.sched = s := by
  apply State.ext <;> simp

theorem fire_halt (ax : AxisSettings) {f : Firing} (h : f.kind = .halt) (s : State) :
    fire ax f s = haltCue f.cue s := by
  simp only [fire, h]

theorem fire_disarm (ax : AxisSettings) {f : Firing} (h : f.kind = .disarm) (s : State) :
    fire ax f s = disarmCue f.cue s := by
  simp only [fire, h]

/-- Settles O32: the HALT by move state, with its frame, and the DISARM. -/
theorem haltAndDisarmWithdrawCues : Obligations.HaltAndDisarmWithdrawCues := by
  refine fun ax f s => ⟨fun hkind => ?_, fun hkind => fire_disarm ax hkind s⟩
  rw [fire_halt ax hkind]
  refine ⟨haltCue_stick f.cue s, haltCue_sched f.cue s, fun hmove => ?_, fun hmove => ?_, fun hmove => ?_,
    haltCue_restored f.cue s⟩
  · simp [haltMove_moving hmove, MoveState.driveEnable, MoveState.brakeOutput]
  · simp [haltMove_releasing hmove]
  · simp [haltMove_elsewhere hmove]

end Sys2Proof.Machine

/-! The Drive Port's part in a CLEAR (spec/05_drive_port_and_faults.md): when it is accepted, what each outcome
does, and the statement O33 assembled from them. -/
namespace Sys2Proof.Machine

/-! ## CLEAR (R43, R91, R93) -/

theorem DrivePort.acceptsClear_iff (d : DrivePort) :
    d.acceptsClear = true ↔ d.amp.state ≠ .active ∧ d.lastRead = .good := by
  simp [DrivePort.acceptsClear]

theorem DrivePort.acceptsClear_eq_false_iff (d : DrivePort) :
    d.acceptsClear = false ↔ d.amp.state = .active ∨ d.lastRead ≠ .good := by
  rw [← Bool.not_eq_true, d.acceptsClear_iff, Decidable.not_and_iff_not_or_not, Decidable.not_not]

/-- Outside FAULT a CLEAR changes the report alone (R43). -/
theorem clearCue_elsewhere (cue : CueId) {s : State} (h : s.blend.move ≠ .fault) :
    clearCue cue s = post cue .done .none s := by
  cases hmove : s.blend.move with
  | fault => exact absurd hmove h
  | _ => simp only [clearCue, hmove]

theorem clearCue_accepted (cue : CueId) {s : State} (h : s.blend.move = .fault)
    (haccept : s.drive.acceptsClear = true) :
    clearCue cue s = post cue .done .none (setLatch (enterMove .parked (s.withDrive s.drive.cleared))) := by
  simp only [clearCue, h, haccept, if_true]

theorem clearCue_refused (cue : CueId) {s : State} (h : s.blend.move = .fault)
    (hrefuse : s.drive.acceptsClear = false) :
    clearCue cue s = post cue .refused .faultActive s := by
  simp only [clearCue, h, hrefuse, Bool.false_eq_true, if_false]

theorem fire_clear (ax : AxisSettings) {f : Firing} (h : f.kind = .clear) (s : State) :
    fire ax f s = clearCue f.cue s := by
  simp only [fire, h]

/-- Settles O33: the CLEAR outside FAULT, refused in FAULT, and accepted, with the outputs of PARKED (R87). -/
theorem clearReturnsFromFault : Obligations.ClearReturnsFromFault := by
  intro ax f s hkind
  rw [fire_clear ax hkind]
  refine ⟨fun hmove => ?_, fun hmove hcondition => ?_, fun hmove hamp hread => ?_⟩
  · rw [clearCue_elsewhere f.cue hmove, post]
  · rw [clearCue_refused f.cue hmove (s.drive.acceptsClear_eq_false_iff.2 hcondition), post]
  · rw [clearCue_accepted f.cue hmove (s.drive.acceptsClear_iff.2 ⟨hamp, hread⟩)]
    rfl

end Sys2Proof.Machine

/-! The Preset Store (spec/06_preset_store.md): the table's entries, how the writer starts, what a capture does to the
table, the list and the writer, and the statement O34 assembled from them. -/
namespace Sys2Proof.Machine

/-! ## The table (R97) -/

theorem PresetStore.entry_setEntry_same {t : PresetStore} {i : Nat} (h : i < t.table.length) (e : PresetEntry) :
    (t.setEntry i e).entry i = e := by
  simp [PresetStore.entry, PresetStore.setEntry, h]

theorem PresetStore.entry_setEntry_ne (t : PresetStore) {i j : Nat} (h : j ≠ i) (e : PresetEntry) :
    (t.setEntry i e).entry j = t.entry j := by
  simp [PresetStore.entry, PresetStore.setEntry, List.getElem?_set_ne h.symm]

/-! ## The writer starts (R104) -/

theorem PresetStore.startWriter_idle {t : PresetStore} {i : Nat} {rest : List Nat} (hidle : t.inFlight = none)
    (hlist : t.writeBack = i :: rest) :
    t.startWriter = ({ t with writeBack := rest }.setSave i .writing).attempt i 1 := by
  simp only [PresetStore.startWriter, hidle, hlist]

theorem PresetStore.startWriter_busy {t : PresetStore} (h : t.inFlight.isSome = true) : t.startWriter = t := by
  obtain ⟨f, hf⟩ := Option.isSome_iff_exists.1 h
  simp only [PresetStore.startWriter, hf]

/-! ## The capture (R101, R105) -/

section Capture

variable {t : PresetStore} {i : Nat} (target : Int) (time : Timecode) (cue : CueId)

theorem PresetStore.capture_entry_same (h : i < t.table.length) :
    (t.capture i target time cue).entry i = ⟨.valid target (some time) (some cue), .waiting⟩ :=
  entry_setEntry_same h _

theorem PresetStore.capture_entry_ne {j : Nat} (h : j ≠ i) :
    (t.capture i target time cue).entry j = t.entry j :=
  entry_setEntry_ne t h _

theorem PresetStore.capture_writeBack :
    (t.capture i target time cue).writeBack = if i ∈ t.writeBack then t.writeBack else t.writeBack ++ [i] := by
  simp [PresetStore.capture, PresetStore.setEntry]

theorem PresetStore.capture_table_length : (t.capture i target time cue).table.length = t.table.length :=
  List.length_set

/-- The busy writer leaves a captured index on the list (R105). -/
theorem PresetStore.startWriter_capture_busy (h : t.inFlight.isSome = true) :
    (t.capture i target time cue).startWriter = t.capture i target time cue :=
  startWriter_busy h

/-- The idle writer, whose list is empty, takes a captured index at once (R104). -/
theorem PresetStore.startWriter_capture_idle (hidle : t.inFlight = none) (hlist : t.writeBack = []) :
    (t.capture i target time cue).startWriter =
      ({ t.capture i target time cue with writeBack := [] }.setSave i .writing).attempt i 1 :=
  startWriter_idle hidle (by simp [capture_writeBack, hlist])

theorem PresetStore.startWriter_capture_entry_idle (hidle : t.inFlight = none) (hlist : t.writeBack = [])
    (h : i < t.table.length) :
    (t.capture i target time cue).startWriter.entry i = ⟨.valid target (some time) (some cue), .writing⟩ := by
  have hcaptured := capture_entry_same target time cue h
  rw [startWriter_capture_idle target time cue hidle hlist]
  calc
    _ = { (t.capture i target time cue).entry i with save := .writing } :=
      entry_setEntry_same (by rwa [capture_table_length]) _
    _ = _ := by rw [hcaptured]

theorem PresetStore.startWriter_capture_body (hlist : t.inFlight = none → t.writeBack = []) (h : i < t.table.length) :
    ((t.capture i target time cue).startWriter.entry i).body = .valid target (some time) (some cue) := by
  cases hwriter : t.inFlight with
  | none => rw [startWriter_capture_entry_idle target time cue hwriter (hlist hwriter) h]
  | some f => rw [startWriter_capture_busy target time cue (by simp [hwriter]), capture_entry_same target time cue h]

/-- A captured index is the only one the writer can take at the capture, so every other entry stands. -/
theorem PresetStore.startWriter_capture_entry_ne (hlist : t.inFlight = none → t.writeBack = []) {j : Nat}
    (h : j ≠ i) :
    (t.capture i target time cue).startWriter.entry j = t.entry j := by
  have hcaptured := capture_entry_ne (t := t) target time cue h
  cases hwriter : t.inFlight with
  | none =>
    rw [startWriter_capture_idle target time cue hwriter (hlist hwriter)]
    exact (entry_setEntry_ne _ h _).trans hcaptured
  | some f => rw [startWriter_capture_busy target time cue (by simp [hwriter]), hcaptured]

end Capture

/-! ## STORE (R100) -/

theorem storeCue_notReady (cue : CueId) (i : Nat) {s : State} (h : s.blend.move = .start ∨ s.blend.move = .fault) :
    storeCue cue i s = post cue .refused .notReady s :=
  if_pos h

theorem storeCue_invalidPreset (cue : CueId) {i : Nat} {s : State} (hstart : s.blend.move ≠ .start)
    (hfault : s.blend.move ≠ .fault) (hi : 64 ≤ i) :
    storeCue cue i s = post cue .refused .invalidPreset s := by
  rw [storeCue, Config.presetCount, if_neg (not_or.2 ⟨hstart, hfault⟩), if_pos hi]

theorem storeCue_taken (cue : CueId) {i : Nat} {s : State} (hstart : s.blend.move ≠ .start)
    (hfault : s.blend.move ≠ .fault) (hi : i < 64) :
    storeCue cue i s = post cue .done .none
      (s.withPresets (s.presets.capture i (s.blend.c / 16) s.clock.time cue).startWriter) := by
  rw [storeCue, Config.presetCount, if_neg (not_or.2 ⟨hstart, hfault⟩), if_neg (Nat.not_le.2 hi),
    divFloor_eq _ (by decide)]
  rfl

theorem fire_store (ax : AxisSettings) {f : Firing} (h : f.kind = .store) (s : State) :
    fire ax f s = storeCue f.cue f.preset s := by
  simp only [fire, h]

/-- Settles O34: both refusals of R100, and the capture with the idle and with the busy writer. -/
theorem storeCapturesTheCommandedPosition : Obligations.StoreCapturesTheCommandedPosition := by
  intro ax f s hkind
  rw [fire_store ax hkind]
  refine ⟨fun hmove => ?_, fun hstart hfault hi => ?_, fun hstart hfault hi hlaw => ?_⟩
  · rw [storeCue_notReady f.cue f.preset hmove, post]
  · rw [storeCue_invalidPreset f.cue hstart hfault hi, post]
  · rw [storeCue_taken f.cue hstart hfault hi]
    have hentry : f.preset < s.presets.table.length := by rwa [hlaw.size]
    simp only [post_frame, State.withPresets_presets]
    refine ⟨PresetStore.startWriter_capture_body _ _ _ hlaw.idle hentry,
      fun j _ hj => PresetStore.startWriter_capture_entry_ne _ _ _ hlaw.idle hj, by simp,
      fun hidle => ?idle, fun hbusy => ?busy, rfl⟩
    case idle =>
      refine ⟨?_, ?_⟩
      · rw [PresetStore.startWriter_capture_entry_idle _ _ _ hidle (hlaw.idle hidle) hentry]
      · rw [PresetStore.startWriter_capture_idle _ _ _ hidle (hlaw.idle hidle)]
        exact ⟨rfl, rfl⟩
    case busy =>
      rw [PresetStore.startWriter_capture_busy _ _ _ hbusy, PresetStore.capture_entry_same _ _ _ hentry]
      exact ⟨rfl, rfl, PresetStore.capture_writeBack _ _ _⟩

end Sys2Proof.Machine

/-! Reception on the crane link (spec/09_the_crane_link.md): the room a start pattern reserves, what makes received bytes
a good frame and what passes the accept map, the two ends of a receipt, and the statement O48 assembled from them. -/
namespace Sys2Proof.Machine

/-! ## The start pattern (R160, R163) -/

theorem SendPhase.onWire_eq_false_iff (p : SendPhase) : p.onWire = false ↔ p = .wait ∨ p = .backoff := by
  cases p <;> simp [SendPhase.onWire]

theorem State.patternDue_iff (s : State) :
    s.patternDue = true ↔
      s.record.isSome = true ∧ (s.link.phase = .wait ∨ s.link.phase = .backoff) ∧ s.link.reception = false := by
  simp only [State.patternDue, Bool.and_eq_true, Bool.not_eq_true', SendPhase.onWire_eq_false_iff, and_assoc]

theorem reserveRoom_free {s : State} (h : s.link.ring.length < 8) :
    reserveRoom s = s.withLink { s.link with reception := true } :=
  if_pos h

theorem reserveRoom_full {s : State} (h : 8 ≤ s.link.ring.length) :
    reserveRoom s = if s.axis?.isSome then s.withFlags (s.flags ||| 0x01) else s :=
  if_neg (Nat.not_lt.2 h)

theorem exec_startPattern_due {s : State} (hrun : s.resetHold = none) (hdue : s.patternDue = true) :
    exec .startPattern s = .next (reserveRoom s) :=
  whenDue_due hrun hdue reserveRoom

/-! ## A good frame (R161) -/

theorem frameKindOf_code (kind : FrameKind) : frameKindOf kind.code = some kind := by
  cases kind <;> rfl

theorem frameKindOf_eq_some_iff {n : Nat} {kind : FrameKind} : frameKindOf n = some kind ↔ n = kind.code := by
  refine ⟨fun h => ?_, fun h => h ▸ frameKindOf_code kind⟩
  unfold frameKindOf at h
  split at h <;> cases h <;> rfl

theorem readNat_two (get : Nat → Byte) (o : Nat) : readNat get o 2 = (get o).toNat * 256 + (get (o + 1)).toNat := by
  simp [readNat]

/-- R161's tests of the received bytes, for a frame of this kind at a station of address `own`. -/
def GoodFrameOf (own : Nat) (bytes : List Byte) (whole : Bool) (kind : FrameKind) : Prop :=
  whole = true ∧ bytes.length = kind.payloadLength + 6 ∧ (bytes.getD 1 0).toNat = kind.code ∧
  (bytes.getD 3 0).toNat = kind.payloadLength ∧ 1 ≤ (bytes.getD 0 0).toNat ∧ (bytes.getD 0 0).toNat ≤ 62 ∧
  (bytes.getD 0 0).toNat ≠ own ∧
  (crc16 (bytes.take (kind.payloadLength + 4))).toNat =
    (bytes.getD (kind.payloadLength + 4) 0).toNat * 256 + (bytes.getD (kind.payloadLength + 5) 0).toNat

/-- The ring record of a frame of this kind (R163). -/
def frameRecord (bytes : List Byte) (kind : FrameKind) (arrival : Nat) : RingRecord :=
  ⟨(bytes.getD 0 0).toNat, kind, (bytes.getD 2 0).toNat, (bytes.drop 4).take kind.payloadLength, arrival⟩

/-- The kind byte fixes the only kind a frame can be good as, so the model's test of that one kind decides it. -/
theorem goodFrame_eq_some_iff {own : Nat} {bytes : List Byte} {whole : Bool} {arrival : Nat} {r : RingRecord} :
    goodFrame own bytes whole arrival = some r ↔
      ∃ kind, GoodFrameOf own bytes whole kind ∧ frameRecord bytes kind arrival = r := by
  simp only [goodFrame, byteAt, readNat_two]
  cases hcode : frameKindOf (bytes.getD 1 0).toNat with
  | none =>
    simp only [reduceCtorEq, false_iff]
    rintro ⟨kind, ⟨-, -, hkind, -⟩, -⟩
    cases (frameKindOf_eq_some_iff.2 hkind).symm.trans hcode
  | some kind =>
    have hkind := frameKindOf_eq_some_iff.1 hcode
    simp only [Option.ite_none_right_eq_some, Option.some.injEq]
    constructor
    · rintro ⟨⟨hwhole, hlength, hcrc, hlen, hlow, hhigh, hother⟩, rfl⟩
      rw [hlen] at hlength hcrc
      exact ⟨kind, ⟨hwhole, hlength, hkind, hlen, hlow, hhigh, hother, hcrc⟩, by rw [hlen, frameRecord]⟩
    · rintro ⟨kind', ⟨hwhole, hlength, hkind', hlen, hlow, hhigh, hother, hcrc⟩, rfl⟩
      obtain rfl : kind' = kind := Option.some.inj ((frameKindOf_eq_some_iff.2 hkind').symm.trans hcode)
      rw [hlen]
      exact ⟨⟨hwhole, hlength, hcrc, rfl, hlow, hhigh, hother⟩, rfl⟩

/-! ## The accept map (R162) -/

/-- R162's filter for a frame of this kind: an ANNOUNCE and a CUE always pass, a STICK and a STATE by the map's bit. -/
def PassesAcceptMap (map : BitVec 64) (bytes : List Byte) (kind : FrameKind) : Prop :=
  kind = .announce ∨ kind = .cue ∨
    map.getLsbD ((crc16 [bytes.getD 0 0, BitVec.ofNat 8 kind.code]).toNat / 1024) = true

theorem acceptIndex_toNat (b : Byte) (code : Nat) :
    acceptIndex b.toNat code = (crc16 [b, BitVec.ofNat 8 code]).toNat / 1024 := by
  rw [acceptIndex, BitVec.ofNat_toNat, BitVec.setWidth_eq]

theorem passesFilter_frameRecord_iff (map : BitVec 64) (bytes : List Byte) (kind : FrameKind) (arrival : Nat) :
    passesFilter map (frameRecord bytes kind arrival) = true ↔ PassesAcceptMap map bytes kind := by
  cases kind <;> simp [passesFilter, frameRecord, PassesAcceptMap, acceptIndex_toNat]

/-! ## The end of receipt (R161 to R163) -/

theorem endReceipt_kept {bytes : List Byte} {whole : Bool} {kind : FrameKind} {s : State}
    (hgood : GoodFrameOf s.address bytes whole kind) (hpass : PassesAcceptMap s.link.acceptMap bytes kind) :
    endReceipt bytes whole s = s.withLink { s.link with
      reception := false, ring := s.link.ring ++ [frameRecord bytes kind s.link.periodCount.toNat] } := by
  have hrecord : goodFrame s.address bytes whole s.link.periodCount.toNat =
      some (frameRecord bytes kind s.link.periodCount.toNat) :=
    goodFrame_eq_some_iff.2 ⟨kind, hgood, rfl⟩
  have hfilter := (passesFilter_frameRecord_iff _ _ _ s.link.periodCount.toNat).2 hpass
  simp only [endReceipt, hrecord, hfilter, if_true]

theorem endReceipt_discarded {bytes : List Byte} {whole : Bool} {s : State}
    (h : ∀ kind, ¬(GoodFrameOf s.address bytes whole kind ∧ PassesAcceptMap s.link.acceptMap bytes kind)) :
    endReceipt bytes whole s = s.withLink { s.link with reception := false } := by
  cases hframe : goodFrame s.address bytes whole s.link.periodCount.toNat with
  | none => simp only [endReceipt, hframe]
  | some r =>
    obtain ⟨kind, hgood, rfl⟩ := goodFrame_eq_some_iff.1 hframe
    have hfilter := mt (passesFilter_frameRecord_iff _ _ _ s.link.periodCount.toNat).1 fun hpass => h kind ⟨hgood, hpass⟩
    simp only [endReceipt, hframe, if_neg hfilter]

theorem exec_endOfReceipt_due {s : State} (hrun : s.resetHold = none) (hdue : s.link.reception = true)
    (bytes : List Byte) (whole : Bool) :
    exec (.endOfReceipt bytes whole) s = .next (endReceipt bytes whole s) :=
  whenDue_due hrun hdue (endReceipt bytes whole)

/-- Settles O48: a start pattern with and without room, and a receipt that ends in a record or in none. -/
theorem receptionFillsTheRing : Obligations.ReceptionFillsTheRing := by
  refine fun s hrun => ⟨fun hrecord hphase hidle => ?_, fun hreception bytes whole => ?_⟩
  · rw [exec_startPattern_due hrun (s.patternDue_iff.2 ⟨hrecord, hphase, hidle⟩)]
    exact ⟨fun hroom => by rw [reserveRoom_free hroom], fun hfull => by rw [reserveRoom_full hfull]⟩
  · rw [exec_endOfReceipt_due hrun hreception]
    exact ⟨fun kind hgood hpass => congrArg _ (endReceipt_kept hgood hpass),
      fun hnone => congrArg _ (endReceipt_discarded hnone)⟩

end Sys2Proof.Machine

/-! The Hand Sampler (spec/10_hand_role_and_panel_line.md, 10.1): a reading's calibration and its fault bit, a switch's
history and its debounced state, what a scan puts at each place, and the statement O49 assembled from them. -/
namespace Sys2Proof.Machine

/-! ## Calibration of a reading (R167) -/

theorem Calibration.faulted_iff (c : Calibration) (r : Nat) :
    c.faulted r = true ↔ (r : Int) < c.lo - 40 ∨ (c.hi : Int) + 40 < r := by
  rw [Calibration.faulted, Bool.or_eq_true, decide_eq_true_iff, decide_eq_true_iff, Config.faultMargin]

theorem Calibration.faulted_eq_false {c : Calibration} {r : Nat} (hlo : (c.lo : Int) - 40 ≤ r)
    (hhi : (r : Int) ≤ c.hi + 40) : c.faulted r = false := by
  rw [← Bool.not_eq_true, c.faulted_iff]
  omega

theorem Calibration.channel_of_faulted {c : Calibration} {r : Nat} (h : c.faulted r = true) : c.channel r = 0 :=
  if_pos h

theorem Calibration.channel_of_not_faulted {c : Calibration} {r : Nat} (h : c.faulted r = false) :
    c.channel r = c.value r := by
  rw [Calibration.channel, h]
  rfl

/-- From the centre up the numerator is not negative, so the division rounds down (R167 step 3). -/
theorem Calibration.value_of_centre_le {c : Calibration} {r : Nat} (h : (c.centre : Int) ≤ r) :
    c.value r = min 2047 (((r : Int) - c.centre) * 2047 / (c.hi - c.centre)) := by
  rw [Calibration.value, Config.fullStick, if_pos (Int.ofNat_le.1 h), divTrunc_of_nonneg (by omega)]

theorem Calibration.value_of_lt_centre {c : Calibration} {r : Nat} (h : (r : Int) < c.centre) :
    c.value r = -(min 2047 (((c.centre : Int) - r) * 2047 / (c.centre - c.lo))) := by
  rw [Calibration.value, Config.fullStick, if_neg (Nat.not_le.2 (Int.ofNat_lt.1 h)), divTrunc_of_nonneg (by omega)]

/-! ## A word built bit by bit -/

/-- The word whose bits from `i` on are those of a list; the fault set and the switch word are both built so. -/
def placeBits {w : Nat} (i : Nat) : List Bool → BitVec w
  | [] => 0
  | b :: rest => (if b then 1#w <<< i else 0) ||| placeBits (i + 1) rest

theorem getLsbD_bitAt {w : Nat} (b : Bool) (i k : Nat) :
    (if b then 1#w <<< i else 0#w).getLsbD k = (b && decide (k = i) && decide (k < w)) := by
  cases b
  · simp
  · simp only [if_true, BitVec.getLsbD_shiftLeft, BitVec.getLsbD_one]
    grind

theorem getLsbD_placeBits_below {w i k : Nat} (bs : List Bool) (h : k < i) :
    (placeBits i bs : BitVec w).getLsbD k = false := by
  induction bs generalizing i with
  | nil => exact BitVec.getLsbD_zero
  | cons b rest ih =>
    rw [placeBits, BitVec.getLsbD_or, ih (Nat.lt_succ_of_lt h)]
    simp [getLsbD_bitAt, Nat.ne_of_lt h]

theorem getLsbD_placeBits {w i j : Nat} {bs : List Bool} {b : Bool} (hb : bs[j]? = some b) (hw : i + j < w) :
    (placeBits i bs : BitVec w).getLsbD (i + j) = b := by
  induction bs generalizing i j with
  | nil => simp at hb
  | cons b' rest ih =>
    cases j with
    | zero =>
      obtain rfl : b' = b := by simpa using hb
      rw [placeBits, BitVec.getLsbD_or, getLsbD_placeBits_below rest (show i + 0 < i + 1 by omega)]
      simpa [getLsbD_bitAt] using fun _ => hw
    | succ j =>
      have hrest : (placeBits (i + 1) rest : BitVec w).getLsbD (i + (j + 1)) = b := by
        rw [Nat.add_comm j 1, ← Nat.add_assoc] at hw ⊢
        exact ih hb hw
      rw [placeBits, BitVec.getLsbD_or, hrest]
      simp [getLsbD_bitAt]

theorem getLsbD_placeBits_zero {w j : Nat} {bs : List Bool} {b : Bool} (hb : bs[j]? = some b) (hw : j < w) :
    (placeBits 0 bs : BitVec w).getLsbD j = b := by
  simpa using getLsbD_placeBits (i := 0) hb (by simpa using hw)

theorem faultSet_eq_placeBits (i : Nat) (pairs : List (Calibration × Nat)) :
    faultSet i pairs = placeBits i (pairs.map fun p => p.1.faulted p.2) := by
  induction pairs generalizing i with
  | nil => rfl
  | cons p rest ih => rw [faultSet, ih, List.map_cons, placeBits]

theorem switchWord_eq_placeBits (standing : BitVec 16) (i : Nat) (hs : List (List Bool)) :
    switchWord standing i hs = placeBits i (hs.mapIdx fun j h => debounce h (standing.getLsbD (i + j))) := by
  induction hs generalizing i with
  | nil => rfl
  | cons h rest ih =>
    simp only [switchWord, ih, List.mapIdx_cons, placeBits, Nat.add_zero, Nat.add_assoc, Nat.add_comm 1]

/-! ## A switch's history and its debounced state (R168) -/

/-- The new sample follows the three latest of those held. -/
theorem pushSample_eq_append (closed : Bool) (h : List Bool) :
    pushSample closed h = (h.reverse.take 3).reverse ++ [closed] := by
  rw [pushSample, List.take_reverse, List.reverse_reverse, List.drop_append_of_le_length (by omega)]
  rfl

theorem pushSample_eq_latest (closed : Bool) (h : List Bool) :
    pushSample closed h = ((h ++ [closed]).reverse.take 4).reverse := by
  simp [pushSample_eq_append]

/-- A history of four alike ends in the new sample, so only that level can be taken. -/
theorem debounce_pushSample (closed : Bool) (h : List Bool) (standing : Bool) :
    debounce (pushSample closed h) standing =
      if h.reverse.take 3 = List.replicate 3 closed then closed else standing := by
  have hfour : ∀ b, pushSample closed h = [b, b, b, b] ↔ h.reverse.take 3 = List.replicate 3 b ∧ closed = b := by
    intro b
    rw [pushSample_eq_append, show [b, b, b, b] = [b, b, b] ++ [b] from rfl, List.append_singleton_inj,
      List.reverse_eq_iff]
    rfl
  cases closed <;> simp [debounce, hfour]

theorem getElem?_pushSamples (closed : BitVec 16) (i j : Nat) (hs : List (List Bool)) :
    (pushSamples closed i hs)[j]? = hs[j]?.map (pushSample (closed.getLsbD (i + j))) := by
  induction hs generalizing i j with
  | nil => rfl
  | cons h rest ih =>
    cases j with
    | zero => rfl
    | succ j =>
      rw [pushSamples, List.getElem?_cons_succ, List.getElem?_cons_succ, ih, Nat.add_right_comm, Nat.add_assoc]

/-! ## One scan, place by place -/

section Scan

variable {cals : List Calibration} {readings : List Nat} (closed : BitVec 16) (sampler : HandSampler)

theorem HandSampler.scan_values_length (h : cals.length = readings.length) :
    (sampler.scan cals readings closed).values.length = readings.length := by
  simp [HandSampler.scan, h]

variable {i : Nat} {c : Calibration} {r : Nat}

theorem HandSampler.scan_values (h : (cals.zip readings)[i]? = some (c, r)) :
    (sampler.scan cals readings closed).values[i]? = some (c.channel r) := by
  simp [HandSampler.scan, h]

theorem HandSampler.scan_faults (h : (cals.zip readings)[i]? = some (c, r)) (hi : i < 8) :
    (sampler.scan cals readings closed).faults.getLsbD i = c.faulted r := by
  have hbit : ((cals.zip readings).map fun p => p.1.faulted p.2)[i]? = some (c.faulted r) := by
    simp [h]
  simp only [HandSampler.scan, faultSet_eq_placeBits]
  exact getLsbD_placeBits_zero hbit hi

variable (cals readings) {sampler} {h : List Bool}

theorem HandSampler.scan_history (hh : sampler.history[i]? = some h) :
    (sampler.scan cals readings closed).history[i]? = some (pushSample (closed.getLsbD i) h) := by
  simp [HandSampler.scan, getElem?_pushSamples, hh]

theorem HandSampler.scan_switches (hh : sampler.history[i]? = some h) (hi : i < 16) :
    (sampler.scan cals readings closed).switches.getLsbD i =
      debounce (pushSample (closed.getLsbD i) h) (sampler.switches.getLsbD i) := by
  have hbit : ((pushSamples closed 0 sampler.history).mapIdx fun j h =>
      debounce h (sampler.switches.getLsbD (0 + j)))[i]? =
        some (debounce (pushSample (closed.getLsbD i) h) (sampler.switches.getLsbD i)) := by
    simp [getElem?_pushSamples, hh]
  simp only [HandSampler.scan, switchWord_eq_placeBits]
  exact getLsbD_placeBits_zero hbit hi

end Scan

/-! ## The command (R166) -/

theorem handScan_hand_station {s : State} {cals : List Calibration} (h : s.hand? = some cals)
    (readings : Vector (BitVec 10) 8) (closed : BitVec 16) :
    handScan readings closed s = s.withHand (s.hand.scan cals (readings.toList.map BitVec.toNat) closed) := by
  simp only [handScan, h]

theorem exec_handSamplerExpiry_running {s : State} (hrun : s.resetHold = none) (readings : Vector (BitVec 10) 8)
    (closed : BitVec 16) :
    exec (.handSamplerExpiry readings closed) s = .next (handScan readings closed s) :=
  whenRunning_running hrun (handScan readings closed)

/-- Settles O49: each channel by its calibration, and each switch by its last four samples. -/
theorem handScanCalibratesAndDebounces : Obligations.HandScanCalibratesAndDebounces := by
  intro readings closed s cals hrun hhand hcals hhistory
  refine ⟨_, exec_handSamplerExpiry_running hrun readings closed, ?_⟩
  rw [handScan_hand_station hhand, State.withHand_hand]
  refine ⟨rfl, by simp [HandSampler.scan], ?_, fun i cal r hcal hr => ?channel, fun i h hh => ?switch⟩
  · rw [HandSampler.scan_values_length] <;> simp [hcals]
  case channel =>
    have hi : i < 8 := hcals ▸ (List.getElem?_eq_some_iff.1 hcal).1
    have hpair : (cals.zip (readings.toList.map BitVec.toNat))[i]? = some (cal, r.toNat) :=
      List.getElem?_zip_eq_some.2 ⟨hcal, by rw [List.getElem?_map, hr, Option.map_some]⟩
    rw [HandSampler.scan_values closed s.hand hpair, HandSampler.scan_faults closed s.hand hpair hi]
    refine ⟨fun houtside => ?_, fun hlo hhi => ?_⟩
    · have hfault := (cal.faulted_iff r.toNat).2 houtside
      exact ⟨by rw [Calibration.channel_of_faulted hfault], hfault⟩
    · have hgood := Calibration.faulted_eq_false hlo hhi
      rw [Calibration.channel_of_not_faulted hgood]
      exact ⟨hgood, fun hup => by rw [Calibration.value_of_centre_le hup],
        fun hdown => by rw [Calibration.value_of_lt_centre hdown]⟩
  case switch =>
    have hi : i < 16 := hhistory ▸ (List.getElem?_eq_some_iff.1 hh).1
    rw [HandSampler.scan_history cals _ closed hh, HandSampler.scan_switches cals _ closed hh hi,
      debounce_pushSample, pushSample_eq_latest]
    exact ⟨rfl, rfl⟩

end Sys2Proof.Machine

/-! What one command can do to a station (spec/95_what_each_step_holds.md): the effects of the crane link and of the panel
line as relations of their own, the effect of any command, and the induction that every law of a step goes through. -/
namespace Sys2Proof.Machine

/-! ## The crane link -/

/-- What a command of the Link Controller does where it is due (R145 to R163). -/
inductive LinkEffect (s : State) : State → Prop where
  | periodCount : LinkEffect s (s.withLink { s.link with periodCount := s.link.periodCount + 1 })
  | bitTime : LinkEffect s (s.withLink (bitTime s.link))
  | carrier (present : Bool) : LinkEffect s (s.withLink { s.link with carrier := present })
  | carrierOn : LinkEffect s (s.withLink s.link.carrierOn)
  | carrierOff : LinkEffect s (s.withLink s.link.carrierOff)
  | lateGap : LinkEffect s (s.withLink { s.link with line := .lateGap, gapTimer := Config.lateGapBits })
  | gapEnds : LinkEffect s (gapEnds s)
  | periodic : LinkEffect s (buildPeriodic s.periodicContents s)
  | collide : s.link.phase = .send → LinkEffect s (collide s)
  | jamEnds : s.link.phase = .jam → LinkEffect s (jamEnds s)
  | backoffEnds : s.link.phase = .backoff → LinkEffect s (enterWait s)
  | completes : LinkEffect s (completeAttempt s)
  | reserves : s.link.reception = false → LinkEffect s (reserveRoom s)
  | receipt (bytes : List Byte) (whole : Bool) : s.link.reception = true → LinkEffect s (endReceipt bytes whole s)

/-- The crane link touches its own block, the event flags and the recent cue list alone. -/
theorem LinkEffect.frame {s t : State} (h : LinkEffect s t) :
    t.start = s.start ∧ t.record = s.record ∧ t.stick = s.stick ∧ t.blend = s.blend ∧ t.coupling = s.coupling ∧
    t.limiter = s.limiter ∧ t.drive = s.drive ∧ t.presets = s.presets ∧ t.memory = s.memory ∧ t.clock = s.clock ∧
    t.sched = s.sched ∧ t.peers = s.peers ∧ t.axis? = s.axis? ∧ t.resetHold = s.resetHold ∧ t.pending = s.pending := by
  cases h <;> simp

/-! ## The panel line -/

/-- A CUE frame enters the queue whatever the Panel Line holds. -/
theorem beginAttempt_withPanel (s : State) (p : PanelLine) :
    beginAttempt (s.withPanel p) = (beginAttempt s).withPanel p := by
  unfold beginAttempt
  cases h : s.link.current with
  | none => simp only [State.withPanel_link, h]
  | some f =>
    simp only [State.withPanel_link, h]
    rfl

theorem enterWait_withPanel (s : State) (p : PanelLine) : enterWait (s.withPanel p) = (enterWait s).withPanel p := by
  unfold enterWait
  by_cases h : s.link.line = .free
  · simpa [h] using beginAttempt_withPanel (s.withLink { s.link with phase := .wait, backoff := 0 }) p
  · simp [h]

theorem enqueueCue_withPanel (f : Frame) (s : State) (p : PanelLine) :
    enqueueCue f (s.withPanel p) = (enqueueCue f s).withPanel p := by
  unfold enqueueCue
  cases h : s.link.current with
  | none => simpa [h, makeCurrent] using
      enterWait_withPanel (s.withLink { s.link with current := some f, attempts := 0, round := 1 }) p
  | some c => simp [h]

/-- What one byte on the panel line does: the parser and the reply alone, a CUE frame queued by SEND_CUE, or the clock
loaded by SET_CLOCK, the last two in hand role (R171, R173, R175). -/
inductive PanelByte (s : State) : State → Prop where
  | panel (p : PanelLine) : p.recent = s.panel.recent → PanelByte s (s.withPanel p)
  | cue (c : CueContents) (p : PanelLine) : s.axis? = none → s.link.cueRoom = true →
      p.recent = addRecent c.number s.panel.recent →
      PanelByte s ((enqueueCue ⟨0, .cue c, none, 0⟩ s).withPanel p)
  | clock (r : Record) (time : Timecode) (p : PanelLine) : s.axis? = none → s.record = some r →
      time.inRange r.fps = true → p.recent = s.panel.recent →
      PanelByte s ((s.withClock { s.clock with time := time, acc := 0 }).withPanel p)

/-- Bytes received one after another. -/
inductive PanelEffect : State → State → Prop where
  | none (s : State) : PanelEffect s s
  | next (s t u : State) : PanelByte s t → PanelEffect t u → PanelEffect s u

theorem PanelEffect.of_byte {s t : State} (h : PanelByte s t) : PanelEffect s t := .next s t t h (.none t)

theorem axis_none_of_hand {s : State} (h : s.hand?.isSome = true) : s.axis? = none := by
  unfold State.hand? at h
  unfold State.axis?
  split at h
  · simp_all
  · simp at h

theorem loadClock_of_no_axis {s : State} (h : s.axis? = none) (fps : Nat) (st : Stamp) :
    loadClock fps st s = s.withClock { s.clock with time := st.time, acc := st.acc } := by
  simp [loadClock, h]

theorem serveReadSelf_state (sect : Nat) (s : State) : (serveReadSelf sect s).state = s := by
  unfold serveReadSelf
  split
  · rfl
  · split <;> rfl

theorem serveReadPeer_state (address : Nat) (s : State) : (serveReadPeer address s).state = s := by
  unfold serveReadPeer
  split
  · rfl
  · split <;> rfl

theorem state_of_refuse_or_give {p : Prop} [Decidable p] (s : State) (v : Status) (items : List Byte) :
    (if p then refuse s v else give s items).state = s := by
  split <;> rfl

theorem readSelf_of_no_record {s : State} {r : Request} (hrec : s.record = none) (h : s.serves r = true) :
    r = .readSelf := by
  cases r <;> simp_all [State.serves]

/-- An answered request leaves the station as it was, but for a SEND_CUE taken and a SET_CLOCK in range. -/
theorem serve_cases (r : Request) (body : List Byte) (s : State) (h : s.serves r = true) :
    (serve r body s).state = s ∨
    (∃ c, s.axis? = none ∧ s.link.cueRoom = true ∧ (serve r body s).state = sendCueTaken c s) ∨
    (∃ rec time, s.axis? = none ∧ s.record = some rec ∧ time.inRange rec.fps = true ∧
      (serve r body s).state = s.withClock { s.clock with time := time, acc := 0 }) := by
  cases hrec : s.record with
  | none =>
    obtain rfl := readSelf_of_no_record hrec h
    exact .inl (by simp only [serve, serveReadSelf_state])
  | some rec =>
    cases r with
    | sendCue =>
      have hax : s.axis? = none := axis_none_of_hand (by simpa [State.serves, hrec] using h)
      simp only [serve, hrec, serveSendCue]
      split
      · exact .inl rfl
      · split
        · exact .inl rfl
        · split
          · exact .inl rfl
          · exact .inr (.inl ⟨_, hax, by simp_all, rfl⟩)
    | setClock =>
      have hax : s.axis? = none := axis_none_of_hand (by simpa [State.serves, hrec] using h)
      simp only [serve, hrec, serveSetClock]
      split
      · next hrange => exact .inr (.inr ⟨rec, _, hax, rfl, hrange, loadClock_of_no_axis hax _ _⟩)
      · exact .inl rfl
    | readSelf => exact .inl (by simp only [serve, serveReadSelf_state])
    | readPeer => exact .inl (by simp only [serve, hrec, serveReadPeer_state])
    | readClock => exact .inl (by simp only [serve, hrec, give])
    | readRoster => exact .inl (by simp only [serve, hrec, state_of_refuse_or_give])
    | readCue => exact .inl (by simp only [serve, hrec, give])
    | readPreset => exact .inl (by simp only [serve, hrec, state_of_refuse_or_give])

/-- A record taken whole is one byte's effect: the reply overwrites the parser's own fields. -/
theorem takeRecord_panelByte (record buffer : List Byte) (s : State) :
    PanelByte s (takeRecord record (setParser .body buffer s)) := by
  have hrefuse : ∀ v, PanelByte s (startReply (byteAt ((record.drop 2).dropLast) 0 0) v []
      (setParser .body buffer s)) := fun v => .panel _ rfl
  unfold takeRecord answerBody
  dsimp only
  split
  · exact hrefuse _
  split
  · exact hrefuse _
  next r _ =>
    split
    · exact hrefuse _
    split
    · exact hrefuse _
    next hserves =>
      obtain h | ⟨c, hax, hroom, h⟩ | ⟨rec, time, hax, hrec, hrange, h⟩ :=
        serve_cases r ((record.drop 2).dropLast) (setParser .body buffer s) (by simpa using hserves)
      · rw [h]
        exact .panel _ rfl
      · rw [h, sendCueTaken, setParser, State.withPanel_withPanel, enqueueCue_withPanel]
        exact .cue c _ hax hroom rfl
      · rw [h]
        exact .clock rec time _ hax hrec hrange rfl

theorem receiveByte_panelByte (s : State) (b : Byte) : PanelByte s (receiveByte s b) := by
  have hidle : PanelByte s s := .panel s.panel rfl
  unfold receiveByte
  dsimp only
  split
  · split
    · exact .panel _ rfl
    · exact hidle
  · split
    · exact .panel _ rfl
    · exact .panel _ rfl
  · split
    · exact takeRecord_panelByte _ _ s
    · exact .panel _ rfl
  · exact hidle

theorem receiveBytes_panelEffect (bytes : List Byte) (s : State) : PanelEffect s (receiveBytes bytes s) := by
  induction bytes generalizing s with
  | nil => exact .none s
  | cons b rest ih => exact .next _ _ _ (receiveByte_panelByte s b) (ih _)

theorem PanelByte.frame {s t : State} (h : PanelByte s t) :
    t.start = s.start ∧ t.record = s.record ∧ t.stick = s.stick ∧ t.blend = s.blend ∧ t.coupling = s.coupling ∧
    t.limiter = s.limiter ∧ t.drive = s.drive ∧ t.presets = s.presets ∧ t.memory = s.memory ∧
    t.sched = s.sched ∧ t.peers = s.peers ∧ t.axis? = s.axis? ∧ t.resetHold = s.resetHold ∧ t.pending = s.pending := by
  cases h <;> simp

/-- The panel line touches its own block, the Link Controller and the Scene Clock alone. -/
theorem PanelEffect.frame {s t : State} (h : PanelEffect s t) :
    t.start = s.start ∧ t.record = s.record ∧ t.stick = s.stick ∧ t.blend = s.blend ∧ t.coupling = s.coupling ∧
    t.limiter = s.limiter ∧ t.drive = s.drive ∧ t.presets = s.presets ∧ t.memory = s.memory ∧
    t.sched = s.sched ∧ t.peers = s.peers ∧ t.axis? = s.axis? ∧ t.resetHold = s.resetHold ∧ t.pending = s.pending := by
  induction h with
  | none s => simp
  | next s t u hbyte _ ih => simp [ih, hbyte.frame]

/-- What every byte keeps, every run of bytes keeps. -/
theorem PanelEffect.keeps {P : State → Prop} (hP : ∀ s t, PanelByte s t → P s → P t) {s t : State}
    (h : PanelEffect s t) (hs : P s) : P t := by
  induction h with
  | none s => exact hs
  | next s t u hbyte _ ih => exact ih (hP _ _ hbyte hs)

/-! ## Any command -/

/-- What a command does to the station it runs on, by the operation it calls; the several commands of one timer's expiry
(log 3) and the requests of the panel line share a case. -/
inductive Effect (s : State) : State → Prop where
  | idle : Effect s s
  | starts (released : StartCause) (m : MemorySupply) : Effect s (beginStart released m s)
  | resets (condition : StartCause) :
      Effect s (((releaseLine s).withResetHold (some (worst s.resetHold condition))).withStart
        { s.start with windowTimer := none })
  | reads (bytes : List Byte) : s.start.phase = .loadingRecord → Effect s (recordRead bytes s)
  | unreadable : s.start.phase = .loadingRecord → Effect s (refuseRecord .unreadable none s)
  | page (page : PageRead) : s.start.phase = .loadingPresets → Effect s (pageRead page s)
  | pageLost : s.start.phase = .loadingPresets → Effect s (loadEntry .invalid s)
  | announces : Effect s (buildAnnounce (s.withStart { s.start with windowTimer := nextAnnounce s.start.windowTimer }))
  | opens (frameFirst : Bool) : s.start.phase = .announcing → Effect s (windowEnds frameFirst s)
  | period : Effect s (periodExpiry s)
  | inputs (low high amp : Bool) (first : InputLine) : s.driveWorks = true → Effect s (sampleInputs low high amp first s)
  | position (idle : Bool) (data : BitVec 24) (error : Bool) : s.driveWorks = true →
      Effect s (positionRead idle data error s)
  | pulse : Effect s (s.withDrive { s.drive with pulses := s.drive.pulses - 1 })
  | clock : Effect s (clockExpiry s)
  | intake (clockFirst : Bool) : Effect s (takeOldest clockFirst s)
  | ageing (order : List Nat) : Effect s (ageingExpiry order s)
  | sent (acknowledged : Bool) : Effect s (sendingEnd acknowledged s)
  | programmed : Effect s (programmingDone s)
  | notProgrammed : Effect s (programmingFailed s)
  | hand (readings : Vector (BitVec 10) 8) (closed : BitVec 16) : Effect s (handScan readings closed s)
  | link (t : State) : LinkEffect s t → Effect s t
  | panel (t : State) : PanelEffect s t → Effect s t

theorem whenRunning_effect {s t : State} {f : State → State} (h : whenRunning s f = .next t) (hf : Effect s (f s)) :
    Effect s t := by
  unfold whenRunning at h
  split at h <;> cases h
  · exact .idle
  · exact hf

theorem whenDue_effect {s t : State} {due : Bool} {f : State → State} (h : whenDue due s f = .next t)
    (hf : due = true → Effect s (f s)) : Effect s t := by
  refine whenRunning_effect h ?_
  split
  · next hdue => exact hf hdue
  · exact .idle

theorem carrierChange_effect {s t : State} {present : Bool} {f : State → State}
    (h : carrierChange present f s = .next t) (hf : Effect s (f s)) : Effect s t := by
  unfold carrierChange at h
  split at h <;> cases h
  · exact .link _ (.carrier present)
  · exact hf

/-- Every command has one of these effects. -/
theorem exec_effect {c : Instr} {s t : State} (h : exec c s = .next t) : Effect s t := by
  have hrequest : ∀ (r : Request) (fields : List Byte), Effect s (receiveRequest r fields s) :=
    fun r fields => .panel _ (receiveBytes_panelEffect _ s)
  cases c with
  | start released m => cases h; exact .starts released m
  | resetEntered condition => cases h; exact .resets condition
  | recordReadComplete bytes => exact whenDue_effect h (fun hdue => .reads bytes (by simpa using hdue))
  | recordAddressTimeout => exact whenDue_effect h (fun hdue => .unreadable (by simpa using hdue))
  | presetPageRead page => exact whenDue_effect h (fun hdue => .page page (by simpa using hdue))
  | pageReadTimeout => exact whenDue_effect h (fun hdue => .pageLost (by simpa using hdue))
  | announceBuild =>
    unfold exec execAnnounceBuild at h
    exact whenDue_effect h (fun _ => .announces)
  | announceWindowEnd b => exact whenDue_effect h (fun hdue => .opens b (by simp_all))
  | periodExpiry => exact whenRunning_effect h .period
  | parkTimeElapsed => exact whenDue_effect h (fun _ => .period)
  | brakeSetComplete => exact whenDue_effect h (fun _ => .period)
  | releaseComplete => exact whenDue_effect h (fun _ => .period)
  | drivePortTimerExpiry low high amp first => exact whenDue_effect h (.inputs low high amp first)
  | positionReadComplete idle data error => exact whenDue_effect h (.position idle data error)
  | sceneClockExpiry => exact whenRunning_effect h .clock
  | frameAdvance => exact whenDue_effect h (fun _ => .clock)
  | intakeTake b => exact whenRunning_effect h (.intake b)
  | ageingExpiry order => exact whenRunning_effect h (.ageing order)
  | entryBecomesAging a => exact whenDue_effect h (fun _ => .ageing [a])
  | entryBecomesStale a => exact whenDue_effect h (fun _ => .ageing [a])
  | sendingEnd b => exact whenRunning_effect h (.sent b)
  | programmingAcknowledged => exact whenRunning_effect h .programmed
  | programmingTimeout => exact whenRunning_effect h .notProgrammed
  | periodCountExpiry =>
    unfold exec execPeriodCountExpiry at h
    exact whenRunning_effect h (.link _ .periodCount)
  | framePeriodExpiry => exact whenDue_effect h (fun _ => .link _ .periodic)
  | carrierStart =>
    unfold exec execCarrierStart at h
    exact carrierChange_effect h (.link _ .carrierOn)
  | carrierEnd =>
    unfold exec execCarrierEnd at h
    refine carrierChange_effect h ?_
    split
    · exact .idle
    · exact .link _ .carrierOff
  | lateGap =>
    unfold exec execLateGap at h
    exact whenDue_effect h (fun _ => .link _ .lateGap)
  | gapEnd => exact whenDue_effect h (fun _ => .link _ .gapEnds)
  | collision => exact whenDue_effect h (fun hdue => .link _ (.collide (by simpa using hdue)))
  | jamEnd => exact whenDue_effect h (fun hdue => .link _ (.jamEnds (by simpa using hdue)))
  | backoffEnd => exact whenDue_effect h (fun hdue => .link _ (.backoffEnds (by simpa using hdue)))
  | attemptComplete => exact whenDue_effect h (fun _ => .link _ .completes)
  | startPattern => exact whenDue_effect h (fun hdue => .link _ (.reserves (s.patternDue_iff.1 hdue).2.2))
  | endOfReceipt bytes whole => exact whenDue_effect h (fun hdue => .link _ (.receipt bytes whole hdue))
  | backoffRegisterShift =>
    unfold exec execBackoffRegisterShift at h
    exact whenRunning_effect h (.link _ .bitTime)
  | handSamplerExpiry readings closed => exact whenRunning_effect h (.hand readings closed)
  | stepPulseEmitted =>
    unfold exec execStepPulseEmitted at h
    exact whenDue_effect h (fun _ => .pulse)
  | badFrameAtLength b =>
    unfold exec execBadFrameAtLength at h
    exact whenDue_effect h (fun _ => .panel _ (receiveBytes_panelEffect [b] s))
  | panelByteReceived b =>
    unfold exec execPanelByteReceived at h
    exact whenRunning_effect h (.panel _ (receiveBytes_panelEffect [b] s))
  | parserTimeout => exact whenDue_effect h (fun _ => .panel _ (.of_byte (.panel _ rfl)))
  | replySent =>
    unfold exec execReplySent at h
    exact whenDue_effect h (fun _ => .panel _ (.of_byte (.panel _ rfl)))
  | requestUnknownKind kind fields check => exact whenDue_effect h (fun _ => .panel _ (receiveBytes_panelEffect _ s))
  | sendCue => exact whenRunning_effect h (hrequest _ _)
  | setClock => exact whenRunning_effect h (hrequest _ _)
  | readClock => exact whenRunning_effect h (hrequest _ _)
  | readPeer => exact whenRunning_effect h (hrequest _ _)
  | readRoster => exact whenRunning_effect h (hrequest _ _)
  | readCue => exact whenRunning_effect h (hrequest _ _)
  | readPreset => exact whenRunning_effect h (hrequest _ _)
  | readSelf => exact whenRunning_effect h (hrequest _ _)

/-- What every effect keeps, and what does not read the queue, every step keeps. -/
theorem step_keeps {P : State → Prop} (hqueue : ∀ s q, P s → P (s.withPending q))
    (heffect : ∀ s t, Effect s t → P s → P t) {s t : State} (h : step s = .next t) (hs : P s) : P t := by
  unfold step at h
  split at h
  · cases h; exact hs
  · exact heffect _ _ (exec_effect h) (hqueue _ _ hs)

end Sys2Proof.Machine

/-! The configuration record (spec/11_configuration_and_start.md, 11.2; R191): the numbers its bytes spell, its peer list and
its mapping table, the numbered checks in their order, and the statement O7 assembled from them. -/
namespace Sys2Proof.Machine

/-! ## Numbers spelled by bytes -/

theorem toNat_eq_iff_byte (b : Byte) (n : Nat) (h : n < 256) : b.toNat = n ↔ b = BitVec.ofNat 8 n := by
  rw [← BitVec.toNat_inj, BitVec.toNat_ofNat, Nat.mod_eq_of_lt h]

theorem byte_toNat_inj {a b : Byte} : a.toNat = b.toNat ↔ a = b := BitVec.toNat_inj

theorem readNat_three (get : Nat → Byte) (o : Nat) :
    readNat get o 3 = (get o).toNat * 65536 + (get (o + 1)).toNat * 256 + (get (o + 2)).toNat := by
  simp only [readNat, Nat.add_zero]
  omega

theorem toNat_append_byte {w : Nat} (a : BitVec w) (b : Byte) : (a ++ b).toNat = a.toNat * 256 + b.toNat := by
  rw [BitVec.toNat_append, Nat.shiftLeft_eq, ← Nat.shiftLeft_eq, ← Nat.shiftLeft_add_eq_or_of_lt b.isLt, Nat.shiftLeft_eq]

theorem readInt_two (get : Nat → Byte) (o : Nat) : readInt get o 2 = (get o ++ get (o + 1)).toInt := by
  rw [readInt, BitVec.toInt_eq_toNat_cond, readNat_two, toNat_append_byte]
  rfl

theorem readInt_three (get : Nat → Byte) (o : Nat) :
    readInt get o 3 = (get o ++ get (o + 1) ++ get (o + 2)).toInt := by
  have hsum : (get o).toNat * 65536 + (get (o + 1)).toNat * 256 + (get (o + 2)).toNat =
      ((get o).toNat * 256 + (get (o + 1)).toNat) * 256 + (get (o + 2)).toNat := by omega
  rw [readInt, BitVec.toInt_eq_toNat_cond, readNat_three, toNat_append_byte, toNat_append_byte, hsum]
  rfl

theorem absentZero_eq (b : Byte) : absentZero b = if b.toNat = 0 then none else some b.toNat := by
  simp only [absentZero, toNat_eq_iff_byte b 0 (by decide)]
  rfl

/-! ## The peer list (check 6) -/

/-- The peer entry that two bytes spell, when its kind is one of the two. -/
def peerAt (get : Nat → Byte) (o : Nat) : PeerSpec :=
  ⟨(get o).toNat, if (get (o + 1)).toNat = 2 then .stick else .state⟩

/-- The two bytes of a peer entry are in range (R183 check 6). -/
def PeerInRange (get : Nat → Byte) (own o : Nat) : Prop :=
  1 ≤ (get o).toNat ∧ (get o).toNat ≤ 62 ∧ (get o).toNat ≠ own ∧ ((get (o + 1)).toNat = 2 ∨ (get (o + 1)).toNat = 3)

theorem readPeerSpec_eq_some_iff {get : Nat → Byte} {own o : Nat} {p : PeerSpec} :
    readPeerSpec get own o = some p ↔ PeerInRange get own o ∧ peerAt get o = p := by
  unfold readPeerSpec PeerInRange peerAt peerKindOf
  dsimp only
  split
  · next k hk => split at hk <;> simp_all
  · next hk => split at hk <;> simp_all

theorem readPeers_eq_some_iff {get : Nat → Byte} {own o n : Nat} {l : List PeerSpec} :
    readPeers get own o n = some l ↔
      (∀ i, i < n → PeerInRange get own (o + 2 * i)) ∧
      (∀ i j, i < j → j < n → get (o + 2 * i) ≠ get (o + 2 * j)) ∧
      (List.range n).map (fun i => peerAt get (o + 2 * i)) = l := by
  induction n generalizing o l with
  | zero => simp [readPeers]
  | succ n ih =>
    have hshift : ∀ i, o + 2 + 2 * i = o + 2 * (i + 1) := fun i => by omega
    have htail : (List.range (n + 1)).map (fun i => peerAt get (o + 2 * i)) =
        peerAt get o :: (List.range n).map (fun i => peerAt get (o + 2 + 2 * i)) := by
      simp only [List.range_succ_eq_map, List.map_cons, List.map_map, Function.comp_def, hshift]
      rfl
    have hstep : readPeers get own o (n + 1) = some l ↔ ∃ p rest, readPeerSpec get own o = some p ∧
        readPeers get own (o + 2) n = some rest ∧ (∀ x ∈ rest, x.address ≠ p.address) ∧ p :: rest = l := by
      simp only [readPeers]
      split
      · next p rest hp hrest => simp [hp, hrest]
      · next h => simp only [reduceCtorEq, false_iff]; rintro ⟨p, rest, hp, hrest, -⟩; exact h p rest hp hrest
    rw [hstep, htail]
    constructor
    · rintro ⟨p, rest, hp, hrest, hfresh, rfl⟩
      obtain ⟨hhead, rfl⟩ := readPeerSpec_eq_some_iff.1 hp
      obtain ⟨hrange, hdistinct, rfl⟩ := ih.1 hrest
      refine ⟨fun i hi => ?_, fun i j hij hj => ?_, rfl⟩
      · cases i with
        | zero => exact hhead
        | succ i => exact hshift i ▸ hrange i (by omega)
      · obtain ⟨j, rfl⟩ : ∃ k, j = k + 1 := ⟨j - 1, by omega⟩
        rw [← hshift j]
        cases i with
        | zero =>
          have := hfresh (peerAt get (o + 2 + 2 * j)) (List.mem_map.2 ⟨j, List.mem_range.2 (by omega), rfl⟩)
          exact fun h => this (congrArg BitVec.toNat h.symm)
        | succ i => rw [← hshift i]; exact hdistinct i j (by omega) (by omega)
    · rintro ⟨hrange, hdistinct, rfl⟩
      refine ⟨_, _, readPeerSpec_eq_some_iff.2 ⟨hrange 0 (by omega), rfl⟩,
        ih.2 ⟨fun i hi => hshift i ▸ hrange (i + 1) (by omega),
          fun i j hij hj => by rw [hshift, hshift]; exact hdistinct _ _ (by omega) (by omega), rfl⟩, ?_, rfl⟩
      simp only [List.mem_map, List.mem_range]
      rintro x ⟨j, hj, rfl⟩ h
      exact hdistinct 0 (j + 1) (by omega) (by omega) (hshift j ▸ (byte_toNat_inj.1 h).symm)

/-- The peer list as R191 places it. -/
def peersAt (get : Nat → Byte) : List PeerSpec :=
  (List.range (get 10).toNat).map fun i => peerAt get (11 + 2 * i)

theorem readPeerList_eq_some_iff {get : Nat → Byte} {l : List PeerSpec} :
    readPeerList get (get 2).toNat = some l ↔ peerListGood get ∧ peersAt get = l := by
  have hrange : ∀ i, PeerInRange get (get 2).toNat (11 + 2 * i) ↔ 1 ≤ (get (11 + 2 * i)).toNat ∧
      (get (11 + 2 * i)).toNat ≤ 62 ∧ get (11 + 2 * i) ≠ get 2 ∧ (get (12 + 2 * i) = 2 ∨ get (12 + 2 * i) = 3) := by
    intro i
    have hnext : 11 + 2 * i + 1 = 12 + 2 * i := by omega
    simp only [PeerInRange, hnext, ne_eq, byte_toNat_inj, toNat_eq_iff_byte _ 2 (by decide),
      toNat_eq_iff_byte _ 3 (by decide)]
    rfl
  simp only [readPeerList, peerListGood, peersAt]
  split
  · next hn => simp only [readPeers_eq_some_iff, hrange, hn, true_and, and_assoc]
  · next hn => simp [hn]

theorem readPeerList_isSome_iff (get : Nat → Byte) :
    (readPeerList get (get 2).toNat).isSome = true ↔ peerListGood get := by
  simp [Option.isSome_iff_exists, readPeerList_eq_some_iff]

theorem readPeerList_getD {get : Nat → Byte} (h : peerListGood get) :
    readPeerList get (get 2).toNat = some (peersAt get) := readPeerList_eq_some_iff.2 ⟨h, rfl⟩

theorem listed_stick_iff (get : Nat → Byte) (b : Byte) :
    listed (peersAt get) b.toNat .stick = true ↔ peerListed get b 2 := by
  simp only [listed, peersAt, peerListed, List.any_map, List.any_eq_true, List.mem_range, Function.comp_apply, peerAt,
    Bool.and_eq_true, beq_iff_eq, byte_toNat_inj]
  refine exists_congr fun i => and_congr_right fun _ => and_congr_right fun _ => ?_
  simp only [show 11 + 2 * i + 1 = 12 + 2 * i by omega, toNat_eq_iff_byte _ 2 (by decide)]
  by_cases hkind : get (12 + 2 * i) = 2#8
  · exact iff_of_true (if_pos hkind) hkind
  · rw [if_neg hkind]
    exact iff_of_false (fun h => nomatch h) hkind

theorem listed_state_iff {get : Nat → Byte} (hgood : peerListGood get) (b : Byte) :
    listed (peersAt get) b.toNat .state = true ↔ peerListed get b 3 := by
  simp only [listed, peersAt, peerListed, List.any_map, List.any_eq_true, List.mem_range, Function.comp_apply, peerAt,
    Bool.and_eq_true, beq_iff_eq, byte_toNat_inj]
  refine exists_congr fun i => and_congr_right fun hi => and_congr_right fun _ => ?_
  obtain ⟨-, hrange, -⟩ := hgood
  obtain ⟨-, -, -, hkind⟩ := hrange i hi
  simp only [show 11 + 2 * i + 1 = 12 + 2 * i by omega, toNat_eq_iff_byte _ 2 (by decide)]
  obtain h | h := hkind <;> simp [h]

/-! ## The mapping table (check 11) -/

/-- The mapping that six bytes spell, when they are in range. -/
def mappingAt (get : Nat → Byte) (o : Nat) : Mapping :=
  ⟨(get o).toNat, (get (o + 1)).toNat, if get (o + 2) = 0xFF then -1 else 1, readNat get (o + 3) 2,
    if get (o + 5) = 0xFF then none else some (get (o + 5)).toNat⟩

/-- The six bytes of a mapping are in range (R183 check 11). -/
def MappingInRange (get : Nat → Byte) (peers : List PeerSpec) (o : Nat) : Prop :=
  listed peers (get o).toNat .stick = true ∧ (get (o + 1)).toNat ≤ 7 ∧ (get (o + 2) = 0x01 ∨ get (o + 2) = 0xFF) ∧
  readNat get (o + 3) 2 ≤ 256 ∧ ((get (o + 5)).toNat ≤ 15 ∨ get (o + 5) = 0xFF)

theorem signOf_eq_some_iff {b : Byte} {x : Int} :
    signOf b = some x ↔ (b = 0x01 ∨ b = 0xFF) ∧ (if b = 0xFF then -1 else 1) = x := by
  unfold signOf
  by_cases h1 : b = 0x01
  · subst h1; simp
  by_cases h2 : b = 0xFF
  · subst h2; simp
  simp only [h1, h2, if_false, or_self, false_and, reduceCtorEq]

theorem switchOf_eq_some_iff {b : Byte} {x : Option Nat} :
    switchOf b = some x ↔ (b.toNat ≤ 15 ∨ b = 0xFF) ∧ (if b = 0xFF then none else some b.toNat) = x := by
  unfold switchOf
  by_cases h : b = 0xFF
  · subst h; simp
  simp only [h, if_false, or_false, Option.ite_none_right_eq_some, Option.some.injEq]

theorem readMapping_eq_some_iff {get : Nat → Byte} {peers : List PeerSpec} {o : Nat} {m : Mapping} :
    readMapping get peers o = some m ↔ MappingInRange get peers o ∧ mappingAt get o = m := by
  unfold readMapping MappingInRange mappingAt
  dsimp only
  split
  · next sign enable hsign henable =>
    obtain ⟨hsigns, rfl⟩ := signOf_eq_some_iff.1 hsign
    obtain ⟨hswitch, rfl⟩ := switchOf_eq_some_iff.1 henable
    simp only [Option.ite_none_right_eq_some, Option.some.injEq, hsigns, hswitch, true_and, and_true]
    exact and_congr_left fun _ => ⟨fun ⟨hchannel, hgain, hlisted⟩ => ⟨hlisted, hchannel, hgain⟩,
      fun ⟨hlisted, hchannel, hgain⟩ => ⟨hchannel, hgain, hlisted⟩⟩
  · next h =>
    simp only [reduceCtorEq, false_iff]
    rintro ⟨⟨-, -, hsigns, -, hswitch⟩, -⟩
    exact h _ _ (signOf_eq_some_iff.2 ⟨hsigns, rfl⟩) (switchOf_eq_some_iff.2 ⟨hswitch, rfl⟩)

theorem readMappings_eq_some_iff {get : Nat → Byte} {peers : List PeerSpec} {o n : Nat} {l : List Mapping} :
    readMappings get peers o n = some l ↔
      (∀ i, i < n → MappingInRange get peers (o + 6 * i)) ∧
      (List.range n).map (fun i => mappingAt get (o + 6 * i)) = l := by
  induction n generalizing o l with
  | zero => simp [readMappings]
  | succ n ih =>
    have hshift : ∀ i, o + 6 + 6 * i = o + 6 * (i + 1) := fun i => by omega
    have htail : (List.range (n + 1)).map (fun i => mappingAt get (o + 6 * i)) =
        mappingAt get o :: (List.range n).map (fun i => mappingAt get (o + 6 + 6 * i)) := by
      simp only [List.range_succ_eq_map, List.map_cons, List.map_map, Function.comp_def, hshift]
      rfl
    have hstep : readMappings get peers o (n + 1) = some l ↔ ∃ m rest, readMapping get peers o = some m ∧
        readMappings get peers (o + 6) n = some rest ∧ m :: rest = l := by
      simp only [readMappings]
      split
      · next m rest hm hrest => simp [hm, hrest]
      · next h => simp only [reduceCtorEq, false_iff]; rintro ⟨m, rest, hm, hrest, -⟩; exact h m rest hm hrest
    rw [hstep, htail]
    constructor
    · rintro ⟨m, rest, hm, hrest, rfl⟩
      obtain ⟨hhead, rfl⟩ := readMapping_eq_some_iff.1 hm
      obtain ⟨hrange, rfl⟩ := ih.1 hrest
      refine ⟨fun i hi => ?_, rfl⟩
      cases i with
      | zero => exact hhead
      | succ i => exact hshift i ▸ hrange i (by omega)
    · rintro ⟨hrange, rfl⟩
      exact ⟨_, _, readMapping_eq_some_iff.2 ⟨hrange 0 (by omega), rfl⟩,
        ih.2 ⟨fun i hi => hshift i ▸ hrange (i + 1) (by omega), rfl⟩, rfl⟩

/-- The mapping table as R191 places it. -/
def mappingsAt (get : Nat → Byte) : List Mapping :=
  (List.range (get 58).toNat).map fun i => mappingAt get (59 + 6 * i)

theorem readMappingTable_eq_some_iff {get : Nat → Byte} {l : List Mapping} :
    readMappingTable get (peersAt get) = some l ↔ mappingTableGood get ∧ mappingsAt get = l := by
  have hrange : ∀ i, MappingInRange get (peersAt get) (59 + 6 * i) ↔
      peerListed get (get (59 + 6 * i)) 2 ∧ (get (60 + 6 * i)).toNat ≤ 7 ∧
      (get (61 + 6 * i) = 0x01 ∨ get (61 + 6 * i) = 0xFF) ∧ readNat get (62 + 6 * i) 2 ≤ 256 ∧
      ((get (64 + 6 * i)).toNat ≤ 15 ∨ get (64 + 6 * i) = 0xFF) := by
    intro i
    rw [MappingInRange, listed_stick_iff]
    simp only [show 59 + 6 * i + 1 = 60 + 6 * i by omega, show 59 + 6 * i + 2 = 61 + 6 * i by omega,
      show 59 + 6 * i + 3 = 62 + 6 * i by omega, show 59 + 6 * i + 5 = 64 + 6 * i by omega]
  simp only [readMappingTable, mappingTableGood, mappingsAt]
  split
  · next hn => simp only [readMappings_eq_some_iff, hrange, hn, true_and]
  · next hn => simp [hn]

theorem readMappingTable_isSome_iff (get : Nat → Byte) :
    (readMappingTable get (peersAt get)).isSome = true ↔ mappingTableGood get := by
  simp [Option.isSome_iff_exists, readMappingTable_eq_some_iff]

/-! ## The checks in their order (R183) -/

/-- The checks of the record's role, with their numbers, as the examination takes them. -/
def roleChecks (get : Nat → Byte) : List (Nat × Bool) :=
  if get 1 = 0 then axisChecks get (peersAt get) (readMappingTable get (peersAt get)) else handChecks get

theorem commonChecks_numbers (get : Nat → Byte) (peers : Option (List PeerSpec)) :
    (commonChecks get peers).map Prod.fst = [1, 2, 3, 4, 5, 6, 7] := rfl

theorem roleChecks_numbers (get : Nat → Byte) :
    (roleChecks get).map Prod.fst = if get 1 = 0 then [8, 9, 10, 11, 12, 13, 14, 15] else [16] := by
  unfold roleChecks
  split <;> rfl

/-- A check's outcome is that of its number's condition (R183, R191). -/
def ChecksMean (len : Nat) (get : Nat → Byte) (checks : List (Nat × Bool)) : Prop :=
  ∀ c ∈ checks, fieldsEnd get c.1 ≤ len ∧ c.2 = true ↔ recordCheck len get c.1

theorem commonChecks_mean (len : Nat) (get : Nat → Byte) :
    ChecksMean len get (commonChecks get (readPeerList get (get 2).toNat)) := by
  have hone : (get 1).toNat ≤ 1 ↔ get 1 = 0 ∨ get 1 = 1 := by
    rw [← byte_toNat_inj, ← byte_toNat_inj]
    exact Nat.le_one_iff_eq_zero_or_eq_one
  simp only [ChecksMean, commonChecks, List.forall_mem_cons, List.not_mem_nil, false_implies, implies_true, and_true]
  refine ⟨?_, ?_, ?_, ?_, ?_, ?_, ?_⟩ <;>
    simp [fieldsEnd, recordCheck, hone, readPeerList_isSome_iff, and_assoc, or_assoc]

theorem partnerGood_iff {get : Nat → Byte} (hgood : peerListGood get) (b : Byte) :
    partnerGood (peersAt get) (absentZero b) = true ↔ b = 0 ∨ peerListed get b 3 := by
  unfold partnerGood absentZero
  by_cases h : b = 0
  · subst h; simp
  simp only [h, if_false, false_or, listed_state_iff hgood]

theorem axisChecks_mean (len : Nat) {get : Nat → Byte} (hgood : peerListGood get) :
    ChecksMean len get (axisChecks get (peersAt get) (readMappingTable get (peersAt get))) := by
  simp only [ChecksMean, axisChecks, List.forall_mem_cons, List.not_mem_nil, false_implies, implies_true, and_true]
  have hpartner : partnerGood (peersAt get) (readAxis get []).follow = true ↔ get 88 = 0 ∨ peerListed get (get 88) 3 :=
    partnerGood_iff hgood _
  have hguard : partnerGood (peersAt get) (readAxis get []).guard = true ↔ get 91 = 0 ∨ peerListed get (get 91) 3 :=
    partnerGood_iff hgood _
  simp only [Bool.and_eq_true, decide_eq_true_eq, readMappingTable_isSome_iff, hpartner, hguard, and_assoc]
  exact ⟨.rfl, .rfl, .rfl, .rfl, .rfl, .rfl, .rfl, .rfl⟩

theorem handChecks_mean (len : Nat) (get : Nat → Byte) : ChecksMean len get (handChecks get) := by
  have hchannels : ∀ p : Nat → Prop, (∀ c ∈ [0, 1, 2, 3, 4, 5, 6, 7], p c) ↔ ∀ c, c < 8 → p c := by
    refine fun p => ⟨fun h c hc => h c ?_, fun h c hc => h c ?_⟩
    · simp only [List.mem_cons, List.not_mem_nil, or_false]
      omega
    · revert c
      decide
  have hcal : ∀ c, ((readCalibration get c).lo < (readCalibration get c).centre ∧
      (readCalibration get c).centre < (readCalibration get c).hi) ∧ (readCalibration get c).hi ≤ 1023 ↔
      calibrationGood get c := by
    intro c
    rw [and_assoc, calibrationGood, show 45 + 6 * c = 43 + 6 * c + 2 by omega, show 47 + 6 * c = 43 + 6 * c + 4 by omega]
    rfl
  simp only [ChecksMean, handChecks, List.mem_singleton, forall_eq, fieldsEnd, recordCheck, readCalibrations,
    List.all_map, Function.comp_def, List.all_eq_true, Bool.and_eq_true, decide_eq_true_eq, hcal, hchannels]

theorem roleChecks_mean (len : Nat) {get : Nat → Byte} (hgood : peerListGood get) :
    ChecksMean len get (roleChecks get) := by
  unfold roleChecks
  split
  · exact axisChecks_mean len hgood
  · exact handChecks_mean len get

theorem firstFailed_skip {len : Nat} {get : Nat → Byte} {c : Nat × Bool} {rest : List (Nat × Bool)}
    (h : (decide (fieldsEnd get c.1 ≤ len) && c.2) = true) :
    firstFailed len get (c :: rest) = firstFailed len get rest := by
  rw [firstFailed, List.find?_cons_of_neg (by rw [h]; decide), firstFailed]

theorem firstFailed_stop {len : Nat} {get : Nat → Byte} {c : Nat × Bool} {rest : List (Nat × Bool)}
    (h : ¬(decide (fieldsEnd get c.1 ≤ len) && c.2) = true) : firstFailed len get (c :: rest) = some c.1 := by
  rw [firstFailed, List.find?_cons_of_pos (by rw [Bool.eq_false_iff.2 h]; decide), Option.map_some]

theorem checksMean_firstFailed_none {len : Nat} {get : Nat → Byte} {checks : List (Nat × Bool)}
    (h : ChecksMean len get checks) :
    firstFailed len get checks = none ↔ ∀ n ∈ checks.map Prod.fst, recordCheck len get n := by
  rw [firstFailed_none]
  simp only [List.mem_map, forall_exists_index, and_imp, forall_apply_eq_imp_iff₂]
  exact forall₂_congr h

/-- In a list of rising numbers the check reported is the one that fails while all of lower number pass. -/
theorem checksMean_firstFailed_some {len : Nat} {get : Nat → Byte} {checks : List (Nat × Bool)}
    (h : ChecksMean len get checks) (hrise : (checks.map Prod.fst).Pairwise (· < ·)) (n : Nat) :
    firstFailed len get checks = some n ↔ n ∈ checks.map Prod.fst ∧ ¬recordCheck len get n ∧
      ∀ m ∈ checks.map Prod.fst, m < n → recordCheck len get m := by
  induction checks with
  | nil => simp [firstFailed]
  | cons c rest ih =>
    obtain ⟨hc, hrest⟩ := List.forall_mem_cons.1 h
    rw [List.map_cons, List.pairwise_cons] at hrise
    obtain ⟨hlow, hrise⟩ := hrise
    have hpass : (decide (fieldsEnd get c.1 ≤ len) && c.2) = true ↔ recordCheck len get c.1 := by
      rw [Bool.and_eq_true, decide_eq_true_iff]
      exact hc
    by_cases hcheck : recordCheck len get c.1
    · have hskip := firstFailed_skip (rest := rest) (hpass.2 hcheck)
      have hcn : ∀ m ∈ rest.map Prod.fst, c.1 ≠ m := fun m hm => Nat.ne_of_lt (hlow m hm)
      rw [hskip, ih hrest hrise, List.map_cons, List.mem_cons]
      constructor
      · rintro ⟨hn, hfail, hbelow⟩
        exact ⟨.inr hn, hfail, fun m hm hmn => by
          obtain rfl | hm := List.mem_cons.1 hm
          · exact hcheck
          · exact hbelow m hm hmn⟩
      · rintro ⟨rfl | hn, hfail, hbelow⟩
        · exact absurd hcheck hfail
        · exact ⟨hn, hfail, fun m hm => hbelow m (List.mem_cons_of_mem _ hm)⟩
    · have hstop := firstFailed_stop (rest := rest) (mt hpass.1 hcheck)
      rw [hstop, List.map_cons, Option.some.injEq]
      constructor
      · rintro rfl
        exact ⟨List.mem_cons_self, hcheck, fun m hm hmn => by
          obtain rfl | hm := List.mem_cons.1 hm
          · exact absurd hmn (Nat.lt_irrefl _)
          · exact absurd hmn (Nat.not_lt.2 (Nat.le_of_lt (hlow m hm)))⟩
      · rintro ⟨hn, -, hbelow⟩
        obtain rfl | hn := List.mem_cons.1 hn
        · rfl
        · exact absurd (hbelow c.1 List.mem_cons_self (hlow n hn)) hcheck

/-! ## The examination -/

/-- The record that the bytes spell when every check passes. -/
def recordAt (get : Nat → Byte) : Record :=
  readCommon get (peersAt get)
    (if get 1 = 0 then .axis (readAxis get (mappingsAt get)) else .hand (readCalibrations get))

theorem checkApplies_common_iff (role : Byte) (n : Nat) (h : n ≤ 7) :
    checkApplies role n ↔ n ∈ [1, 2, 3, 4, 5, 6, 7] := by
  simp only [checkApplies, List.mem_cons, List.not_mem_nil, or_false]
  omega

theorem checkApplies_iff (get : Nat → Byte) (n : Nat) :
    checkApplies (get 1) n ↔ n ∈ [1, 2, 3, 4, 5, 6, 7] ∨ n ∈ (roleChecks get).map Prod.fst := by
  rw [roleChecks_numbers]
  by_cases h : get 1 = 0 <;>
    simp only [checkApplies, h, eq_self, if_true, if_false, List.mem_cons, List.not_mem_nil, or_false, ne_eq, not_true,
       not_false_iff, and_true, and_false, false_or] <;> omega

/-- The examination takes the common checks, and those of the role once all of them pass. -/
theorem examine_eq (len : Nat) (get : Nat → Byte) :
    examine len get =
      match firstFailed len get (commonChecks get (readPeerList get (get 2).toNat)) with
      | some n => .inl n
      | none =>
        match firstFailed len get (roleChecks get) with
        | some n => .inl n
        | none => .inr (recordAt get) := by
  unfold examine
  cases hcommon : firstFailed len get (commonChecks get (readPeerList get (get 2).toNat)) with
  | some n => simp only [hcommon]
  | none =>
    have hpeers : peerListGood get :=
      ((checksMean_firstFailed_none (commonChecks_mean len get)).1 hcommon 6 (by simp [commonChecks_numbers])).2
    rw [readPeerList_getD hpeers] at hcommon ⊢
    simp only [hcommon, Option.getD_some]
    unfold roleChecks recordAt
    by_cases hrole : get 1 = 0
    · simp only [hrole, if_true]
      cases hax : firstFailed len get (axisChecks get (peersAt get) (readMappingTable get (peersAt get))) with
      | some n => simp only
      | none =>
        have hmap : mappingTableGood get :=
          ((checksMean_firstFailed_none (axisChecks_mean len hpeers)).1 hax 11 (by simp [axisChecks])).2
        simp only [readMappingTable_eq_some_iff.2 ⟨hmap, rfl⟩, Option.getD_some]
    · simp only [hrole, if_false] <;> rfl

theorem commonChecks_rise (get : Nat → Byte) (peers : Option (List PeerSpec)) :
    ((commonChecks get peers).map Prod.fst).Pairwise (· < ·) := by
  rw [commonChecks_numbers]
  decide

theorem roleChecks_rise (get : Nat → Byte) : ((roleChecks get).map Prod.fst).Pairwise (· < ·) := by
  rw [roleChecks_numbers]
  split <;> decide

theorem roleChecks_above {get : Nat → Byte} {n : Nat} (h : n ∈ (roleChecks get).map Prod.fst) : 7 < n := by
  rw [roleChecks_numbers] at h
  split at h <;> simp at h <;> omega

/-- Every check passes: the record is found good. -/
theorem examine_inr_iff (len : Nat) (get : Nat → Byte) (r : Record) :
    examine len get = .inr r ↔ (∀ n, checkApplies (get 1) n → recordCheck len get n) ∧ recordAt get = r := by
  have hcommon := checksMean_firstFailed_none (commonChecks_mean len get)
  rw [examine_eq]
  simp only [checkApplies_iff, or_imp, forall_and]
  split
  · next n hn =>
    have : ¬∀ n ∈ [1, 2, 3, 4, 5, 6, 7], recordCheck len get n := by
      rw [← commonChecks_numbers get (readPeerList get (get 2).toNat), ← hcommon, hn]
      simp
    simp only [reduceCtorEq, false_iff]
    exact fun h => this h.1.1
  · next hnone =>
    have hall := hcommon.1 hnone
    have hrole := checksMean_firstFailed_none (roleChecks_mean len (hall 6 (by simp [commonChecks_numbers])).2)
    rw [commonChecks_numbers] at hall
    split
    · next n hn =>
      have : ¬∀ n ∈ (roleChecks get).map Prod.fst, recordCheck len get n := by rw [← hrole, hn]; simp
      simp only [reduceCtorEq, false_iff]
      exact fun h => this h.1.2
    · next hrest =>
      rw [Sum.inr.injEq]
      exact ⟨fun h => ⟨⟨hall, hrole.1 hrest⟩, h⟩, And.right⟩

/-- A check is reported: it fails, and all of lower number that apply pass. -/
theorem examine_inl_iff (len : Nat) (get : Nat → Byte) (n : Nat) :
    examine len get = .inl n ↔ checkApplies (get 1) n ∧ ¬recordCheck len get n ∧
      ∀ m, m < n → checkApplies (get 1) m → recordCheck len get m := by
  have hmean := commonChecks_mean len get
  have hnumbers := commonChecks_numbers get (readPeerList get (get 2).toNat)
  have hbelow : ∀ m ∈ [1, 2, 3, 4, 5, 6, 7], m ≤ 7 := by decide
  rw [examine_eq]
  simp only [checkApplies_iff]
  split
  · next k hk =>
    rw [checksMean_firstFailed_some hmean (commonChecks_rise _ _), hnumbers] at hk
    obtain ⟨hkn, hfail, hpass⟩ := hk
    rw [Sum.inl.injEq]
    constructor
    · rintro rfl
      refine ⟨.inl hkn, hfail, fun m hm happlies => ?_⟩
      obtain happlies | happlies := happlies
      · exact hpass m happlies hm
      · have := roleChecks_above happlies
        have := hbelow k hkn
        omega
    · rintro ⟨happlies, hfails, hall⟩
      obtain hlt | rfl | hgt := Nat.lt_trichotomy k n
      · exact absurd (hall k hlt (.inl hkn)) hfail
      · rfl
      · obtain happlies | happlies := happlies
        · exact absurd (hpass n happlies hgt) hfails
        · have := roleChecks_above happlies
          have := hbelow k hkn
          omega
  · next hnone =>
    have hall := (checksMean_firstFailed_none hmean).1 hnone
    rw [hnumbers] at hall
    have hrole := roleChecks_mean len (hall 6 (by simp)).2
    split
    · next k hk =>
      rw [Sum.inl.injEq, ← Option.some.injEq, ← hk,
        checksMean_firstFailed_some hrole (roleChecks_rise get)]
      constructor
      · rintro ⟨hn, hfail, hpass⟩
        exact ⟨.inr hn, hfail, fun m hm happlies => happlies.elim (hall m) fun h => hpass m h hm⟩
      · rintro ⟨hn | hn, hfail, hpass⟩
        · exact absurd (hall n hn) hfail
        · exact ⟨hn, hfail, fun m hm hmn => hpass m hmn (.inr hm)⟩
    · next hrest =>
      have hpass := (checksMean_firstFailed_none hrole).1 hrest
      simp only [reduceCtorEq, false_iff]
      rintro ⟨hn | hn, hfail, -⟩
      · exact hfail (hall n hn)
      · exact hfail (hpass n hn)


/-! ## What a good record holds -/

theorem axisGood_of_checks {len : Nat} {get : Nat → Byte}
    (h : ∀ n, 8 ≤ n → n ≤ 15 → recordCheck len get n) (ms : List Mapping) : (readAxis get ms).Good := by
  obtain ⟨-, hlimits⟩ := h 8 (by decide) (by decide)
  obtain ⟨-, hv, hv', ha, ha'⟩ := h 9 (by decide) (by decide)
  obtain ⟨-, hj, hj', hd, he⟩ := h 10 (by decide) (by decide)
  exact ⟨hlimits, ⟨hv, hv'⟩, ⟨ha, ha'⟩, ⟨hj, hj'⟩, hd, he⟩

theorem peersAt_nodup {get : Nat → Byte} (h : peerListGood get) : ((peersAt get).map PeerSpec.address).Nodup := by
  obtain ⟨-, -, hdistinct⟩ := h
  rw [peersAt, List.map_map, List.Nodup, List.pairwise_map]
  refine List.pairwise_lt_range.imp_of_mem fun {i j} _ hj hlt heq => ?_
  simp only [Function.comp_apply, peerAt, byte_toNat_inj] at heq
  exact hdistinct i j hlt (List.mem_range.1 hj) heq

/-- A record found good is one that the laws rest on (R183). -/
theorem examine_good {len : Nat} {get : Nat → Byte} {r : Record} (h : examine len get = .inr r) : r.Good := by
  obtain ⟨hall, rfl⟩ := (examine_inr_iff len get r).1 h
  have hcommon : ∀ n, 1 ≤ n → n ≤ 7 → recordCheck len get n := fun n h1 h7 => hall n (.inl ⟨h1, h7⟩)
  obtain ⟨-, haddr⟩ := hcommon 2 (by decide) (by decide)
  obtain ⟨-, hfps⟩ := hcommon 4 (by decide) (by decide)
  obtain ⟨-, hfresh⟩ := hcommon 5 (by decide) (by decide)
  obtain ⟨-, hpeers⟩ := hcommon 6 (by decide) (by decide)
  refine ⟨haddr, hfps, hfresh, ⟨?_, peersAt_nodup hpeers⟩, fun ax hax => ?_⟩
  · simpa [recordAt, readCommon, peersAt] using hpeers.1
  · by_cases hrole : get 1 = 0
    · simp only [recordAt, readCommon, hrole, if_true, RoleSettings.axis.injEq] at hax
      exact hax ▸ axisGood_of_checks (fun n h8 h15 => hall n (.inr (.inl ⟨h8, h15, hrole⟩))) _
    · simp only [recordAt, readCommon, hrole, if_false, reduceCtorEq] at hax

theorem recordByte_eq (bytes : List Byte) (len i : Nat) :
    recordByte bytes len i = if i < len then bytes.getD i 0xFF else 0xFF := rfl

/-- The axis settings as their offsets of R191 spell them. -/
theorem readAxis_eq (get : Nat → Byte) (ms : List Mapping) :
    let one := fun i : Nat => (get i).toNat
    let two := fun i : Nat => one i * 256 + one (i + 1)
    let present := fun i : Nat => if one i = 0 then none else some (one i)
    readAxis get ms =
      { llo := (get 43 ++ get 44 ++ get 45).toInt, lhi := (get 46 ++ get 47 ++ get 48).toInt, vmax := two 49,
        accel := two 51, vjog := two 53, deadband := two 55, expo := one 57, mappings := ms,
        mode := if one 83 = 0 then .mix else .add, fadeRate := two 84, trimScale := two 86, follow := present 88,
        k := (get 89 ++ get 90).toInt, guard := present 91, l0 := (get 92 ++ get 93 ++ get 94).toInt,
        l1 := (get 95 ++ get 96).toInt, lsafe := (get 97 ++ get 98 ++ get 99).toInt,
        interlock := decide (one 100 = 1), parkTime := two 101, brakeSetTime := two 103, brakeReleaseTime := two 105,
        feLimit := two 107, feTime := one 109, lowPolarity := if one 110 = 0 then .activeHigh else .activeLow,
        highPolarity := if one 111 = 0 then .activeHigh else .activeLow,
        stepPolarity := if one 112 = 0 then .normal else .inverted } := by
  have hone : (get 100 == 1) = decide ((get 100).toNat = 1) := by
    rw [Bool.eq_iff_iff, beq_iff_eq, decide_eq_true_iff, toNat_eq_iff_byte _ 1 (by decide)]
    rfl
  simp only [readAxis, readInt_three, readInt_two, readNat_two, absentZero_eq, hone,
    toNat_eq_iff_byte _ 0 (by decide)]
  rfl

theorem mappingsAt_eq (get : Nat → Byte) :
    mappingsAt get = (List.range (get 58).toNat).map fun i =>
      ⟨(get (59 + 6 * i)).toNat, (get (60 + 6 * i)).toNat, if (get (61 + 6 * i)).toNat = 0xFF then -1 else 1,
        (get (62 + 6 * i)).toNat * 256 + (get (62 + 6 * i + 1)).toNat,
        if (get (64 + 6 * i)).toNat = 0xFF then none else some (get (64 + 6 * i)).toNat⟩ := by
  refine List.map_congr_left fun i _ => ?_
  simp only [mappingAt, readNat_two, toNat_eq_iff_byte _ 0xFF (by decide), show 59 + 6 * i + 1 = 60 + 6 * i by omega,
    show 59 + 6 * i + 2 = 61 + 6 * i by omega, show 59 + 6 * i + 3 = 62 + 6 * i by omega,
    show 59 + 6 * i + 5 = 64 + 6 * i by omega]
  rfl

theorem peersAt_eq (get : Nat → Byte) :
    peersAt get = (List.range (get 10).toNat).map fun i =>
      ⟨(get (11 + 2 * i)).toNat, if (get (12 + 2 * i)).toNat = 2 then .stick else .state⟩ := by
  refine List.map_congr_left fun i _ => ?_
  simp only [peerAt, show 11 + 2 * i + 1 = 12 + 2 * i by omega]

theorem readCalibrations_eq (get : Nat → Byte) :
    readCalibrations get = (List.range 8).map fun c =>
      ⟨(get (43 + 6 * c)).toNat * 256 + (get (43 + 6 * c + 1)).toNat,
        (get (45 + 6 * c)).toNat * 256 + (get (45 + 6 * c + 1)).toNat,
        (get (47 + 6 * c)).toNat * 256 + (get (47 + 6 * c + 1)).toNat⟩ := by
  refine List.map_congr_left fun c _ => ?_
  simp only [readCalibration, readNat_two, show 43 + 6 * c + 2 = 45 + 6 * c by omega,
    show 43 + 6 * c + 4 = 47 + 6 * c by omega]

/-- A record too short for the last field of its role is not found good (R191). -/
theorem examine_short {len : Nat} {get : Nat → Byte} {n : Nat} (happlies : checkApplies (get 1) n)
    (hfail : ¬recordCheck len get n) : ∃ n, examine len get = .inl n := by
  cases hexamine : examine len get with
  | inl n => exact ⟨n, rfl⟩
  | inr r => exact absurd (((examine_inr_iff len get r).1 hexamine).1 n happlies) hfail

/-- Settles O7: the examination by the numbered checks in their order, the record's fields at their offsets, and the
shortest record of each role. -/
theorem firstFailingCheckIsReported : Obligations.FirstFailingCheckIsReported := by
  refine ⟨fun len get => ⟨examine_inl_iff len get, ?_, fun r hr => ⟨examine_good hr, ?_⟩⟩, fun bytes len hlen => ?_⟩
  · simp [examine_inr_iff]
  · obtain ⟨-, rfl⟩ := (examine_inr_iff len get r).1 hr
    refine ⟨rfl, rfl, rfl, rfl, absentZero_eq _, rfl, readNat_two get 8, peersAt_eq get, fun hrole => ?_, fun hrole => ?_⟩
    · have : get 1 = 0 := (toNat_eq_iff_byte _ 0 (by decide)).1 hrole
      simp only [recordAt, readCommon, this, if_true]
      rw [readAxis_eq, mappingsAt_eq]
    · have : get 1 ≠ 0 := fun h => by simp [h] at hrole
      simp only [recordAt, readCommon, this, if_false]
      rw [readCalibrations_eq]
  · have hone : recordByte bytes len 1 = bytes.getD 1 0xFF := if_pos (by omega)
    refine ⟨fun hrole hshort => ?_, fun hrole hshort => ?_, recordByte_eq bytes len⟩
    · refine examine_short (n := 15) (.inr (.inl ⟨by decide, by decide, hone.trans hrole⟩)) fun h => ?_
      have := h.1
      omega
    · refine examine_short (n := 16) (.inr (.inr ⟨rfl, by rw [hone, hrole]; decide⟩)) fun h => ?_
      have := h.1
      omega

end Sys2Proof.Machine

/-! A period expiry (spec/02_the_blend_engine.md, 2.3; 04_motion_limiter.md): the stages up to C by move state, the handover
of stage 6 said once, the transitions of stage 5, and the statements O17 to O29 assembled from them. -/
namespace Sys2Proof.Machine

/-! ## What an update leaves of the readings -/

section Readings

variable (s : State)

@[simp] theorem withBlend_presentedVj (b : BlendEngine) : (s.withBlend b).presentedVj = s.presentedVj := rfl
@[simp] theorem withBlend_stickActive (b : BlendEngine) : (s.withBlend b).stickActive = s.stickActive := rfl
@[simp] theorem withBlend_atRest (b : BlendEngine) : (s.withBlend b).atRest = s.atRest := rfl
@[simp] theorem withBlend_interlockHolds (b : BlendEngine) (ax : AxisSettings) :
    (s.withBlend b).interlockHolds ax = s.interlockHolds ax := rfl

/-- The interlock condition reads the Peer Table alone (R36). -/
theorem interlockHolds_congr {s t : State} (h : t.peers = s.peers) (ax : AxisSettings) :
    t.interlockHolds ax = s.interlockHolds ax := by
  have hreports : t.reportsFault = s.reportsFault := by funext a; simp only [State.reportsFault, h]
  simp only [State.interlockHolds, hreports]

theorem stickActive_congr {s t : State} (h : t.stick = s.stick) : t.stickActive = s.stickActive := by
  simp only [State.stickActive, State.presentedVj, h]

@[simp] theorem stickActive_iff : s.stickActive = true ↔ s.presentedVj ≠ 0 := by simp [State.stickActive]

theorem stickActive_of_ne {s : State} (h : s.presentedVj ≠ 0) : s.stickActive = true := (stickActive_iff s).2 h

theorem stickActive_of_zero {s : State} (h : s.presentedVj = 0) : s.stickActive = false := by simp [State.stickActive, h]

end Readings

/-! ## The end-stop direction lock (R26) -/

theorem AxisSettings.limit_eq (ax : AxisSettings) (x : Int) :
    ax.limit x = max (ax.llo * 16) (min x (ax.lhi * 16)) := rfl

/-- The lock by the two direction locks, for a C within the limits (R26, log 14). -/
theorem lockC_cases (ax : AxisSettings) (d : DrivePort) (prev x : Int) :
    lockC ax d prev x = match d.lowLock, d.highLock with
      | false, false => x
      | true, false => max x (ax.limit prev)
      | false, true => min x (ax.limit prev)
      | true, true => ax.limit prev := by
  unfold lockC
  cases d.lowLock with
  | false => cases d.highLock <;> rfl
  | true =>
    cases d.highLock with
    | false => rfl
    | true => exact Int.min_eq_right (Int.le_max_right _ _)

/-- A C that was locked stands through the lock of stage 6 (R26, R30). -/
@[simp] theorem lockC_lockC (ax : AxisSettings) (d : DrivePort) (prev x : Int) :
    lockC ax d prev (lockC ax d prev x) = lockC ax d prev x := by
  simp only [lockC_cases]
  cases d.lowLock <;> cases d.highLock <;> simp

/-! ## The stages up to C (R20 to R26) -/

theorem Plan.advance_eq (p : Plan) : p.advance = if p.k < p.n then { p with k := p.k + 1 } else p := rfl

@[simp] theorem Plan.advance_n (p : Plan) : p.advance.n = p.n := by unfold Plan.advance; split <;> rfl
@[simp] theorem Plan.advance_f (p : Plan) : p.advance.f = p.f := by unfold Plan.advance; split <;> rfl
@[simp] theorem Plan.advance_t (p : Plan) : p.advance.t = p.t := by unfold Plan.advance; split <;> rfl
@[simp] theorem Plan.advance_cue (p : Plan) : p.advance.cue = p.cue := by unfold Plan.advance; split <;> rfl

theorem Plan.advance_k_le (p : Plan) (h : p.k ≤ p.n) : p.advance.k ≤ p.n := by
  rw [Plan.advance_eq]
  split
  · assumption
  · exact h

/-- Without a plan in progress only stage 4 acts. -/
theorem stagesToC_unplanned (ax : AxisSettings) {s : State} (hplay : s.blend.move ≠ .play)
    (hblend : s.blend.move ≠ .blend) : stagesToC ax s = stageC ax s := by
  cases h : s.blend.move with
  | play => exact absurd h hplay
  | blend => exact absurd h hblend
  | _ => cases hm : ax.mode <;> simp only [stagesToC, stagePlan, stageWeight, stageStream, h, hm]

/-- Outside the servo-active states C is neither clamped nor locked (R25). -/
theorem stageC_passive (ax : AxisSettings) {s : State} (h : s.blend.move.servoActive = false) :
    stageC ax s = setC (computeC s.blend s.presentedVj s.drive.measured) s := by
  simp [stageC, h]

theorem stageC_active (ax : AxisSettings) {s : State} (h : s.blend.move.servoActive = true)
    (hplay : s.blend.move ≠ .play) :
    stageC ax s =
      setC (lockC ax s.drive s.blend.prevC (ax.limit (computeC s.blend s.presentedVj s.drive.measured))) s := by
  simp [stageC, h, hplay]

/-- PLAY in MIX mode up to C (R20, R22, R25, R26). -/
theorem stagesToC_play_mix {ax : AxisSettings} {s : State} {p : Plan} (hmove : s.blend.move = .play)
    (hplan : s.blend.plan = some p) (hmode : ax.mode = .mix) :
    stagesToC ax s = s.withBlend { s.blend with
      plan := some p.advance, w := fadeWeight s.stickActive p.f s.blend.w,
      c := lockC ax s.drive s.blend.prevC (ax.limit (p.advance.position + s.blend.d)) } := by
  simp [stagesToC, stagePlan, stageWeight, stageStream, stageC, hmove, hplan, hmode, computeC,
    BlendEngine.planPosition, MoveState.servoActive, setC]

/-- PLAY in ADD mode up to C: the trim takes the scaled stick and is reset from C (R20, R24, R25, R26). -/
theorem stagesToC_play_add {ax : AxisSettings} {s : State} {p : Plan} (hmove : s.blend.move = .play)
    (hplan : s.blend.plan = some p) (hmode : ax.mode = .add) :
    let c := lockC ax s.drive s.blend.prevC (ax.limit (p.advance.position +
      (s.blend.d + divTrunc (s.presentedVj * ax.trimScale) 1024)))
    stagesToC ax s = s.withBlend { s.blend with plan := some p.advance, c := c, d := c - p.advance.position } := by
  simp [stagesToC, stagePlan, stageWeight, stageStream, stageC, hmove, hplan, hmode, computeC,
    BlendEngine.planPosition, MoveState.servoActive]

/-- BLEND up to C: the weight fades, the jog stream moves, C is the crossfade (R20, R22, R23, R25, R26). -/
theorem stagesToC_blend {ax : AxisSettings} {s : State} {p : Plan} (hmove : s.blend.move = .blend)
    (hplan : s.blend.plan = some p) (hmode : ax.mode = .mix) :
    let w := fadeWeight s.stickActive p.f s.blend.w
    let pj := ax.limit (if s.drive.locks s.presentedVj then s.blend.pj else s.blend.pj + s.presentedVj)
    stagesToC ax s = s.withBlend { s.blend with
      plan := some p.advance, w := w, pj := pj,
      c := lockC ax s.drive s.blend.prevC (ax.limit ((p.advance.position * (1024 - w) + pj * w) / 1024)) } := by
  simp [stagesToC, stagePlan, stageWeight, stageStream, stageC, hmove, hplan, hmode, computeC,
    BlendEngine.planPosition, MoveState.servoActive, setC, divFloor_eq]

/-! ## The handover (R30, R54, R63, R76) -/

@[simp] theorem formTarget_coupling (ax : AxisSettings) (s : State) :
    (formTarget ax s).coupling = { s.coupling with
      g := max (ax.llo * 16) (min (s.blend.c + s.coupling.q) (s.coupling.lhiEff * 16)) } := by
  unfold formTarget
  dsimp only
  split <;> rfl

@[simp] theorem formTarget_flags (ax : AxisSettings) (s : State) :
    (formTarget ax s).flags =
      limitedFlags s.blend.move (formTarget ax s).coupling.g (s.blend.c + s.coupling.q) s.flags := by
  rw [formTarget_coupling]
  unfold formTarget limitedFlags CouplingUnit.target clamp
  simp only [Config.subCounts, Bool.and_eq_true, bne_iff_ne, ne_eq]
  split <;> rfl

/-- From `s`, an expiry's stages up to 5 reached `u`, and stage 6 hands over: C as locked, G, the setpoint's step, the step
count, and nothing else (R26, R30, R54, R55, R63, R69, R76). -/
theorem handOver_handedOver {ax : AxisSettings} {s u : State} {c : Int} {move : MoveState} {flags : FlagSet}
    (hmove : u.blend.move = move) (hprev : u.blend.prevC = s.blend.prevC)
    (hc : (if move.servoActive then lockC ax s.drive s.blend.prevC u.blend.c else u.blend.c) = c)
    (hdrive : u.drive = { s.drive with enable := move.driveEnable, brake := move.brakeOutput })
    (hflags : u.flags = flags) (harmed : u.sched.armed = s.sched.armed)
    (hothers : (((u.withBlend s.blend).withDrive s.drive).withFlags s.flags).withSched s.sched = s) :
    HandedOver ax s (handOver ax u) c move flags ∧
      (handOver ax u).blend = { u.blend with c := c, prevC := c } ∧ (handOver ax u).sched = u.sched := by
  have hcoupling : u.coupling = s.coupling := by simpa using congrArg State.coupling hothers
  have hlimiter : u.limiter = s.limiter := by simpa using congrArg State.limiter hothers
  have hlock : lockC ax u.drive u.blend.prevC u.blend.c = lockC ax s.drive s.blend.prevC u.blend.c := by
    rw [hdrive, hprev]; rfl
  have hhand : (handC ax u).blend = { u.blend with c := c, prevC := c } := by
    simp only [handC, hmove, hlock, hc, State.withBlend_blend]
  have hg : (handOver ax u).coupling =
      { s.coupling with g := max (ax.llo * 16) (min (c + s.coupling.q) (s.coupling.lhiEff * 16)) } := by
    simp [handOver, hhand, hcoupling]
  have hblend : (handOver ax u).blend = { u.blend with c := c, prevC := c } := by simp [handOver, hhand]
  have hl : (handOver ax u).limiter =
      s.limiter.step ax.vmax ax.accel move (handOver ax u).coupling.g s.drive.measured := by
    simp [handOver, limiterStep, hhand, hmove, hlimiter, hdrive]
  refine ⟨⟨⟨hblend ▸ hmove, hblend ▸ rfl, hblend ▸ rfl⟩, hg, hl, ?drive, ?flags, by simpa using harmed, ?others⟩,
    hblend, by simp⟩
  case drive =>
    have hsteps : (handOver ax u).drive = u.drive.takeSteps ax.stepPolarity (handOver ax u).limiter.lastSteps := by
      simp [handOver, limiterStep]
    rw [hsteps, hdrive, DrivePort.takeSteps]
  case flags =>
    have : (handOver ax u).flags = (formTarget ax (handC ax u)).flags := by simp [handOver]
    rw [this, formTarget_flags, hg, formTarget_coupling, hhand, hmove]
    simp [hcoupling, hflags]
  case others =>
    refine Eq.trans ?_ hothers
    apply State.ext <;> simp [hcoupling, hlimiter]

/-- A station that obeys R87 already has the outputs of its move state. -/
theorem State.DriveLaw.drive_eq {s : State} (h : s.DriveLaw) :
    s.drive = { s.drive with enable := s.blend.move.driveEnable, brake := s.blend.move.brakeOutput } := by
  rw [← h.enable, ← h.brake]

theorem periodExpiry_axis {s : State} {ax : AxisSettings} (hax : s.axis? = some ax) :
    periodExpiry s = axisPeriod ax s := by
  have hrec : s.record ≠ none := fun h => by simp [State.axis?, h] at hax
  unfold periodExpiry
  split
  · contradiction
  · simp [hax]

theorem exec_periodExpiry {s : State} (hrun : s.resetHold = none) :
    exec .periodExpiry s = .next (periodExpiry s) := whenRunning_running hrun periodExpiry

theorem exec_periodExpiry_axis {s : State} {ax : AxisSettings} (hrun : s.resetHold = none) (hax : s.axis? = some ax) :
    exec .periodExpiry s = .next (axisPeriod ax s) := by
  rw [exec_periodExpiry hrun, periodExpiry_axis hax]

/-- A period expiry whose stages up to 5 come down to `u`. -/
theorem axisPeriod_of_stages {ax : AxisSettings} {s u v : State} (hc : stagesToC ax s = v) (hm : stageMove ax v = u) :
    axisPeriod ax s = handOver ax u := by rw [axisPeriod, hc, hm]

end Sys2Proof.Machine

/-! The Motion Limiter and the Coupling Unit (spec/04_motion_limiter.md, 03_partner_coupling_and_guard_limits.md): the search
for the braking bound, the step by move state, what an accepted STATE frame and a handover make of the target, and the
statements O17 to O19 assembled from them. -/
namespace Sys2Proof.Machine

/-! ## The braking bound (R64) -/

theorem canBrake_iff (a E v : Nat) : canBrake a E v = true ↔ v * (v + a) ≤ 2 * a * E := by simp [canBrake]

theorem canBrake_mono {a E u v : Nat} (huv : u ≤ v) (h : canBrake a E v = true) : canBrake a E u = true := by
  rw [canBrake_iff] at h ⊢
  exact Nat.le_trans (Nat.mul_le_mul huv (Nat.add_le_add_right huv a)) h

/-- The search keeps a speed that can brake, and no speed beyond its range can. -/
theorem brakeSearch_greatest {a E : Nat} (n v : Nat) (hv : canBrake a E v = true)
    (hrange : ∀ u, canBrake a E u = true → u < v + 2 ^ n) :
    canBrake a E (brakeSearch a E n v) = true ∧ ∀ u, canBrake a E u = true → u ≤ brakeSearch a E n v := by
  induction n generalizing v with
  | zero => exact ⟨hv, fun u hu => Nat.le_of_lt_succ (hrange u hu)⟩
  | succ n ih =>
    rw [brakeSearch]
    split
    · next hbit =>
      refine ih _ hbit fun u hu => ?_
      have := hrange u hu
      rw [Nat.pow_succ] at this
      omega
    · next hbit =>
      refine ih v hv fun u hu => Nat.lt_of_not_le fun hle => hbit (canBrake_mono hle hu)

theorem brakingBound_greatest {a : Nat} (ha : 1 ≤ a) (E : Nat) :
    brakingBound a E * (brakingBound a E + a) ≤ 2 * a * E ∧
      ∀ v, v * (v + a) ≤ 2 * a * E → v ≤ brakingBound a E := by
  have hrange : ∀ u, canBrake a E u = true → u < 0 + 2 ^ (Nat.log2 (2 * a * E) + 1) := by
    intro u hu
    rw [canBrake_iff] at hu
    have hle : u ≤ u * (u + a) := Nat.le_mul_of_pos_right u (by omega)
    rw [Nat.zero_add]
    exact Nat.lt_of_le_of_lt (Nat.le_trans hle hu) Nat.lt_log2_self
  have h := brakeSearch_greatest (a := a) (E := E) _ 0 (by simp [canBrake]) hrange
  rw [brakingBound]
  simpa only [canBrake_iff] using h

/-! ## The step by move state (R63) -/

theorem MotionLimiter.step_request {move : MoveState} (h : move ∈ [.hold, .jog, .play, .blend, .interlocked])
    (vmax a : Nat) (g measured : Int) (l : MotionLimiter) :
    l.step vmax a move g measured = l.moveBy (requestVelocity vmax a (g - l.setpoint) l.v0) := by
  simp only [List.mem_cons, List.not_mem_nil, or_false] at h
  obtain rfl | rfl | rfl | rfl | rfl := h <;> rfl

theorem MotionLimiter.step_held {move : MoveState} (h : move = .parking ∨ move = .releasing)
    (vmax a : Nat) (g measured : Int) (l : MotionLimiter) :
    l.step vmax a move g measured = { l with v0 := 0, lastSteps := 0 } := by
  obtain rfl | rfl := h <;> rfl

theorem MotionLimiter.step_tracks {move : MoveState} (h : move = .start ∨ move = .parked ∨ move = .fault)
    (vmax a : Nat) (g measured : Int) (l : MotionLimiter) :
    l.step vmax a move g measured = ⟨measured * 16, 0, measured, 0⟩ := by
  obtain rfl | rfl | rfl := h <;> rfl

@[simp] theorem MotionLimiter.moveBy_v0 (l : MotionLimiter) (v : Int) : (l.moveBy v).v0 = v := rfl
@[simp] theorem MotionLimiter.moveBy_setpoint (l : MotionLimiter) (v : Int) :
    (l.moveBy v).setpoint = l.setpoint + v := rfl

theorem MotionLimiter.moveBy_stepPos (l : MotionLimiter) (v : Int) :
    (l.moveBy v).stepPos = (l.moveBy v).setpoint / 16 := divFloor_eq _ (by decide)

theorem MotionLimiter.moveBy_lastSteps (l : MotionLimiter) (v : Int) :
    (l.moveBy v).lastSteps = (l.moveBy v).stepPos - l.stepPos := rfl

theorem requestVelocity_eq (vmax a : Nat) (e v0 : Int) :
    requestVelocity vmax a e v0 =
      max (v0 - a) (min (e.sign * (min vmax (min (brakingBound a e.natAbs) e.natAbs) : Nat)) (v0 + a)) := rfl

theorem natAbs_desired_le (vmax a : Nat) (e : Int) : (desiredVelocity vmax a e).natAbs ≤ vmax := by
  rw [desiredVelocity, Int.natAbs_mul, Int.natAbs_natCast]
  have hsign : e.sign.natAbs ≤ 1 := by
    obtain h | h | h := Int.lt_trichotomy e 0
    · simp [Int.sign_eq_neg_one_of_neg h]
    · simp [h]
    · simp [Int.sign_eq_one_of_pos h]
  calc _ ≤ 1 * (min vmax (min (brakingBound a e.natAbs) e.natAbs)) := Nat.mul_le_mul hsign (Nat.le_refl _)
    _ ≤ vmax := by omega

theorem natAbs_requestVelocity_sub_le (vmax a : Nat) (e v0 : Int) :
    (requestVelocity vmax a e v0 - v0).natAbs ≤ a := by
  rw [requestVelocity, clamp]
  omega

theorem natAbs_requestVelocity_le {vmax : Nat} (a : Nat) (e : Int) {v0 : Int} (h : v0.natAbs ≤ vmax) :
    (requestVelocity vmax a e v0).natAbs ≤ vmax := by
  have := natAbs_desired_le vmax a e
  rw [requestVelocity, clamp]
  omega

/-- Settles O17: the bound is the search's result, and each bound follows from the clamp around the velocity. -/
theorem setpointRequestFollowsTheBrakingBound : Obligations.SetpointRequestFollowsTheBrakingBound := by
  intro vmax a move g measured l ha hmove
  rw [MotionLimiter.step_request hmove]
  obtain ⟨hbrakes, hgreatest⟩ := brakingBound_greatest ha (g - l.setpoint).natAbs
  refine ⟨⟨_, hbrakes, hgreatest, requestVelocity_eq _ _ _ _⟩, rfl, l.moveBy_stepPos _, rfl,
    natAbs_requestVelocity_sub_le _ _ _ _, natAbs_requestVelocity_le _ _, fun hvmax hv hpos => ?_⟩
  have hbound := natAbs_requestVelocity_le a (g - l.setpoint) hv
  rw [l.moveBy_lastSteps, l.moveBy_stepPos, l.moveBy_setpoint, hpos]
  omega

theorem natAbs_stopVelocity (a : Nat) (v : Int) : (stopVelocity a v).natAbs = v.natAbs - a := by
  have hmax : max ((v.natAbs : Int) - a) 0 = ((v.natAbs - a : Nat) : Int) := by omega
  rw [stopVelocity, hmax, Int.natAbs_mul, Int.natAbs_natCast]
  by_cases h : v = 0
  · simp [h]
  · rw [Int.natAbs_sign_of_ne_zero h, Nat.one_mul]

theorem stopVelocity_nonneg (a : Nat) {v : Int} (h : 0 ≤ v) : 0 ≤ stopVelocity a v :=
  Int.mul_nonneg (Int.sign_nonneg_iff.2 h) (Int.le_max_right _ _)

theorem stopVelocity_nonpos (a : Nat) {v : Int} (h : v ≤ 0) : stopVelocity a v ≤ 0 :=
  Int.mul_nonpos_of_nonpos_of_nonneg (Int.sign_nonpos_iff.2 h) (Int.le_max_right _ _)

/-- Settles O18: the deceleration, the setpoint held, and tracking. -/
theorem setpointStopsHoldsOrTracks : Obligations.SetpointStopsHoldsOrTracks := by
  intro vmax a g measured l
  refine ⟨⟨natAbs_stopVelocity a l.v0, stopVelocity_nonneg a, stopVelocity_nonpos a, rfl, l.moveBy_stepPos _, rfl⟩,
    fun move h => MotionLimiter.step_held h vmax a g measured l,
    fun move h => MotionLimiter.step_tracks h vmax a g measured l⟩

/-! ## The Coupling Unit (R49 to R55) -/

theorem couplingAccepted_of_state {e : PeerEntry} {p : StateContents} (h : e.state? = some p) (ax : AxisSettings)
    (s : State) :
    (couplingAccepted ax e s).coupling =
      let c := if ax.follow = some e.address then s.coupling.followAccepted ax p.measured else s.coupling
      if ax.guard = some e.address then c.guardEvent ax e else c := by
  simp only [couplingAccepted, h, State.withCoupling_coupling]

theorem couplingAccepted_of_none {e : PeerEntry} (h : e.state? = none) (ax : AxisSettings) (s : State) :
    couplingAccepted ax e s = s := by
  simp only [couplingAccepted, h]

theorem couplingAccepted_restored (ax : AxisSettings) (e : PeerEntry) (s : State) :
    (couplingAccepted ax e s).withCoupling s.coupling = s := by
  apply State.ext <;> simp

theorem CouplingUnit.guardEvent_inForce {e : PeerEntry} {p : StateContents}
    (hfresh : e.freshness = .fresh ∨ e.freshness = .aging) (h : e.state? = some p) (ax : AxisSettings)
    (c : CouplingUnit) :
    c.guardEvent ax e =
      { c with guardCondition := some e.freshness, guardMode := .inForce, lhiEff := guardLimit ax p.measured } := by
  obtain hf | hf := hfresh <;> simp only [CouplingUnit.guardEvent, hf, h]

theorem CouplingUnit.guardEvent_safe {e : PeerEntry}
    (h : e.freshness = .silent ∨ e.freshness = .stale ∨ e.state? = none) (ax : AxisSettings) (c : CouplingUnit) :
    c.guardEvent ax e =
      { c with guardCondition := some e.freshness, guardMode := .safe, lhiEff := safeLimit ax } := by
  unfold CouplingUnit.guardEvent
  cases hf : e.freshness <;> cases hs : e.state? <;> simp_all

theorem guardLimit_eq (ax : AxisSettings) (pg : Int) :
    guardLimit ax pg = max ax.llo (min (min ax.lhi (ax.l0 + ax.l1 * pg / 4096)) ax.lhi) := by
  rw [guardLimit, divFloor_eq _ (by decide)]
  rfl

theorem followTerm_eq (k d : Int) : followTerm k d = max (-134217728) (min (k * d / 256) 134217712) := by
  rw [followTerm, divFloor_eq _ (by decide)]
  rfl

theorem guardLimit_between {ax : AxisSettings} (h : ax.llo ≤ ax.lhi) (pg : Int) :
    ax.llo ≤ guardLimit ax pg ∧ guardLimit ax pg ≤ ax.lhi := clamp_between _ h

theorem safeLimit_between {ax : AxisSettings} (h : ax.llo ≤ ax.lhi) :
    ax.llo ≤ safeLimit ax ∧ safeLimit ax ≤ ax.lhi := clamp_between _ h

theorem formTarget_restored (ax : AxisSettings) (s : State) :
    ((formTarget ax s).withCoupling s.coupling).withFlags s.flags = s := by
  apply State.ext <;> simp

/-- Settles O19: an acceptance by the partner it comes from, an entry without STATE contents, and the handover's G. -/
theorem partnersMoveTheTarget : Obligations.PartnersMoveTheTarget := by
  refine ⟨fun ax e p s hstate hfresh => ?accepted, fun ax e s h => couplingAccepted_of_none h ax s, fun ax s => ?target⟩
  case accepted =>
    have hguard : ∀ c : CouplingUnit, c.guardEvent ax e = _ := CouplingUnit.guardEvent_inForce (.inl hfresh) hstate ax
    dsimp only
    rw [couplingAccepted_of_state hstate]
    refine ⟨fun hfollow => ?_, fun hfollow => ?_, fun hg => ?_, fun hg => ?_, ?_, couplingAccepted_restored ax e s⟩
    · simp only [hfollow, if_true, CouplingUnit.followAccepted, hguard, followTerm_eq]
      split <;> exact ⟨⟨_, rfl, rfl, rfl⟩, rfl⟩
    · simp only [hfollow, if_false, hguard]
      split <;> exact ⟨rfl, rfl, rfl⟩
    · simp only [hg, if_true, hguard, hfresh, ← guardLimit_eq]
      exact ⟨trivial, trivial, trivial, fun h => guardLimit_between h _⟩
    · simp only [hg, if_false, CouplingUnit.followAccepted]
      split <;> exact ⟨rfl, rfl, rfl⟩
    · simp only [hguard, CouplingUnit.followAccepted]
      split <;> split <;> rfl
  case target =>
    refine ⟨formTarget_coupling ax s, formTarget_flags ax s, fun h => ?_, formTarget_restored ax s⟩
    rw [formTarget_coupling]
    dsimp only
    omega

end Sys2Proof.Machine

/-! The period expiry by move state (spec/02_the_blend_engine.md, 2.3, 2.6 to 2.8): what the stages up to 5 reach, the
handover that follows, and the statements O20 to O29 assembled from them. -/
namespace Sys2Proof.Machine

/-! ## What the stages reach -/

/-- The station as an expiry's stages up to 5 leave it: the Blend Engine, the outputs of the move state, the event flags and
the Cue Scheduler's report are all they change. -/
def State.reached (s : State) (b : BlendEngine) (m : MoveState) (f : FlagSet) (q : CueScheduler) : State :=
  ((enterMove m (s.withBlend b)).withFlags f).withSched q

section Reached

variable (s : State) (b : BlendEngine) (m : MoveState) (f : FlagSet) (q : CueScheduler)

@[simp] theorem reached_blend : (s.reached b m f q).blend = { b with move := m } := by simp [State.reached]
@[simp] theorem reached_drive :
    (s.reached b m f q).drive = { s.drive with enable := m.driveEnable, brake := m.brakeOutput } := by
  simp [State.reached]
@[simp] theorem reached_flags : (s.reached b m f q).flags = f := by simp [State.reached]
@[simp] theorem reached_sched : (s.reached b m f q).sched = q := by simp [State.reached]

theorem reached_others :
    ((((s.reached b m f q).withBlend s.blend).withDrive s.drive).withFlags s.flags).withSched s.sched = s := by
  apply State.ext <;> simp [State.reached]

end Reached

/-- A transition that posts no report and sets no flag. -/
theorem enterMove_reached (s : State) (b : BlendEngine) (m : MoveState) :
    enterMove m (s.withBlend b) = s.reached b m s.flags s.sched := rfl

/-- An expiry without a transition: the outputs are already those of the move state (R87). -/
theorem State.DriveLaw.withBlend_reached {s : State} (h : s.DriveLaw) {b : BlendEngine} {m : MoveState}
    (hm : s.blend.move = m) (hb : b.move = s.blend.move) : s.withBlend b = s.reached b m s.flags s.sched := by
  subst hm
  apply State.ext <;> simp [State.reached, ← hb]
  rw [hb, ← h.drive_eq]

/-- A state is the one reached when it shows these four items and keeps everything else. -/
theorem eq_reached {s u : State} {b : BlendEngine} {m : MoveState} {f : FlagSet} {q : CueScheduler}
    (hb : u.blend = { b with move := m })
    (hd : u.drive = { s.drive with enable := m.driveEnable, brake := m.brakeOutput })
    (hf : u.flags = f) (hq : u.sched = q)
    (hothers : (((u.withBlend s.blend).withDrive s.drive).withFlags s.flags).withSched s.sched = s) :
    u = s.reached b m f q := by
  have h := congrArg (fun x => (((x.withBlend u.blend).withDrive u.drive).withFlags u.flags).withSched u.sched) hothers
  have hu : u = (((s.withBlend u.blend).withDrive u.drive).withFlags u.flags).withSched u.sched := by
    refine Eq.trans ?_ h
    apply State.ext <;> simp
  rw [hu, hb, hd, hf, hq]
  apply State.ext <;> simp [State.reached]

/-- The expiry of a station whose stages up to 5 come down to `b` in `m` on a station `s₀` (the station itself, or the one
whose setpoint stage 5 put on the measured position): stage 6 hands on C, locked in the servo-active states. -/
theorem expiry_hands {s s₀ : State} {ax : AxisSettings} {b : BlendEngine} {m : MoveState} {f : FlagSet}
    {q : CueScheduler} {c : Int} (hu : stageMove ax (stagesToC ax s) = s₀.reached b m f q)
    (hprev : b.prevC = s₀.blend.prevC)
    (hc : (if m.servoActive then lockC ax s₀.drive s₀.blend.prevC b.c else b.c) = c)
    (harmed : q.armed = s₀.sched.armed := by rfl) :
    HandedOver ax s₀ (axisPeriod ax s) c m f ∧ (axisPeriod ax s).blend = { b with move := m, c := c, prevC := c } ∧
      (axisPeriod ax s).sched = q := by
  obtain ⟨hhanded, hblend, hsched⟩ := handOver_handedOver (ax := ax) (s := s₀) (u := s₀.reached b m f q) (c := c)
    (move := m) (flags := f) (by simp) (by simpa using hprev) (by simpa using hc) (by simp) (by simp)
    (by rw [reached_sched, harmed]) (reached_others s₀ b m f q)
  rw [axisPeriod, hu]
  exact ⟨hhanded, by simpa using hblend, hsched.trans (by simp)⟩

/-! ## Outside the servo-active states (R17, R25, R68) -/

theorem stagesToC_tracks (ax : AxisSettings) {s : State}
    (h : s.blend.move = .start ∨ s.blend.move = .fault ∨ s.blend.move = .parked) :
    stagesToC ax s = setC (s.drive.measured * 16) s := by
  obtain h | h | h := h <;>
    rw [stagesToC_unplanned ax (by simp [h]) (by simp [h]), stageC_passive ax (by simp [h, MoveState.servoActive])] <;>
    simp [computeC, h, Config.subCounts]

theorem stagesToC_stands (ax : AxisSettings) {s : State} (h : s.blend.move = .parking ∨ s.blend.move = .releasing) :
    stagesToC ax s = s := by
  have hc : computeC s.blend s.presentedVj s.drive.measured = s.blend.c := by
    obtain h | h := h <;> simp only [computeC, h]
  obtain h | h := h <;>
    rw [stagesToC_unplanned ax (by simp [h]) (by simp [h]), stageC_passive ax (by simp [h, MoveState.servoActive]), hc] <;>
    rfl

theorem periodExpiry_bare {s : State} (h : s.record = none) :
    periodExpiry s =
      (s.withBlend { s.blend with c := s.drive.measured * 16, prevC := s.drive.measured * 16 }).withLimiter
        ⟨s.drive.measured * 16, 0, s.drive.measured, 0⟩ := by
  simp only [periodExpiry, h]
  apply State.ext <;> simp [barePeriod, Config.subCounts]

theorem periodExpiry_hand {s : State} {r : Record} (h : s.record = some r) (hax : s.axis? = none) :
    periodExpiry s = s := by simp only [periodExpiry, h, hax]

/-- Settles O20: C tracks in stage 4, stage 5 has no transition, and the handover tracks with it. -/
theorem periodExpiryTracksOutsideServo : Obligations.PeriodExpiryTracksOutsideServo := by
  intro s hrun
  refine ⟨fun h => by rw [exec_periodExpiry hrun, periodExpiry_bare h],
    fun r h hax => by rw [exec_periodExpiry hrun, periodExpiry_hand h hax], fun ax hax hlaw hmove => ?_⟩
  have htracks : stagesToC ax s = setC (s.drive.measured * 16) s := stagesToC_tracks ax (hmove.imp_right fun h => h.imp_right And.left)
  have hstays : stageMove ax (setC (s.drive.measured * 16) s) = setC (s.drive.measured * 16) s := by
    obtain h | h | ⟨h, hv⟩ := hmove
    · simp [stageMove, h]
    · simp [stageMove, h]
    · simp [stageMove, h, stageParked, setC, stickActive_of_zero hv]
  have hpassive : s.blend.move.servoActive = false := by
    obtain h | h | ⟨h, -⟩ := hmove <;> simp [h, MoveState.servoActive]
  obtain ⟨hhanded, hblend, hsched⟩ := expiry_hands (ax := ax) (s := s) (f := s.flags) (q := s.sched)
    (m := s.blend.move) (b := { s.blend with c := s.drive.measured * 16 }) (c := s.drive.measured * 16)
    (by rw [htracks, hstays]
        exact eq_reached (by simp) (by simpa using hlaw.drive_eq) (by simp) (by simp) (by apply State.ext <;> simp))
    rfl (by simp [hpassive])
  exact ⟨_, exec_periodExpiry_axis hrun hax, hhanded, hblend, hsched⟩

/-! ## Stages 1 to 5 in the states without a plan (R25 to R27) -/

theorem stages_of_hold (ax : AxisSettings) {s : State} (h : s.blend.move = .hold) :
    stageMove ax (stagesToC ax s) = stageHold ax (setC (lockC ax s.drive s.blend.prevC (ax.limit s.blend.c)) s) := by
  rw [stagesToC_unplanned ax (by simp [h]) (by simp [h]), stageC_active ax (by simp [h, MoveState.servoActive]) (by simp [h])]
  simp [computeC, h, stageMove]

theorem stages_of_jog (ax : AxisSettings) {s : State} (h : s.blend.move = .jog) :
    stageMove ax (stagesToC ax s) =
      stageJog ax (setC (lockC ax s.drive s.blend.prevC (ax.limit (s.blend.c + s.presentedVj))) s) := by
  rw [stagesToC_unplanned ax (by simp [h]) (by simp [h]), stageC_active ax (by simp [h, MoveState.servoActive]) (by simp [h])]
  simp [computeC, h, stageMove]

theorem stages_of_stopping (ax : AxisSettings) {s : State} (h : s.blend.move = .stopping) :
    stageMove ax (stagesToC ax s) = stageStopping ax (setC (lockC ax s.drive s.blend.prevC (ax.limit s.blend.c)) s) := by
  rw [stagesToC_unplanned ax (by simp [h]) (by simp [h]), stageC_active ax (by simp [h, MoveState.servoActive]) (by simp [h])]
  simp [computeC, h, stageMove]

theorem stages_of_interlocked (ax : AxisSettings) {s : State} (h : s.blend.move = .interlocked) :
    stageMove ax (stagesToC ax s) =
      stageInterlocked ax (setC (lockC ax s.drive s.blend.prevC (ax.limit s.blend.c)) s) := by
  rw [stagesToC_unplanned ax (by simp [h]) (by simp [h]), stageC_active ax (by simp [h, MoveState.servoActive]) (by simp [h])]
  simp [computeC, h, stageMove]

theorem stages_of_parked (ax : AxisSettings) {s : State} (h : s.blend.move = .parked) :
    stageMove ax (stagesToC ax s) = stageParked ax (setC (s.drive.measured * 16) s) := by
  rw [stagesToC_tracks ax (.inr (.inr h))]
  simp [stageMove, h]

theorem stages_of_parking (ax : AxisSettings) {s : State} (h : s.blend.move = .parking) :
    stageMove ax (stagesToC ax s) = stageParking ax s := by
  rw [stagesToC_stands ax (.inl h)]
  simp [stageMove, h]

theorem stages_of_releasing (ax : AxisSettings) {s : State} (h : s.blend.move = .releasing) :
    stageMove ax (stagesToC ax s) = stageReleasing ax s := by
  rw [stagesToC_stands ax (.inr h)]
  simp [stageMove, h]

/-! ## HOLD and JOG (R27, R38) -/

theorem stageHold_stays {ax : AxisSettings} {s : State} (h : s.holdStays ax) :
    stageHold ax s = s.withBlend { s.blend with park := if s.atRest then s.blend.park + 1 else 0 } := by
  obtain ⟨hlock, hv, hpark⟩ := h
  have hcount : ¬(ax.parkTime ≠ 0 ∧ ax.parkTime * 1000 ≤ if s.atRest then s.blend.park + 1 else 0) := by
    rintro ⟨h0, hle⟩
    obtain h | h | h := hpark
    · exact h0 h
    · simp only [h, Bool.false_eq_true, if_false] at hle
      omega
    · split at hle <;> omega
  simp only [stageHold, hlock, stickActive_of_zero hv, countPark, hcount, Bool.false_eq_true,
    if_false]

theorem stageHold_pushed {ax : AxisSettings} {s : State} (hlock : s.interlockHolds ax = false) (hv : s.presentedVj ≠ 0) :
    stageHold ax s = enterMove .jog (zeroPark s) := by
  simp only [stageHold, hlock, stickActive_of_ne hv, Bool.false_eq_true, if_false, if_true]

theorem stageHold_parks {ax : AxisSettings} {s : State} (hlock : s.interlockHolds ax = false) (hv : s.presentedVj = 0)
    (hrest : s.atRest = true) (h0 : ax.parkTime ≠ 0) (hdue : ax.parkTime * 1000 ≤ s.blend.park + 1) :
    stageHold ax s = enterParking ax (s.withBlend { s.blend with park := s.blend.park + 1 }) := by
  simp only [stageHold, hlock, stickActive_of_zero hv, countPark, hrest, h0, hdue, ne_eq,
    not_false_iff, and_self, Bool.false_eq_true, if_false, if_true]

theorem stageJog_free {ax : AxisSettings} {s : State} (hlock : s.interlockHolds ax = false) :
    stageJog ax s = if s.presentedVj = 0 ∧ s.atRest = true then enterHold s else s := by
  simp [stageJog, hlock, State.stickActive]

/-- Settles O21: the transition of R27 in each case, on the C of stage 4. -/
theorem holdAndJogAtAnExpiry : Obligations.HoldAndJogAtAnExpiry := by
  intro s ax hrun hax hlaw hlock held moved within
  refine ⟨fun x => ?locks, fun h hstays => ?stays, fun h hv => ?pushed, fun h => ?jog⟩
  case locks =>
    rw [lockC_cases]
    rfl
  case stays =>
    have hu : stageMove ax (stagesToC ax s) = s.reached
        { s.blend with c := held, park := if s.atRest then s.blend.park + 1 else 0 } .hold s.flags s.sched :=
      (stages_of_hold ax h).trans <| (stageHold_stays (s := setC held s) hstays).trans (hlaw.withBlend_reached h rfl)
    obtain ⟨hhanded, hblend, hsched⟩ := expiry_hands hu rfl (lockC_lockC ax s.drive s.blend.prevC _)
    exact ⟨_, exec_periodExpiry_axis hrun hax, hhanded, hsched, by rw [hblend, ← h]⟩
  case pushed =>
    have hu : stageMove ax (stagesToC ax s) = s.reached { s.blend with c := held, park := 0 } .jog s.flags s.sched :=
      (stages_of_hold ax h).trans (stageHold_pushed (s := setC held s) hlock hv)
    obtain ⟨hhanded, hblend, hsched⟩ := expiry_hands hu rfl (lockC_lockC ax s.drive s.blend.prevC _)
    exact ⟨_, exec_periodExpiry_axis hrun hax, hhanded, hsched, hblend⟩
  case jog =>
    have hmove : stageMove ax (stagesToC ax s) =
        if s.presentedVj = 0 ∧ s.atRest = true then enterHold (setC moved s) else setC moved s :=
      (stages_of_jog ax h).trans (stageJog_free hlock)
    refine ⟨_, exec_periodExpiry_axis hrun hax, ?_⟩
    by_cases hrest : s.presentedVj = 0 ∧ s.atRest = true
    · rw [if_pos hrest] at hmove ⊢
      have hu : stageMove ax (stagesToC ax s) =
          s.reached { s.blend with c := moved, park := 0 } .hold s.flags s.sched := hmove
      obtain ⟨hhanded, hblend, hsched⟩ := expiry_hands hu rfl (lockC_lockC ax s.drive s.blend.prevC _)
      exact ⟨hsched, hhanded, hblend⟩
    · rw [if_neg hrest] at hmove ⊢
      have hu : stageMove ax (stagesToC ax s) = s.reached { s.blend with c := moved } .jog s.flags s.sched :=
        hmove.trans (hlaw.withBlend_reached h rfl)
      obtain ⟨hhanded, hblend, hsched⟩ := expiry_hands hu rfl (lockC_lockC ax s.drive s.blend.prevC _)
      exact ⟨hsched, hhanded, by rw [hblend, ← h]⟩

/-! ## PLAY and BLEND (R27 to R29) -/

theorem stages_of_play_mix {ax : AxisSettings} {s : State} {p : Plan} (hmove : s.blend.move = .play)
    (hplan : s.blend.plan = some p) (hmode : ax.mode = .mix) :
    stageMove ax (stagesToC ax s) = stagePlay ax (s.withBlend { s.blend with
      plan := some p.advance, w := fadeWeight s.stickActive p.f s.blend.w,
      c := lockC ax s.drive s.blend.prevC (ax.limit (p.advance.position + s.blend.d)) }) := by
  rw [stagesToC_play_mix hmove hplan hmode]
  simp [stageMove, hmove]

theorem stages_of_play_add {ax : AxisSettings} {s : State} {p : Plan} (hmove : s.blend.move = .play)
    (hplan : s.blend.plan = some p) (hmode : ax.mode = .add) :
    let c := lockC ax s.drive s.blend.prevC (ax.limit (p.advance.position +
      (s.blend.d + divTrunc (s.presentedVj * ax.trimScale) 1024)))
    stageMove ax (stagesToC ax s) =
      stagePlay ax (s.withBlend { s.blend with plan := some p.advance, c := c, d := c - p.advance.position }) := by
  dsimp only
  rw [stagesToC_play_add hmove hplan hmode]
  simp [stageMove, hmove]

theorem stages_of_blend {ax : AxisSettings} {s : State} {p : Plan} (hmove : s.blend.move = .blend)
    (hplan : s.blend.plan = some p) (hmode : ax.mode = .mix) :
    let w := fadeWeight s.stickActive p.f s.blend.w
    let pj := ax.limit (if s.drive.locks s.presentedVj then s.blend.pj else s.blend.pj + s.presentedVj)
    stageMove ax (stagesToC ax s) = stageBlend ax (s.withBlend { s.blend with
      plan := some p.advance, w := w, pj := pj,
      c := lockC ax s.drive s.blend.prevC (ax.limit ((p.advance.position * (1024 - w) + pj * w) / 1024)) }) := by
  dsimp only
  rw [stagesToC_blend hmove hplan hmode]
  simp [stageMove, hmove]

theorem planDone_of_plan {b : BlendEngine} {p : Plan} (h : b.plan = some p) : b.planDone = true ↔ p.k = p.n := by
  simp [BlendEngine.planDone, h]

/-- Nothing ends PLAY: no weight in MIX mode, and the plan is not at its end at rest (R27). -/
theorem stagePlay_continues {ax : AxisSettings} {s : State} {b : BlendEngine} {p : Plan}
    (hlock : s.interlockHolds ax = false) (hw : ax.mode = .mix → b.w = 0) (hplan : b.plan = some p)
    (hrest : ¬(p.k = p.n ∧ s.atRest = true)) : stagePlay ax (s.withBlend b) = s.withBlend b := by
  rw [← planDone_of_plan hplan, ← Bool.and_eq_true] at hrest
  have hfull : ¬(ax.mode = .mix ∧ b.w = Config.fullWeight) := by
    rintro ⟨hmode, h⟩
    simp [hw hmode, Config.fullWeight] at h
  have hsome : ¬(ax.mode = .mix ∧ 0 < b.w) := by
    rintro ⟨hmode, h⟩
    simp [hw hmode] at h
  simp only [stagePlay, withBlend_interlockHolds, withBlend_atRest, State.withBlend_blend, hlock, hfull, hsome, hrest,
    Bool.false_eq_true, if_false]

theorem stagePlay_arrives {ax : AxisSettings} {s : State} {b : BlendEngine} {p : Plan}
    (hlock : s.interlockHolds ax = false) (hw : ax.mode = .mix → b.w = 0) (hplan : b.plan = some p) (hk : p.k = p.n)
    (hrest : s.atRest = true) : stagePlay ax (s.withBlend b) = arrive (s.withBlend b) := by
  have hfull : ¬(ax.mode = .mix ∧ b.w = Config.fullWeight) := by
    rintro ⟨hmode, h⟩
    simp [hw hmode, Config.fullWeight] at h
  have hsome : ¬(ax.mode = .mix ∧ 0 < b.w) := by
    rintro ⟨hmode, h⟩
    simp [hw hmode] at h
  simp only [stagePlay, withBlend_interlockHolds, withBlend_atRest, State.withBlend_blend, hlock, hfull, hsome,
    (planDone_of_plan hplan).2 hk, hrest, Bool.false_eq_true, if_false, Bool.and_self, if_true]

theorem stagePlay_pushed {ax : AxisSettings} {s : State} {b : BlendEngine} (hlock : s.interlockHolds ax = false)
    (hmode : ax.mode = .mix) (hpos : 0 < b.w) (hlt : b.w < 1024) :
    stagePlay ax (s.withBlend b) = s.reached { b with pj := b.prevC } .blend s.flags s.sched := by
  have hne : b.w ≠ Config.fullWeight := Nat.ne_of_lt hlt
  simp only [stagePlay, withBlend_interlockHolds, State.withBlend_blend, hlock, hmode, hne, hpos, and_false, true_and,
    Bool.false_eq_true, if_false, if_true]
  rfl

theorem stagePlay_full {ax : AxisSettings} {s : State} {b : BlendEngine} (hlock : s.interlockHolds ax = false)
    (hmode : ax.mode = .mix) (hw : b.w = 1024) : stagePlay ax (s.withBlend b) = takeover ax (s.withBlend b) := by
  simp [stagePlay, hlock, hmode, hw, Config.fullWeight]

/-- A takeover drops the plan, reports TAKEN_OVER and sets its flag; C is the jog stream, or in PLAY the previous C (R29). -/
theorem takeover_reached (ax : AxisSettings) (s : State) (b : BlendEngine) :
    takeover ax (s.withBlend b) = s.reached
      { b with plan := none, waiting := none, w := 0, d := 0,
               pj := if b.move = .play then b.prevC else b.pj,
               c := if b.move = .play then ax.limit b.prevC else b.pj }
      .jog (s.flags ||| 0x02) { s.sched with report := abandonReport .takenOver b s.sched.report } := by
  apply eq_reached
  · unfold takeover
    cases h : b.move <;> simp [h]
  · simp [takeover]
    split <;> simp
  · simp [takeover, EventFlag.mask]
    split <;> simp
  · simp [takeover]
    split <;> simp [abandonReport]
  · unfold takeover
    apply State.ext <;> simp <;> split <;> simp

/-- The interlock drops the plan and reports FAULTED (R36). -/
theorem interlockStop_reached (s : State) (b : BlendEngine) :
    interlockStop (s.withBlend b) = s.reached
      { b with stopCause := .interlock, plan := none, waiting := none, w := 0, d := 0 } .stopping s.flags
      { s.sched with report := abandonReport .faulted b s.sched.report } := by
  apply eq_reached
  case hothers => apply State.ext <;> simp [interlockStop]
  all_goals simp [interlockStop]

theorem arrive_reached {b : BlendEngine} {p : Plan} (h : b.plan = some p) (s : State) :
    arrive (s.withBlend b) = s.reached { b with plan := none, d := 0, park := 0 } .hold s.flags
      { s.sched with report := ⟨some p.cue, .arrived, .none⟩ } := by
  have harrive : arrive (s.withBlend b) =
      post p.cue .arrived .none (enterHold ((s.withBlend b).withBlend { b with d := 0, plan := none })) := by
    simp [arrive, h]
  rw [harrive]
  apply eq_reached
  case hothers => apply State.ext <;> simp [enterHold]
  all_goals simp [enterHold]

/-- Settles O22: neither weight nor arrival ends PLAY, so the expiry hands on stage 4's C. -/
theorem playFollowsThePlan : Obligations.PlayFollowsThePlan := by
  intro s ax p hrun hax hlaw hlock hmove hplan hk q hrest
  refine ⟨fun hmode hw hv => ?_, fun hmode => ?_⟩
  · have hfade : fadeWeight s.stickActive p.f s.blend.w = 0 := by simp [fadeWeight, hw, hv]
    have hu := Eq.trans (stages_of_play_mix hmove hplan hmode) <|
      Eq.trans (stagePlay_continues hlock (fun _ => hfade) rfl hrest) (hlaw.withBlend_reached hmove rfl)
    obtain ⟨hhanded, hblend, hsched⟩ := expiry_hands hu rfl (lockC_lockC ax s.drive s.blend.prevC _)
    exact ⟨_, exec_periodExpiry_axis hrun hax, hhanded, hsched, by rw [hblend, hfade, ← hmove, ← hw]; rfl⟩
  · have hu := Eq.trans (stages_of_play_add hmove hplan hmode) <|
      Eq.trans (stagePlay_continues hlock (by simp [hmode]) rfl hrest) (hlaw.withBlend_reached hmove rfl)
    obtain ⟨hhanded, hblend, hsched⟩ := expiry_hands hu rfl (lockC_lockC ax s.drive s.blend.prevC _)
    exact ⟨_, exec_periodExpiry_axis hrun hax, hhanded, hsched, by rw [hblend, ← hmove]; rfl⟩

/-- Settles O23: the weight after one period is the fade rate, at most 1024. -/
theorem pushInPlayBeginsTheBlend : Obligations.PushInPlayBeginsTheBlend := by
  intro s ax p hrun hax hlaw hlock hmove hplan hk hmode hw hv hf q c back
  have hfade : fadeWeight s.stickActive p.f s.blend.w = min 1024 p.f := by
    simp [fadeWeight, hw, hv, Config.fullWeight]
  refine ⟨_, exec_periodExpiry_axis hrun hax, fun hlt => ?_, fun hge => ?_⟩
  · rw [Nat.min_eq_right (Nat.le_of_lt hlt)] at hfade
    have hu := Eq.trans (stages_of_play_mix hmove hplan hmode) <|
      stagePlay_pushed hlock hmode (by rw [hfade]; exact hf) (by rw [hfade]; exact hlt)
    obtain ⟨hhanded, hblend, hsched⟩ := expiry_hands hu rfl (lockC_lockC ax s.drive s.blend.prevC _)
    exact ⟨hhanded, hsched, by rw [hblend, hfade]; rfl⟩
  · rw [Nat.min_eq_left hge] at hfade
    have hu := Eq.trans (stages_of_play_mix hmove hplan hmode) <|
      Eq.trans (stagePlay_full hlock hmode hfade) (takeover_reached ax s _)
    obtain ⟨hhanded, hblend, hsched⟩ := expiry_hands (c := back) hu rfl (by simp [hmove, back, MoveState.servoActive])
    exact ⟨hhanded, by rw [hsched]; simp [abandonReport], by rw [hblend]; simp [hmove]⟩

theorem locks_iff (d : DrivePort) (v : Int) :
    d.locks v = true ↔ (d.lowLock = true ∧ v < 0) ∨ (d.highLock = true ∧ 0 < v) := by simp [DrivePort.locks]

theorem fadeWeight_presented (s : State) (f w : Nat) :
    fadeWeight s.stickActive f w = if s.presentedVj ≠ 0 then min 1024 (w + f) else w - f := by
  simp only [fadeWeight, stickActive_iff, Config.fullWeight]

/-- BLEND by the weight that the fade leaves (R27, R29). -/
theorem stageBlend_free {ax : AxisSettings} {s : State} {b : BlendEngine} (hlock : s.interlockHolds ax = false) :
    (0 < b.w ∧ b.w < 1024 → stageBlend ax (s.withBlend b) = s.withBlend b) ∧
    (b.w = 0 → stageBlend ax (s.withBlend b) = s.reached b .play s.flags s.sched) ∧
    (b.w = 1024 → stageBlend ax (s.withBlend b) = takeover ax (s.withBlend b)) := by
  refine ⟨fun ⟨hpos, hlt⟩ => ?_, fun h => ?_, fun h => ?_⟩
  · simp [stageBlend, hlock, Config.fullWeight, Nat.ne_of_lt hlt, Nat.ne_of_gt hpos]
  · simp [stageBlend, hlock, Config.fullWeight, h, ← enterMove_reached]
  · simp [stageBlend, hlock, Config.fullWeight, h]

/-- Settles O24: by the weight that the fade leaves. -/
theorem blendCrossfadesPlanAndStick : Obligations.BlendCrossfadesPlanAndStick := by
  intro s ax p hrun hax hlaw hlock hmove hplan hk hmode q v w locked pj c taken
  have hstages : stageMove ax (stagesToC ax s) = stageBlend ax (s.withBlend { s.blend with
      plan := some q, w := w, pj := pj, c := c }) := by
    have h := stages_of_blend hmove hplan hmode
    simp only [fadeWeight_presented, locks_iff] at h
    exact h
  refine ⟨_, exec_periodExpiry_axis hrun hax, fun hw => ?stays, fun hw => ?returns, fun hw => ?taken⟩
  case stays =>
    have hu := Eq.trans hstages <| Eq.trans ((stageBlend_free hlock).1 hw) (hlaw.withBlend_reached hmove rfl)
    obtain ⟨hhanded, hblend, hsched⟩ := expiry_hands hu rfl (lockC_lockC ax s.drive s.blend.prevC _)
    exact ⟨hhanded, hsched, by rw [hblend, ← hmove]⟩
  case returns =>
    have hu := Eq.trans hstages <| (stageBlend_free hlock).2.1 hw
    obtain ⟨hhanded, hblend, hsched⟩ := expiry_hands hu rfl (lockC_lockC ax s.drive s.blend.prevC _)
    exact ⟨hhanded, hsched, hblend.trans <| congrArg
      (fun x => { s.blend with move := .play, plan := some q, w := x, pj := pj, c := c, prevC := c }) hw⟩
  case taken =>
    have hu := Eq.trans hstages <| Eq.trans ((stageBlend_free hlock).2.2 hw) (takeover_reached ax s _)
    obtain ⟨hhanded, hblend, hsched⟩ := expiry_hands (c := taken) hu rfl
      (by simp [hmove, taken, MoveState.servoActive])
    exact ⟨hhanded, by rw [hsched]; simp [abandonReport, q, ← Plan.advance_eq], by rw [hblend]; simp [hmove]⟩

theorem fadeWeight_zero {s : State} (hw : s.blend.w = 0) (hv : s.presentedVj = 0) (f : Nat) :
    fadeWeight s.stickActive f s.blend.w = 0 := by simp [fadeWeight, hw, hv]

/-- Settles O25: the plan's last position is its target. -/
theorem planArrivesAtRest : Obligations.PlanArrivesAtRest := by
  intro s ax p hrun hax hlaw hlock hmove hplan hn hk hlast hrest hquiet d c
  have hend : p.advance.k = p.advance.n := by
    rw [Plan.advance_n, Plan.advance_eq]
    split
    · dsimp only
      omega
    · omega
  have hposition : p.advance.position = p.t := by
    rw [p.advance.position_end (by simpa using hn) hend, Plan.advance_t]
  have hu : stageMove ax (stagesToC ax s) = s.reached { s.blend with plan := none, c := c, d := 0, park := 0 } .hold
      s.flags { s.sched with report := ⟨some p.cue, .arrived, .none⟩ } := by
    cases hmode : ax.mode with
    | mix =>
      obtain ⟨hw, hv⟩ := hquiet hmode
      rw [stages_of_play_mix hmove hplan hmode, fadeWeight_zero hw hv, stagePlay_arrives hlock (fun _ => rfl) rfl hend hrest,
        arrive_reached rfl, hposition, Plan.advance_cue]
      simp [c, d, hmode, hw]
    | add =>
      refine (stages_of_play_add hmove hplan hmode).trans ?_
      rw [stagePlay_arrives hlock (by simp [hmode]) rfl hend hrest, arrive_reached rfl, hposition, Plan.advance_cue]
      simp [c, d, hmode, divTrunc]
  obtain ⟨hhanded, hblend, hsched⟩ := expiry_hands hu rfl (lockC_lockC ax s.drive s.blend.prevC _)
  exact ⟨_, exec_periodExpiry_axis hrun hax, hhanded, by rw [hsched], hblend⟩

/-! ## The interlock (R36) -/

/-- The Blend Engine after the interlock's stop, from the C of stage 4 and the jog stream. -/
def interlocked (s : State) (c pj : Int) : BlendEngine :=
  { s.blend with stopCause := .interlock, plan := none, waiting := none, w := 0, d := 0, pj := pj, c := c }

theorem stages_of_hold_interlocked {ax : AxisSettings} {s : State} (hlock : s.interlockHolds ax = true)
    (h : s.blend.move = .hold) :
    stageMove ax (stagesToC ax s) = interlockStop (setC (lockC ax s.drive s.blend.prevC (ax.limit s.blend.c)) s) := by
  rw [stages_of_hold ax h, stageHold, setC, withBlend_interlockHolds, if_pos hlock]

theorem stages_of_jog_interlocked {ax : AxisSettings} {s : State} (hlock : s.interlockHolds ax = true)
    (h : s.blend.move = .jog) :
    stageMove ax (stagesToC ax s) =
      interlockStop (setC (lockC ax s.drive s.blend.prevC (ax.limit (s.blend.c + s.presentedVj))) s) := by
  rw [stages_of_jog ax h, stageJog, setC, withBlend_interlockHolds, if_pos hlock]

/-- PLAY stopped by the interlock: the plan in progress is reported; weight and trim are dropped. -/
theorem stages_of_play_interlocked {ax : AxisSettings} {s : State} {p : Plan} (hlock : s.interlockHolds ax = true)
    (h : s.blend.move = .play) (hplan : s.blend.plan = some p) :
    stageMove ax (stagesToC ax s) = s.reached (interlocked s (lockC ax s.drive s.blend.prevC (ax.limit
        (p.advance.position + (s.blend.d +
          if ax.mode = .add then Int.tdiv (s.presentedVj * ax.trimScale) 1024 else 0)))) s.blend.pj)
      .stopping s.flags { s.sched with report := ⟨some p.cue, .abandoned, .faulted⟩ } := by
  have hstop : ∀ b, stagePlay ax (s.withBlend b) = interlockStop (s.withBlend b) := fun b => by
    rw [stagePlay, withBlend_interlockHolds, if_pos hlock]
  cases hmode : ax.mode with
  | mix =>
    rw [stages_of_play_mix h hplan hmode, hstop, interlockStop_reached]
    simp [interlocked, abandonReport]
  | add =>
    refine (stages_of_play_add h hplan hmode).trans ?_
    rw [hstop, interlockStop_reached]
    simp [interlocked, abandonReport, divTrunc]

theorem stages_of_blend_interlocked {ax : AxisSettings} {s : State} {p : Plan} (hlock : s.interlockHolds ax = true)
    (h : s.blend.move = .blend) (hplan : s.blend.plan = some p) (hmode : ax.mode = .mix) :
    let w := fadeWeight s.stickActive p.f s.blend.w
    let pj := ax.limit (if s.drive.locks s.presentedVj then s.blend.pj else s.blend.pj + s.presentedVj)
    stageMove ax (stagesToC ax s) = s.reached (interlocked s (lockC ax s.drive s.blend.prevC (ax.limit
        ((p.advance.position * (1024 - w) + pj * w) / 1024))) pj)
      .stopping s.flags { s.sched with report := ⟨some p.cue, .abandoned, .faulted⟩ } := by
  have hstop : ∀ b, stageBlend ax (s.withBlend b) = interlockStop (s.withBlend b) := fun b => by
    rw [stageBlend, withBlend_interlockHolds, if_pos hlock]
  refine (stages_of_blend h hplan hmode).trans ?_
  rw [hstop, interlockStop_reached]
  simp [interlocked, abandonReport]

theorem State.BlendLaw.abandonReport_eq {s : State} (h : s.BlendLaw) (hmove : s.blend.move = .hold ∨ s.blend.move = .jog)
    (why : Reason) (c : Int) (r : CueReport) : abandonReport why { s.blend with c := c } r = r := by
  have hplan : s.blend.plan = none := by
    have := h.plan
    obtain hm | hm := hmove <;> simpa [hm, MoveState.planned] using this
  have hwaiting : s.blend.waiting = none := by
    refine Classical.byContradiction fun hne => ?_
    have := h.waiting (Option.isSome_iff_ne_none.2 hne)
    obtain hm | hm := hmove <;> simp [hm] at this
  simp [abandonReport, hplan, hwaiting]

/-- Settles O26: the C of stage 4 by move state, then the stop. -/
theorem interlockStopsTheAxis : Obligations.InterlockStopsTheAxis := by
  intro s ax hrun hax hlaw hblendLaw hlock hmove v stopped
  refine ⟨_, exec_periodExpiry_axis hrun hax, fun h => ?hold, fun h => ?jog, fun p hplan => ?planned⟩
  case hold =>
    have hu := Eq.trans (stages_of_hold_interlocked hlock h) (interlockStop_reached s _)
    rw [hblendLaw.abandonReport_eq (.inl h)] at hu
    obtain ⟨hhanded, hblend, hsched⟩ := expiry_hands hu rfl (lockC_lockC ax s.drive s.blend.prevC _)
    exact ⟨hsched, hhanded, hblend⟩
  case jog =>
    have hu := Eq.trans (stages_of_jog_interlocked hlock h) (interlockStop_reached s _)
    rw [hblendLaw.abandonReport_eq (.inr h)] at hu
    obtain ⟨hhanded, hblend, hsched⟩ := expiry_hands hu rfl (lockC_lockC ax s.drive s.blend.prevC _)
    exact ⟨hsched, hhanded, hblend⟩
  case planned =>
    have hplanned : s.blend.move = .play ∨ s.blend.move = .blend := by
      have := hblendLaw.plan
      cases hm : s.blend.move <;> simp [hplan, hm, MoveState.planned] at this ⊢
    obtain h | h := hplanned
    · have hu := stages_of_play_interlocked hlock h hplan
      obtain ⟨hhanded, hblend, hsched⟩ := expiry_hands hu rfl (lockC_lockC ax s.drive s.blend.prevC _)
      exact ⟨hsched, fun _ => ⟨hhanded, hblend⟩, fun hb => by simp [h] at hb⟩
    · have hu := stages_of_blend_interlocked hlock h hplan (hblendLaw.mix ax hax h)
      simp only [fadeWeight_presented, locks_iff] at hu
      obtain ⟨hhanded, hblend, hsched⟩ := expiry_hands hu rfl (lockC_lockC ax s.drive s.blend.prevC _)
      exact ⟨hsched, fun hb => by simp [h] at hb, fun _ => ⟨hhanded, hblend⟩⟩

/-! ## STOPPING and INTERLOCKED (R35, R37) -/

theorem stageStopping_eq (ax : AxisSettings) (s : State) (b : BlendEngine) :
    let cause := if s.interlockHolds ax then .interlock else b.stopCause
    (s.limiter.v0 ≠ 0 → stageStopping ax (s.withBlend b) = s.withBlend { b with stopCause := cause }) ∧
    (s.limiter.v0 = 0 → cause = .interlock → stageStopping ax (s.withBlend b) = s.reached
      { b with stopCause := .interlock, c := ax.limit s.limiter.setpoint, park := 0 } .interlocked s.flags s.sched) ∧
    (s.limiter.v0 = 0 → cause ≠ .interlock → stageStopping ax (s.withBlend b) = s.reached
      { b with stopCause := .none, c := ax.limit s.limiter.setpoint, park := 0 } .hold s.flags s.sched) := by
  intro cause
  have hcause : (if (s.withBlend b).interlockHolds ax then setStopCause .interlock (s.withBlend b) else s.withBlend b) =
      s.withBlend { b with stopCause := cause } := by
    rw [withBlend_interlockHolds]
    simp only [cause]
    split <;> rfl
  simp only [stageStopping, hcause, State.withBlend_limiter]
  refine ⟨fun h => if_neg h, fun h hstop => ?_, fun h hstop => ?_⟩
  · rw [if_pos h, hstop]
    rfl
  · rw [if_pos h]
    simp only [endStop, setCFromSetpoint, zeroPark_blend, setC_blend, State.withBlend_blend, hstop, if_false]
    rfl

/-- Settles O27: the stop's cause by the interlock, then by v0. -/
theorem stopEndsAtRest : Obligations.StopEndsAtRest := by
  intro s ax hrun hax hlaw held reached cause
  refine ⟨fun h => ?stopping, fun h => ?interlocked⟩
  case stopping =>
    obtain ⟨hgoes, hlocks, hholds⟩ := stageStopping_eq ax s { s.blend with c := held }
    have hstages : stageMove ax (stagesToC ax s) = stageStopping ax (s.withBlend { s.blend with c := held }) :=
      stages_of_stopping ax h
    have hlock := lockC_lockC ax s.drive s.blend.prevC
    refine ⟨_, exec_periodExpiry_axis hrun hax, ?_⟩
    by_cases hv : s.limiter.v0 = 0
    · by_cases hcause : cause = .interlock
      · obtain ⟨hhanded, hblend, hsched⟩ := expiry_hands (c := reached) (Eq.trans hstages (hlocks hv hcause)) rfl rfl
        exact ⟨hsched, fun h => absurd hv h, fun _ _ => ⟨hhanded, hblend⟩, fun _ h => absurd hcause h⟩
      · obtain ⟨hhanded, hblend, hsched⟩ := expiry_hands (c := reached) (Eq.trans hstages (hholds hv hcause)) rfl rfl
        exact ⟨hsched, fun h => absurd hv h, fun _ h => absurd h hcause, fun _ _ => ⟨hhanded, hblend⟩⟩
    · obtain ⟨hhanded, hblend, hsched⟩ := expiry_hands
        (Eq.trans hstages (Eq.trans (hgoes hv) (hlaw.withBlend_reached h rfl))) rfl (hlock _)
      exact ⟨hsched, fun _ => ⟨hhanded, by rw [hblend, ← h]⟩, fun h => absurd h hv, fun h => absurd h hv⟩
  case interlocked =>
    have hstages := stages_of_interlocked ax h
    have hlock := lockC_lockC ax s.drive s.blend.prevC
    refine ⟨_, exec_periodExpiry_axis hrun hax, ?_⟩
    cases hheld : s.interlockHolds ax with
    | true =>
      have hstays : stageInterlocked ax (setC held s) = setC held s := if_pos hheld
      obtain ⟨hhanded, hblend, hsched⟩ := expiry_hands
        (Eq.trans hstages (Eq.trans hstays (hlaw.withBlend_reached h rfl))) rfl (hlock _)
      exact ⟨hsched, fun _ => ⟨hhanded, by rw [hblend, ← h]⟩, fun h => by simp at h⟩
    | false =>
      have hleaves : stageInterlocked ax (setC held s) = s.reached { s.blend with
          stopCause := .none, c := held, park := 0 } .hold s.flags s.sched :=
        if_neg (by simp [setC, hheld])
      obtain ⟨hhanded, hblend, hsched⟩ := expiry_hands (Eq.trans hstages hleaves) rfl (hlock _)
      exact ⟨hsched, fun h => by simp at h, fun _ => ⟨hhanded, hblend⟩⟩

/-! ## Parking (R38, R39) -/

theorem parkDue_of {s : State} {ax : AxisSettings} (hax : s.axis? = some ax) (hmove : s.blend.move = .hold)
    (hlock : s.interlockHolds ax = false) (hv : s.presentedVj = 0) (hrest : s.atRest = true) (h0 : ax.parkTime ≠ 0)
    (hdue : ax.parkTime * 1000 ≤ s.blend.park + 1) : s.parkDue = true := by
  simp [State.parkDue, hax, hmove, hlock, stickActive_of_zero hv, hrest, h0, hdue]

theorem brakeSetDue_of {s : State} {ax : AxisSettings} (hax : s.axis? = some ax) (hmove : s.blend.move = .parking)
    (hv : s.presentedVj = 0) (hdue : s.blend.brake ≤ 1) : s.brakeSetDue = true := by
  simp [State.brakeSetDue, hax, hmove, stickActive_of_zero hv, hdue]

theorem releaseDue_of {s : State} {ax : AxisSettings} (hax : s.axis? = some ax) (hmove : s.blend.move = .releasing)
    (hdue : s.blend.brake ≤ 1) : s.releaseDue = true := by
  simp [State.releaseDue, hax, hmove, hdue]

/-- PARKING without the stick counts its brake time down (R39). -/
theorem stageParking_counts (ax : AxisSettings) {s : State} (hv : s.presentedVj = 0) :
    stageParking ax s =
      if s.blend.brake - 1 = 0 then s.reached { s.blend with brake := s.blend.brake - 1 } .parked s.flags s.sched
      else s.withBlend { s.blend with brake := s.blend.brake - 1 } := by
  simp only [stageParking, stickActive_of_zero hv, Bool.false_eq_true, if_false, State.withBlend_blend, enterMove_reached]
  rfl

/-- Settles O28: the named events are due, and the expiry then enters PARKING or PARKED. -/
theorem parkingSetsTheBrake : Obligations.ParkingSetsTheBrake := by
  intro s ax hrun hax hlaw hv
  refine ⟨fun h hlock hrest h0 hdue => ?parks, fun h hcount => ?counts, fun h hdue => ?set⟩
  case parks =>
    intro held
    have hexec : exec .parkTimeElapsed s = .next (axisPeriod ax s) := by
      rw [← periodExpiry_axis hax]
      exact whenDue_due hrun (parkDue_of hax h hlock hv hrest h0 hdue) periodExpiry
    have hu : stageMove ax (stagesToC ax s) = s.reached { s.blend with
        c := held, park := s.blend.park + 1, brake := ax.brakeSetTime } .parking s.flags s.sched :=
      (stages_of_hold ax h).trans (stageHold_parks (s := setC held s) hlock hv hrest h0 hdue)
    obtain ⟨hhanded, hblend, hsched⟩ := expiry_hands hu rfl rfl
    exact ⟨_, hexec, hhanded, hsched, hblend⟩
  case counts =>
    have hu : stageMove ax (stagesToC ax s) =
        s.reached { s.blend with brake := s.blend.brake - 1 } .parking s.flags s.sched := by
      rw [stages_of_parking ax h, stageParking_counts ax hv, if_neg (by omega)]
      exact hlaw.withBlend_reached h rfl
    obtain ⟨hhanded, hblend, hsched⟩ := expiry_hands (c := s.blend.c) hu rfl rfl
    exact ⟨_, exec_periodExpiry_axis hrun hax, hhanded, hsched, by rw [hblend, ← h]⟩
  case set =>
    have hexec : exec .brakeSetComplete s = .next (axisPeriod ax s) := by
      rw [← periodExpiry_axis hax]
      exact whenDue_due hrun (brakeSetDue_of hax h hv hdue) periodExpiry
    have hu : stageMove ax (stagesToC ax s) = s.reached { s.blend with brake := 0 } .parked s.flags s.sched := by
      have hzero : s.blend.brake - 1 = 0 := by omega
      rw [stages_of_parking ax h, stageParking_counts ax hv, if_pos hzero, hzero]
    obtain ⟨hhanded, hblend, hsched⟩ := expiry_hands (c := s.blend.c) hu rfl rfl
    exact ⟨_, hexec, hhanded, hsched, hblend⟩

/-! ## Brake release (R39 to R41) -/

section Chained

variable (s : State) (b : BlendEngine) (m : MoveState) (f : FlagSet) (q : CueScheduler)

@[simp] theorem reached_reached (b' : BlendEngine) (m' : MoveState) (f' : FlagSet) (q' : CueScheduler) :
    (s.reached b m f q).reached b' m' f' q' = s.reached b' m' f' q' := by
  apply State.ext <;> simp [State.reached]
theorem reached_withBlend (b' : BlendEngine) (h : b'.move = m) :
    (s.reached b m f q).withBlend b' = s.reached b' m f q := by
  apply State.ext <;> simp [State.reached, ← h]
theorem reached_congr {b' : BlendEngine} (h : { b with move := m } = { b' with move := m }) :
    s.reached b m f q = s.reached b' m f q := by
  simp only [BlendEngine.mk.injEq, true_and] at h
  apply State.ext <;> simp [State.reached, h]
@[simp] theorem reached_limiter : (s.reached b m f q).limiter = s.limiter := by simp [State.reached]
@[simp] theorem reached_presentedVj : (s.reached b m f q).presentedVj = s.presentedVj := rfl
@[simp] theorem reached_interlockHolds (ax : AxisSettings) : (s.reached b m f q).interlockHolds ax = s.interlockHolds ax :=
  interlockHolds_congr rfl ax

end Chained

theorem interlockStop_of_reached (s : State) (b : BlendEngine) (m : MoveState) (f : FlagSet) (q : CueScheduler) :
    interlockStop (s.reached b m f q) = s.reached
      { b with stopCause := .interlock, plan := none, waiting := none, w := 0, d := 0 } .stopping f
      { q with report := abandonReport .faulted b q.report } := by
  have h := interlockStop_reached (s.reached b m f q) { b with move := m }
  rw [reached_withBlend s b m f q _ rfl, reached_reached, reached_flags, reached_sched] at h
  exact h

/-- What the release completes into: the pending plan from the setpoint reached, the stick, or HOLD (R41). -/
theorem releaseInto_eq (ax : AxisSettings) (s : State) :
    (∀ p, s.blend.waiting = some p → releaseInto ax s = s.reached { s.blend with
      c := ax.limit s.limiter.setpoint, plan := some (p.start (ax.limit s.limiter.setpoint)), waiting := none, w := 0,
      d := 0 } .play s.flags s.sched) ∧
    (s.blend.waiting = none → releaseInto ax s = s.reached { s.blend with c := ax.limit s.limiter.setpoint }
      (if s.presentedVj ≠ 0 then .jog else .hold) s.flags s.sched) := by
  refine ⟨fun p h => ?_, fun h => ?_⟩
  · simp only [releaseInto, setCFromSetpoint, setC_blend, h]
    rfl
  · simp only [releaseInto, setCFromSetpoint, setC, State.withBlend_blend, h, withBlend_stickActive, stickActive_iff]
    by_cases hv : s.presentedVj ≠ 0
    · rw [if_pos hv, if_pos hv, enterMove_reached]
    · rw [if_neg hv, if_neg hv, enterMove_reached]

/-- A release that completes with the interlock free (R41). -/
theorem completeRelease_free {ax : AxisSettings} {s : State} (hlock : s.interlockHolds ax = false) :
    (∀ p, s.blend.waiting = some p → completeRelease ax s = s.reached { s.blend with
      c := ax.limit s.limiter.setpoint, plan := some (p.start (ax.limit s.limiter.setpoint)), waiting := none, w := 0,
      d := 0, park := 0, brake := 0 } .play s.flags s.sched) ∧
    (∀ m, m = (if s.presentedVj ≠ 0 then .jog else .hold) → s.blend.waiting = none → completeRelease ax s =
      s.reached { s.blend with c := ax.limit s.limiter.setpoint, park := 0, brake := 0 } m s.flags s.sched) := by
  obtain ⟨hplan, hnone⟩ := releaseInto_eq ax (s.withBlend { s.blend with brake := 0 })
  refine ⟨fun p h => ?_, fun m hm h => ?_⟩
  · rw [completeRelease, hplan p h, reached_interlockHolds, withBlend_interlockHolds, hlock]
    rfl
  · rw [completeRelease, hnone h, reached_interlockHolds, withBlend_interlockHolds, hlock, hm]
    rfl

/-- A release that completes under the interlock stops at once, and drops a pending plan (R36, R41). -/
theorem completeRelease_interlocked {ax : AxisSettings} {s : State} (hlock : s.interlockHolds ax = true)
    (hplan : s.blend.plan = none) :
    completeRelease ax s = s.reached { s.blend with
      stopCause := .interlock, waiting := none, w := 0, d := 0, c := ax.limit s.limiter.setpoint, park := 0, brake := 0 }
      .stopping s.flags { s.sched with report := match s.blend.waiting with
        | some p => ⟨some p.cue, .abandoned, .faulted⟩
        | none => s.sched.report } := by
  obtain ⟨hpending, hnone⟩ := releaseInto_eq ax (s.withBlend { s.blend with brake := 0 })
  cases h : s.blend.waiting with
  | some p =>
    rw [completeRelease, hpending p h, reached_interlockHolds, withBlend_interlockHolds, if_pos hlock,
      interlockStop_of_reached]
    simp only [← hplan]
    rfl
  | none =>
    rw [completeRelease, hnone h, reached_interlockHolds, withBlend_interlockHolds, if_pos hlock,
      interlockStop_of_reached]
    simp only [abandonReport, State.withBlend_blend, hplan, h]
    rfl

/-- RELEASING is entered with the setpoint and C on the measured position (R33, R40, R67). -/
theorem enterReleasing_eq (ax : AxisSettings) (s : State) :
    enterReleasing ax s = (trackSetpoint s).reached { s.blend with
      c := s.drive.measured * 16, brake := ax.brakeReleaseTime } .releasing s.flags s.sched := by
  apply State.ext <;> simp [enterReleasing, State.reached, trackSetpoint, Config.subCounts]

/-- The stick in PARKED or PARKING begins the release (R39, R40). -/
theorem stages_of_push {ax : AxisSettings} {s : State} (h : s.blend.move = .parked ∨ s.blend.move = .parking)
    (hv : s.presentedVj ≠ 0) :
    stageMove ax (stagesToC ax s) = completeIfZero ax ((trackSetpoint s).reached { s.blend with
      c := s.drive.measured * 16, brake := ax.brakeReleaseTime } .releasing s.flags s.sched) := by
  obtain h | h := h
  · rw [stages_of_parked ax h, stageParked, setC, withBlend_stickActive, if_pos (stickActive_of_ne hv), enterReleasing_eq]
    rfl
  · rw [stages_of_parking ax h, stageParking, if_pos (stickActive_of_ne hv), enterReleasing_eq]

theorem stageReleasing_counts (ax : AxisSettings) {s : State} (h : 2 ≤ s.blend.brake) :
    stageReleasing ax s = s.withBlend { s.blend with brake := s.blend.brake - 1 } :=
  if_neg (by simp; omega)

theorem stageReleasing_completes (ax : AxisSettings) {s : State} (h : s.blend.brake ≤ 1) :
    stageReleasing ax s = completeRelease ax (s.withBlend { s.blend with brake := s.blend.brake - 1 }) :=
  if_pos (by simp; omega)

/-- Settles O29: the release as it begins, runs and completes. -/
theorem releaseCompletesIntoPlanOrStick : Obligations.ReleaseCompletesIntoPlanOrStick := by
  intro s ax hrun hax hlaw m
  refine ⟨fun h hv hr => ?begins, fun h hv hr hplan hwaiting => ?atOnce, fun h hcount => ?counts, fun h hdue => ?completes⟩
  case begins =>
    have hu := (stages_of_push (ax := ax) h hv).trans (if_neg (by simp; omega))
    obtain ⟨hhanded, hblend, hsched⟩ := expiry_hands (c := m * 16) hu rfl rfl
    have hlimiter : (axisPeriod ax s).limiter = ⟨m * 16, 0, m, 0⟩ := by
      rw [hhanded.limiter, MotionLimiter.step_held (.inr rfl)]
      rfl
    refine ⟨_, exec_periodExpiry_axis hrun hax, hsched, hlimiter, hblend, ?_⟩
    rw [hhanded.drive, hlimiter]
    rfl
  case atOnce =>
    intro c tracked
    have hstages := (stages_of_push (ax := ax) h hv).trans (if_pos (by simpa using hr))
    have hreleasing : ∀ b, State.interlockHolds ax ((trackSetpoint s).reached b .releasing s.flags s.sched) =
        s.interlockHolds ax := fun b => (reached_interlockHolds ..).trans (interlockHolds_congr rfl ax)
    refine ⟨_, exec_periodExpiry_axis hrun hax, ?_⟩
    cases hlock : s.interlockHolds ax with
    | false =>
      have hu : stageMove ax (stagesToC ax s) = (trackSetpoint s).reached { s.blend with
          c := ax.limit (m * 16), park := 0, brake := 0 } .jog s.flags s.sched := by
        rw [hstages, (completeRelease_free ((hreleasing _).trans hlock)).2 .jog (if_pos hv).symm (by simpa using hwaiting),
          reached_reached]
        simp only [reached_flags, reached_sched, reached_limiter, trackSetpoint_limiter]
        exact reached_congr _ _ _ _ _ (by simp [m])
      obtain ⟨hhanded, hblend, hsched⟩ := expiry_hands (c := c) hu rfl rfl
      exact ⟨hsched, fun _ => ⟨hhanded, hblend⟩, fun h => by simp at h⟩
    | true =>
      have hu : stageMove ax (stagesToC ax s) = (trackSetpoint s).reached { s.blend with
          stopCause := .interlock, w := 0, d := 0, c := ax.limit (m * 16), park := 0, brake := 0 } .stopping s.flags
          s.sched := by
        rw [hstages, completeRelease_interlocked ((hreleasing _).trans hlock) (by simpa using hplan), reached_reached]
        simp only [reached_flags, reached_sched, reached_limiter, trackSetpoint_limiter, reached_blend, hwaiting]
        exact reached_congr _ _ _ _ _ (by simp [m])
      obtain ⟨hhanded, hblend, hsched⟩ := expiry_hands (c := c) hu rfl rfl
      exact ⟨hsched, fun h => by simp at h, fun _ => ⟨hhanded, hblend⟩⟩
  case counts =>
    have hu := (stages_of_releasing ax h).trans <|
      (stageReleasing_counts ax hcount).trans (hlaw.withBlend_reached (b := { s.blend with brake := _ }) h rfl)
    obtain ⟨hhanded, hblend, hsched⟩ := expiry_hands (c := s.blend.c) hu rfl rfl
    exact ⟨_, exec_periodExpiry_axis hrun hax, hhanded, hsched, by rw [hblend, ← h]⟩
  case completes =>
    intro start c
    have hexec : exec .releaseComplete s = .next (axisPeriod ax s) := by
      rw [← periodExpiry_axis hax]
      exact whenDue_due hrun (releaseDue_of hax h hdue) periodExpiry
    have hstages := (stages_of_releasing ax h).trans (stageReleasing_completes ax hdue)
    refine ⟨_, hexec, fun hlock => ?_, fun hlock hplan => ?_⟩
    · obtain ⟨hpending, hnone⟩ := completeRelease_free (ax := ax)
        (s := s.withBlend { s.blend with brake := s.blend.brake - 1 }) hlock
      cases hw : s.blend.waiting with
      | some p =>
        obtain ⟨hhanded, hblend, hsched⟩ := expiry_hands (s₀ := s) (c := c) (hstages.trans (hpending p hw)) rfl rfl
        refine ⟨hsched, fun p' hp' => ?_, fun h => by simp at h⟩
        cases hp'
        exact ⟨hhanded, hblend⟩
      | none =>
        obtain ⟨hhanded, hblend, hsched⟩ := expiry_hands (s₀ := s) (c := c) (hstages.trans (hnone _ rfl hw)) rfl
          (by split <;> rfl)
        exact ⟨hsched, fun p hp => by simp at hp, fun _ => ⟨hhanded, hblend⟩⟩
    · obtain ⟨hhanded, hblend, hsched⟩ := expiry_hands (s₀ := s) (c := c)
        (hstages.trans (completeRelease_interlocked (s := s.withBlend { s.blend with brake := s.blend.brake - 1 })
          hlock hplan)) rfl rfl
      exact ⟨hhanded, hblend, by rw [hsched]; rfl⟩

end Sys2Proof.Machine

/-! A GO (spec/02_the_blend_engine.md, 2.2, 2.5, 2.8): what it starts at once, the pending plan it leaves to the brake, its
refusals, and the statements O30 and O31 assembled from them. -/
namespace Sys2Proof.Machine

theorem fire_go (ax : AxisSettings) {f : Firing} (h : f.kind = .go) (s : State) : fire ax f s = goCue ax f s := by
  simp only [fire, h]

/-! ## Which GO it is (R31) -/

theorem goCue_notReady (ax : AxisSettings) (f : Firing) {s : State} (h : s.blend.move = .start ∨ s.blend.move = .fault) :
    goCue ax f s = post f.cue .refused .notReady s := by
  obtain h | h := h <;> simp only [goCue, h]

theorem goCue_interlocked (ax : AxisSettings) (f : Firing) {s : State}
    (h : s.blend.move = .interlocked ∨ (s.blend.move = .stopping ∧ s.blend.stopCause = .interlock)) :
    goCue ax f s = post f.cue .refused .interlock s := by
  obtain h | ⟨h, hcause⟩ := h
  · simp only [goCue, h]
  · simp only [goCue, h, hcause, if_true]

/-- The states in which a GO with a good preset starts its plan at once (R31, R32). -/
def State.goesAtOnce (s : State) : Prop :=
  s.blend.move ∈ [.hold, .jog, .play, .blend] ∨ (s.blend.move = .stopping ∧ s.blend.stopCause ≠ .interlock)

theorem goCue_atOnce (ax : AxisSettings) (f : Firing) {s : State} (h : s.goesAtOnce) :
    (s.presets.target? f.preset = none → goCue ax f s = post f.cue .refused .invalidPreset s) ∧
    ∀ t, s.presets.target? f.preset = some t → goCue ax f s = goNow ax f t s := by
  simp only [State.goesAtOnce, List.mem_cons, List.not_mem_nil, or_false] at h
  have hcause : s.blend.move = .stopping → s.blend.stopCause ≠ .interlock := fun hm => by
    obtain h | ⟨-, h⟩ := h
    · simp [hm] at h
    · exact h
  have hmove : s.blend.move = .hold ∨ s.blend.move = .jog ∨ s.blend.move = .play ∨ s.blend.move = .blend ∨
      s.blend.move = .stopping := by simpa only [or_assoc] using h.imp_right And.left
  refine ⟨fun hnone => ?_, fun t hsome => ?_⟩
  · obtain h | h | h | h | h := hmove <;> simp only [goCue, h, hnone]
    rw [if_neg (hcause h)]
  · obtain h | h | h | h | h := hmove <;> simp only [goCue, h, hsome]
    rw [if_neg (hcause h)]

theorem goCue_waits (ax : AxisSettings) (f : Firing) {s : State} (h : s.blend.move ∈ [.parked, .parking, .releasing]) :
    (s.presets.target? f.preset = none → goCue ax f s = post f.cue .refused .invalidPreset s) ∧
    ∀ t, s.presets.target? f.preset = some t → goCue ax f s = goPending ax f t s := by
  simp only [List.mem_cons, List.not_mem_nil, or_false] at h
  refine ⟨fun hnone => ?_, fun t hsome => ?_⟩
  · obtain h | h | h := h <;> simp only [goCue, h, hnone]
  · obtain h | h | h := h <;> simp only [goCue, h, hsome]

/-! ## A GO at once (R32) -/

/-- The plan record that a GO makes from the position it starts at (R18, R32). -/
def goPlan (ax : AxisSettings) (f : Firing) (target p0 : Int) : Plan :=
  ⟨p0, target * 16, planLength f.duration, 0, f.cue, fadeInForce ax f.fade, f.late⟩

@[simp] theorem beginPlan_blend (p : Plan) (s : State) :
    (beginPlan p s).blend = { s.blend with move := .play, plan := some p, waiting := none, w := 0, d := 0 } := rfl
@[simp] theorem beginPlan_drive (p : Plan) (s : State) :
    (beginPlan p s).drive = { s.drive with enable := true, brake := .released } := rfl

/-- What a GO at once leaves of the state it replaces: a plan is abandoned, a stop ends at the setpoint reached (R32). -/
theorem leaveForGo_blend (ax : AxisSettings) {s : State} (h : s.goesAtOnce) (p : Plan) :
    { (leaveForGo ax s).blend with move := .play, plan := some p, waiting := none, w := 0, d := 0 } =
      { s.blend with
        move := .play, plan := some p, waiting := none, w := 0, d := 0,
        c := if s.blend.move = .stopping then ax.limit s.limiter.setpoint else s.blend.c,
        stopCause := if s.blend.move = .stopping then .none else s.blend.stopCause } := by
  simp only [State.goesAtOnce, List.mem_cons, List.not_mem_nil, or_false] at h
  obtain (h | h | h | h) | ⟨h, -⟩ := h <;> simp [leaveForGo, h, setCFromSetpoint]

/-- A GO at once replaces what was in progress and starts its plan (R32). -/
theorem goNow_reached (ax : AxisSettings) (f : Firing) (target : Int) {s : State} (h : s.goesAtOnce) :
    let p0 := if s.blend.move = .stopping then ax.limit s.limiter.setpoint else s.blend.c
    goNow ax f target s = s.reached { s.blend with
      waiting := none, w := 0, d := 0, c := p0,
      stopCause := if s.blend.move = .stopping then .none else s.blend.stopCause,
      plan := some (goPlan ax f target p0) } .play s.flags { s.sched with report := ⟨some f.cue, .moving, .none⟩ } := by
  intro p0
  have hnow : goNow ax f target s =
      post f.cue .moving .none (beginPlan (goPlan ax f target (leaveForGo ax s).blend.c) (leaveForGo ax s)) := rfl
  have hc : (leaveForGo ax s).blend.c = p0 := by
    simpa using congrArg BlendEngine.c (leaveForGo_blend ax h (goPlan ax f target p0))
  rw [hnow, hc]
  have hsched : (leaveForGo ax s).sched.armed = s.sched.armed := by
    unfold leaveForGo; split <;> simp
  apply eq_reached
  case hb => simpa using leaveForGo_blend ax h (goPlan ax f target p0)
  case hq => simp [hsched]
  case hothers => apply State.ext <;> simp
  all_goals simp [MoveState.driveEnable, MoveState.brakeOutput]

/-- What a firing may not touch, of a state that differs in the Blend Engine's items alone. -/
theorem cueFrame_reached (s : State) (b : BlendEngine) (m : MoveState) (f : FlagSet) (q : CueScheduler) :
    cueFrame s (s.reached b m f q) := by
  unfold cueFrame
  apply State.ext <;> simp [State.reached]

/-- Settles O30: the refusals by move state and preset, and the plan record. -/
theorem goStartsThePlan : Obligations.GoStartsThePlan := by
  intro ax f s hkind
  rw [fire_go ax hkind]
  refine ⟨goCue_notReady ax f, fun h => (goCue_waits ax f h).1, goCue_interlocked ax f,
    fun h => ⟨(goCue_atOnce ax f h).1, fun target htarget => ?_⟩⟩
  rw [(goCue_atOnce ax f h).2 target htarget, goNow_reached ax f target h]
  exact ⟨reached_blend .., reached_sched .., reached_drive .., reached_limiter .., reached_flags .., cueFrame_reached ..⟩

/-! ## A GO that waits for the brake (R33) -/

theorem planLength_pos (n : Nat) : 1 ≤ planLength n := Nat.le_max_left ..

/-- The pending plan is put beside the release's brake count, LATE when its length is clipped (R33, R45). -/
theorem putPending_reached (ax : AxisSettings) (f : Firing) (target : Int) (s : State) (b : BlendEngine) (m : MoveState)
    (fl : FlagSet) (q : CueScheduler) :
    putPending ax f target (s.reached b m fl q) = s.reached
      { b with waiting := some (pendingPlan ax f target b.brake) } m
      (if planLength f.duration ≤ b.brake then fl ||| 0x10 else fl)
      { q with report := ⟨some f.cue, .moving, .none⟩ } := by
  by_cases h : planLength f.duration ≤ b.brake
  · rw [if_pos h]
    apply eq_reached
    case hothers => apply State.ext <;> simp [State.reached]
    all_goals simp [putPending, h, EventFlag.mask]
  · rw [if_neg h]
    apply eq_reached
    case hothers => apply State.ext <;> simp [State.reached]
    all_goals simp [putPending, h]

/-- A GO in PARKED or PARKING: RELEASING is entered with its pending plan, and completes at once at a release time of 0. -/
theorem goPending_enters (ax : AxisSettings) (f : Firing) (target : Int) {s : State}
    (h : s.blend.move = .parked ∨ s.blend.move = .parking) :
    goPending ax f target s = completeIfZero ax ((trackSetpoint s).reached { s.blend with
      c := s.drive.measured * 16, brake := ax.brakeReleaseTime,
      waiting := some (pendingPlan ax f target ax.brakeReleaseTime) } .releasing
      (if planLength f.duration ≤ ax.brakeReleaseTime then s.flags ||| 0x10 else s.flags)
      { s.sched with report := ⟨some f.cue, .moving, .none⟩ }) := by
  have hgo : goPending ax f target s = completeIfZero ax (putPending ax f target (enterReleasing ax s)) := by
    obtain h | h := h <;> simp only [goPending, h]
  rw [hgo, enterReleasing_eq, putPending_reached]

theorem interlockHolds_releasing (ax : AxisSettings) (s : State) (b : BlendEngine) (fl : FlagSet) (q : CueScheduler) :
    ((trackSetpoint s).reached b .releasing fl q).interlockHolds ax = s.interlockHolds ax :=
  (reached_interlockHolds ..).trans (interlockHolds_congr rfl ax)

/-- With a release time of 0 the release completes at the GO itself, its plan of full length (R41). -/
theorem goPending_completes {ax : AxisSettings} (f : Firing) (target : Int) {s : State}
    (h : s.blend.move = .parked ∨ s.blend.move = .parking) (hr : ax.brakeReleaseTime = 0) :
    goPending ax f target s = completeRelease ax ((trackSetpoint s).reached { s.blend with
      c := s.drive.measured * 16, brake := 0,
      waiting := some ⟨target * 16, planLength f.duration, f.cue, fadeInForce ax f.fade, f.late⟩ } .releasing s.flags
      { s.sched with report := ⟨some f.cue, .moving, .none⟩ }) := by
  have hn := planLength_pos f.duration
  have hlong : ¬ planLength f.duration ≤ 0 := by omega
  have hplan : pendingPlan ax f target 0 =
      ⟨target * 16, planLength f.duration, f.cue, fadeInForce ax f.fade, f.late⟩ := by
    simp [pendingPlan, Config.subCounts, hn]
    omega
  rw [goPending_enters ax f target h, completeIfZero, if_pos (by simpa using hr), hr, if_neg hlong, hplan]

/-- A GO at a release time of 0 with the interlock free plays at once from the measured position (R41). -/
theorem goPending_plays {ax : AxisSettings} (f : Firing) (target : Int) {s : State}
    (h : s.blend.move = .parked ∨ s.blend.move = .parking) (hr : ax.brakeReleaseTime = 0)
    (hlock : s.interlockHolds ax = false) :
    goPending ax f target s = (trackSetpoint s).reached { s.blend with
      c := ax.limit (s.drive.measured * 16), brake := 0, park := 0, w := 0, d := 0, waiting := none,
      plan := some (goPlan ax f target (ax.limit (s.drive.measured * 16))) } .play s.flags
      { s.sched with report := ⟨some f.cue, .moving, .none⟩ } := by
  rw [goPending_completes f target h hr,
    (completeRelease_free ((interlockHolds_releasing ..).trans hlock)).1 _
      (by rw [reached_blend]), reached_reached, reached_flags, reached_sched, reached_limiter]
  exact reached_congr _ _ _ _ _ (by simp [goPlan, WaitingPlan.start])

/-- A GO at a release time of 0 under the interlock is abandoned by its stop, MOVING posted before (R36, R41, log 33). -/
theorem goPending_stops {ax : AxisSettings} (f : Firing) (target : Int) {s : State}
    (h : s.blend.move = .parked ∨ s.blend.move = .parking) (hr : ax.brakeReleaseTime = 0)
    (hlock : s.interlockHolds ax = true) (hplan : s.blend.plan = none) :
    goPending ax f target s = (trackSetpoint s).reached { s.blend with
      stopCause := .interlock, waiting := none, w := 0, d := 0, c := ax.limit (s.drive.measured * 16), park := 0,
      brake := 0 } .stopping s.flags { s.sched with report := ⟨some f.cue, .abandoned, .faulted⟩ } := by
  rw [goPending_completes f target h hr,
    completeRelease_interlocked ((interlockHolds_releasing ..).trans hlock)
      (by rw [reached_blend]; exact hplan), reached_reached, reached_flags, reached_sched, reached_limiter]
  simp only [reached_blend]
  exact reached_congr _ _ _ _ _ (by simp)

/-- A GO in RELEASING replaces the pending plan (R33). -/
theorem goPending_replaces (ax : AxisSettings) (f : Firing) (target : Int) {s : State} (h : s.blend.move = .releasing) :
    (goPending ax f target s).blend = { s.blend with w := 0, d := 0, plan := none, waiting := some (pendingPlan ax f target s.blend.brake) } ∧
    (goPending ax f target s).flags = (if planLength f.duration ≤ s.blend.brake then s.flags ||| 0x10 else s.flags) ∧
    (goPending ax f target s).drive = s.drive ∧ (goPending ax f target s).limiter = s.limiter ∧
    (goPending ax f target s).sched = { s.sched with report := ⟨some f.cue, .moving, .none⟩ } := by
  have hgo : goPending ax f target s = putPending ax f target (abandon .replaced s) := by simp only [goPending, h]
  rw [hgo]
  by_cases hclip : planLength f.duration ≤ s.blend.brake <;>
    simp [putPending, hclip, EventFlag.mask]

/-- Settles O31: RELEASING with its pending plan, or its completion at once. -/
theorem goWaitsForTheBrake : Obligations.GoWaitsForTheBrake := by
  intro ax f s target hkind htarget n fade m t
  have hwaits : s.blend.move ∈ [.parked, .parking, .releasing] → t = goPending ax f target s := fun h =>
    (fire_go ax hkind s).trans ((goCue_waits ax f h).2 target htarget)
  have hpark : s.blend.move = .parked ∨ s.blend.move = .parking → t = goPending ax f target s := fun h =>
    hwaits (by obtain h | h := h <;> simp [h])
  refine ⟨fun h hr => ?enters, fun h => ?replaces, fun h hr hlock => ?plays, fun h hr hlock hplan => ?stops,
    fun h => ⟨?frame, fun hnot => ?report⟩⟩
  case enters =>
    rw [hpark h, goPending_enters ax f target h, completeIfZero, if_neg (by simp; omega)]
    exact ⟨reached_blend .., reached_limiter .., reached_drive .., reached_flags ..⟩
  case replaces =>
    rw [hwaits (by simp [h])]
    obtain ⟨hblend, hflags, hdrive, hlimiter, -⟩ := goPending_replaces ax f target h
    exact ⟨hblend, hlimiter, hdrive, hflags⟩
  case plays =>
    rw [hpark h, goPending_plays f target h hr hlock]
    exact ⟨reached_blend .., reached_flags ..⟩
  case stops =>
    rw [hpark h, goPending_stops f target h hr hlock hplan, reached_blend, reached_sched]
    exact ⟨rfl, rfl, hplan, rfl, rfl⟩
  case frame =>
    rw [hwaits h]
    unfold cueFrame
    apply State.ext <;> simp
  case report =>
    simp only [List.mem_cons, List.not_mem_nil, or_false] at h
    rw [hwaits (by simpa using h)]
    by_cases hreleasing : s.blend.move = .releasing
    · obtain ⟨-, -, -, -, hsched⟩ := goPending_replaces ax f target hreleasing
      exact hsched
    · have hmove : s.blend.move = .parked ∨ s.blend.move = .parking := by simpa only [hreleasing, or_false] using h
      by_cases hr : ax.brakeReleaseTime = 0
      · have hlock : s.interlockHolds ax = false := by
          obtain h | h | h := hnot
          · omega
          · exact absurd h hreleasing
          · exact h
        rw [goPending_plays f target hmove hr hlock, reached_sched]
      · rw [goPending_enters ax f target hmove, completeIfZero, if_neg (by simpa using hr), reached_sched]

end Sys2Proof.Machine

/-! The Drive Port (spec/05_drive_port_and_faults.md): taking a fault and what follows it, several causes one after another,
the inputs' filters, position reads, the end of START, and the statements O13, O35, O36 and O37 assembled from them. -/
namespace Sys2Proof.Machine

/-! ## Taking a fault (R42, R68, R89, R90) -/

theorem raise_of_start {s : State} (h : s.blend.move = .start) (cause : FaultCause) : raise cause s = s := by
  simp only [raise, h]

theorem raise_of_fault {s : State} (h : s.blend.move = .fault) (cause : FaultCause) :
    raise cause s = s.withDrive { s.drive with further := true } := by
  simp only [raise, h]

theorem raise_elsewhere {s : State} (hstart : s.blend.move ≠ .start) (hfault : s.blend.move ≠ .fault)
    (cause : FaultCause) : raise cause s = faultEntry cause s := by
  unfold raise
  cases h : s.blend.move <;> simp_all

theorem faultEntry_limiter (cause : FaultCause) (s : State) :
    (faultEntry cause s).limiter =
      { s.limiter with setpoint := s.drive.measured * 16, v0 := 0, stepPos := s.drive.measured } := by
  simp [faultEntry, blendFaultEntry]

theorem faultEntry_sched (cause : FaultCause) (s : State) :
    (faultEntry cause s).sched =
      { s.sched with report := abandonReport .faulted s.blend s.sched.report } := by
  simp [faultEntry, blendFaultEntry]

theorem faultEntry_restored (cause : FaultCause) (s : State) :
    ((((faultEntry cause s).withBlend s.blend).withDrive s.drive).withLimiter s.limiter).withSched s.sched = s := by
  apply State.ext <;> simp

/-- FAULT at a period expiry: C follows the measured position (R25, R89). -/
theorem axisPeriod_fault (ax : AxisSettings) {s : State} (h : s.blend.move = .fault)
    (henable : s.drive.enable = false) (hbrake : s.drive.brake = .engaged) :
    (axisPeriod ax s).blend = { s.blend with c := s.drive.measured * 16, prevC := s.drive.measured * 16 } := by
  have hdrive : s.drive = { s.drive with
      enable := MoveState.driveEnable .fault, brake := MoveState.brakeOutput .fault } := by
    rw [show MoveState.driveEnable .fault = s.drive.enable from henable.symm,
      show MoveState.brakeOutput .fault = s.drive.brake from hbrake.symm]
  have hu : stageMove ax (stagesToC ax s) =
      s.reached { s.blend with c := s.drive.measured * 16 } .fault s.flags s.sched := by
    rw [stagesToC_tracks ax (.inr (.inl h)), stageMove, setC_blend, h]
    exact eq_reached (by simp [h]) (by simpa using hdrive) (by simp) (by simp) (by apply State.ext <;> simp)
  rw [(expiry_hands (c := s.drive.measured * 16) hu rfl rfl).2.1, ← h]

/-- Settles O37: the three outcomes of a cause, and FAULT's answers to a GO, a HALT and a period expiry. -/
theorem faultEntryStopsTheAxis : Obligations.FaultEntryStopsTheAxis := by
  intro cause s m t
  refine ⟨fun h => raise_of_start h cause, fun h => raise_of_fault h cause, fun hstart hfault => ?_⟩
  have ht : t = faultEntry cause s := raise_elsewhere hstart hfault cause
  have hmove : t.blend.move = .fault := by rw [ht, faultEntry_blend]
  have hdrive := faultEntry_drive cause s
  have hblend := faultEntry_blend cause s
  have hsched := faultEntry_sched cause s
  rw [← ht] at hdrive hblend hsched
  refine ⟨hdrive, hblend, by rw [ht]; exact faultEntry_limiter cause s, by rw [hsched], ?report,
    by rw [ht]; exact faultEntry_restored cause s, fun ax => ⟨fun f hkind => ?go, fun f hkind => ?halt, fun hrun hax => ?expiry⟩⟩
  case report =>
    rw [hsched]
    rfl
  case go =>
    rw [fire_go ax hkind, goCue_notReady ax f (.inr hmove)]
    rfl
  case halt =>
    rw [fire_halt ax hkind, haltCue_stick, haltCue_drive, haltMove_elsewhere (by simp [hmove])]
    exact ⟨rfl, rfl⟩
  case expiry =>
    have hrun' : t.resetHold = none := by simp [t, hrun]
    have hax' : t.axis? = some ax := by simpa [t, State.axis?] using hax
    refine ⟨_, exec_periodExpiry_axis hrun' hax', ?_⟩
    rw [axisPeriod_fault ax hmove (by rw [hdrive]) (by rw [hdrive]), hdrive]

/-! ## Causes one after another (R86, R90) -/

/-- Several causes raised in a list's order. -/
def raiseAll (causes : List FaultCause) (s : State) : State := causes.foldl (fun t c => raise c t) s

theorem raiseAll_start {s : State} (h : s.blend.move = .start) (causes : List FaultCause) : raiseAll causes s = s := by
  induction causes with
  | nil => rfl
  | cons c rest ih => rw [raiseAll, List.foldl_cons, raise_of_start h]; exact ih

theorem raiseAll_fault {s : State} (h : s.blend.move = .fault) (causes : List FaultCause) :
    raiseAll causes s = s.withDrive { s.drive with further := s.drive.further || !causes.isEmpty } := by
  induction causes generalizing s with
  | nil => apply State.ext <;> simp [raiseAll]
  | cons c rest ih =>
    rw [raiseAll, List.foldl_cons, raise_of_fault h, ← raiseAll, ih (by simpa using h)]
    apply State.ext <;> simp

/-- The first cause makes the fault entry, every further one its mark. -/
theorem raiseAll_entry {s : State} (hstart : s.blend.move ≠ .start) (hfault : s.blend.move ≠ .fault)
    (c : FaultCause) (rest : List FaultCause) :
    raiseAll (c :: rest) s =
      (faultEntry c s).withDrive { (faultEntry c s).drive with further := !rest.isEmpty } := by
  rw [raiseAll, List.foldl_cons, raise_elsewhere hstart hfault, ← raiseAll, raiseAll_fault (by rw [faultEntry_blend])]
  simp [faultEntry_drive]

/-! ## The inputs (R83 to R85, R93) -/

/-- What a sample changes in the Drive Port before any cause is raised: its filter, and the lock it clears. -/
def DrivePort.sampled (d : DrivePort) (line : InputLine) (active : Bool) : DrivePort :=
  match line with
  | .lowStop => { d with
      low := d.low.take active,
      lowLock := d.lowLock && !decide (d.low.state = .active ∧ (d.low.take active).state = .inactive) }
  | .highStop => { d with
      high := d.high.take active,
      highLock := d.highLock && !decide (d.high.state = .active ∧ (d.high.take active).state = .inactive) }
  | .amplifier => { d with amp := d.amp.take active }

/-- A sample makes the input go active. -/
def DrivePort.rises (d : DrivePort) (line : InputLine) (active : Bool) : Bool :=
  decide (((d.input line).take active).state = .active ∧ (d.input line).state ≠ .active)

theorem InputFilter.take_state (f : InputFilter) (a : Bool) :
    (f.take a).state = f.state ∨ (f.take a).state = .active ∨ (f.take a).state = .inactive := by
  unfold InputFilter.take sampleState
  dsimp only
  split
  · split <;> simp
  · exact .inl rfl

theorem sampled_eq (d : DrivePort) (line : InputLine) (active : Bool) :
    d.sampled line active =
      if (d.input line).state = .active ∧ ((d.input line).take active).state = .inactive then
        (d.setInput line ((d.input line).take active)).unlock line
      else d.setInput line ((d.input line).take active) := by
  cases line with
  | amplifier => simp only [DrivePort.unlock, ite_self]; rfl
  | lowStop =>
    by_cases h : d.low.state = .active ∧ (d.low.take active).state = .inactive
    · rw [DrivePort.input, if_pos h, DrivePort.sampled, decide_eq_true h, Bool.not_true, Bool.and_false]
      rfl
    · rw [DrivePort.input, if_neg h, DrivePort.sampled, decide_eq_false h, Bool.not_false, Bool.and_true]
      rfl
  | highStop =>
    by_cases h : d.high.state = .active ∧ (d.high.take active).state = .inactive
    · rw [DrivePort.input, if_pos h, DrivePort.sampled, decide_eq_true h, Bool.not_true, Bool.and_false]
      rfl
    · rw [DrivePort.input, if_neg h, DrivePort.sampled, decide_eq_false h, Bool.not_false, Bool.and_true]
      rfl

/-- One input: its filter and lock, then its cause when it went active (R83 to R85, R93). -/
theorem sampleInput_eq (line : InputLine) (active : Bool) (s : State) :
    sampleInput line active s =
      if s.drive.rises line active then raise (lineCause line) (s.withDrive (s.drive.sampled line active))
      else s.withDrive (s.drive.sampled line active) := by
  have hstate := (s.drive.input line).take_state active
  simp only [sampleInput, DrivePort.rises, sampled_eq, decide_eq_true_eq]
  generalize hf : (s.drive.input line).take active = f at *
  generalize hbefore : (s.drive.input line).state = before at *
  by_cases hsame : f.state = before
  · have hquiet : ¬(f.state = .active ∧ before ≠ .active) := fun h => h.2 (hsame ▸ h.1)
    have hlock : ¬(before = .active ∧ f.state = .inactive) := fun h => by simp [h.1, h.2] at hsame
    rw [if_pos hsame, if_neg hquiet, if_neg hlock]
  · by_cases hactive : f.state = .active
    · have hrise : before ≠ .active := fun h => hsame (hactive.trans h.symm)
      have hlock : ¬(before = .active ∧ f.state = .inactive) := fun h => hrise h.1
      rw [if_neg hsame, if_pos hactive, if_pos ⟨hactive, hrise⟩, if_neg hlock]
    · have hinactive : f.state = .inactive := (hstate.resolve_left hsame).resolve_left hactive
      have hfalls : ¬(f.state = .active ∧ before ≠ .active) := fun h => hactive h.1
      rw [if_neg hsame, if_neg hactive, if_neg hfalls]
      by_cases hb : before = .active
      · rw [if_pos hb, if_pos ⟨hb, hinactive⟩]
        simp
      · have hlock : ¬(before = .active ∧ f.state = .inactive) := fun h => hb h.1
        rw [if_neg hb, if_neg hlock]

/-- The Drive Port's part of a sample is apart from what raising a cause changes. -/
theorem raise_sampled (c : FaultCause) (line : InputLine) (active : Bool) (s : State) :
    raise c (s.withDrive (s.drive.sampled line active)) =
      (raise c s).withDrive ((raise c s).drive.sampled line active) := by
  by_cases hstart : s.blend.move = .start
  · rw [raise_of_start hstart, raise_of_start (by simpa using hstart)]
  · by_cases hfault : s.blend.move = .fault
    · rw [raise_of_fault hfault, raise_of_fault (by simpa using hfault)]
      cases line <;> rfl
    · rw [raise_elsewhere hstart hfault, raise_elsewhere (by simpa using hstart) (by simpa using hfault)]
      apply State.ext <;> simp [faultEntry_drive, faultEntry_blend, faultEntry_limiter, faultEntry_sched]
      all_goals cases line <;> simp [DrivePort.sampled]

/-- The Drive Port after the samples of several lines. -/
def DrivePort.sampledAll (level : InputLine → Bool) (lines : List InputLine) (d : DrivePort) : DrivePort :=
  lines.foldl (fun d line => d.sampled line (level line)) d

theorem input_sampled {line other : InputLine} (h : line ≠ other) (d : DrivePort) (b : Bool) :
    (d.sampled other b).input line = d.input line := by
  cases line <;> cases other <;> simp_all [DrivePort.sampled, DrivePort.input]

theorem rises_sampled {line other : InputLine} (h : line ≠ other) (d : DrivePort) (a b : Bool) :
    (d.sampled other b).rises line a = d.rises line a := by
  rw [DrivePort.rises, DrivePort.rises, input_sampled h]

theorem rises_raise (c : FaultCause) (s : State) (line : InputLine) (a : Bool) :
    (raise c s).drive.rises line a = s.drive.rises line a := by
  obtain ⟨-, h⟩ | ⟨-, h⟩ | ⟨-, -, h⟩ := raise_cases c s
  · rw [h]
  · rw [h]; cases line <;> rfl
  · rw [h, faultEntry_drive]; cases line <;> rfl

theorem raise_sampledAll (c : FaultCause) (level : InputLine → Bool) (lines : List InputLine) (s : State) :
    raise c (s.withDrive (s.drive.sampledAll level lines)) =
      (raise c s).withDrive ((raise c s).drive.sampledAll level lines) := by
  induction lines generalizing s with
  | nil => simp [DrivePort.sampledAll]
  | cons line rest ih =>
    have h := ih (s.withDrive (s.drive.sampled line (level line)))
    rw [raise_sampled] at h
    simpa [DrivePort.sampledAll] using h

/-- The lines of one expiry in their order: all filters and locks, then the causes of those that went active. -/
theorem sampleLines_eq (level : InputLine → Bool) {lines : List InputLine} (hnodup : lines.Nodup) (s : State) :
    lines.foldl (fun t line => sampleInput line (level line) t) s =
      raiseAll ((lines.filter fun line => s.drive.rises line (level line)).map lineCause)
        (s.withDrive (s.drive.sampledAll level lines)) := by
  induction lines generalizing s with
  | nil => simp [raiseAll, DrivePort.sampledAll]
  | cons line rest ih =>
    obtain ⟨hline, hrest⟩ := List.nodup_cons.1 hnodup
    have hother : ∀ l ∈ rest, l ≠ line := fun l hl h => hline (h ▸ hl)
    rw [List.foldl_cons, ih hrest, sampleInput_eq]
    by_cases hrise : s.drive.rises line (level line) = true
    · have hfilter : (rest.filter fun l => (raise (lineCause line)
          (s.withDrive (s.drive.sampled line (level line)))).drive.rises l (level l)) =
          rest.filter fun l => s.drive.rises l (level l) :=
        List.filter_congr fun l hl => by
          rw [rises_raise, State.withDrive_drive, rises_sampled (hother l hl)]
      rw [if_pos hrise, hfilter, List.filter_cons, if_pos hrise, ← raise_sampledAll]
      simp [raiseAll, DrivePort.sampledAll]
    · have hfilter : (rest.filter fun l => (s.withDrive (s.drive.sampled line (level line))).drive.rises l (level l)) =
          rest.filter fun l => s.drive.rises l (level l) :=
        List.filter_congr fun l hl => by rw [State.withDrive_drive, rises_sampled (hother l hl)]
      rw [if_neg hrise, hfilter, List.filter_cons, if_neg hrise]
      simp [DrivePort.sampledAll]

theorem driveWorks_of_axis {s : State} {ax : AxisSettings} (hax : s.axis? = some ax) : s.driveWorks = true := by
  simp [State.driveWorks, hax]

theorem nodup_inputOrder (first : InputLine) : (inputOrder first).Nodup := by cases first <;> decide

/-- Settles O35: the samples do not depend on one another, and the causes are raised in the operand's order. -/
theorem inputsFilterAndRaise : Obligations.InputsFilterAndRaise := by
  intro low high amp first s ax hrun hax next lowNext highNext ampNext risen rises filtered
  have hexec : exec (.drivePortTimerExpiry low high amp first) s = .next (sampleInputs low high amp first s) :=
    whenDue_due hrun (driveWorks_of_axis hax) _
  have hlevel : ∀ line, activeLevel (s.polarity line) (lineLevel low high amp line) =
      match line with
      | .lowStop => if ax.lowPolarity = .activeHigh then low else !low
      | .highStop => if ax.highPolarity = .activeHigh then high else !high
      | .amplifier => amp := by
    intro line
    cases line with
    | lowStop => cases hp : ax.lowPolarity <;> simp [State.polarity, hax, hp, activeLevel, lineLevel]
    | highStop => cases hp : ax.highPolarity <;> simp [State.polarity, hax, hp, activeLevel, lineLevel]
    | amplifier => simp [State.polarity, activeLevel, lineLevel]
  have hsampled : sampleInputs low high amp first s = raiseAll (rises.map lineCause) (s.withDrive filtered) := by
    have h := sampleLines_eq (fun line => activeLevel (s.polarity line) (lineLevel low high amp line))
      (nodup_inputOrder first) s
    have hrises : ∀ line, s.drive.rises line (activeLevel (s.polarity line) (lineLevel low high amp line)) = risen line := by
      intro line
      rw [hlevel]
      cases line <;> rfl
    have hall : s.drive.sampledAll (fun line => activeLevel (s.polarity line) (lineLevel low high amp line))
        (inputOrder first) = filtered := by
      simp only [hlevel]
      cases first <;> rfl
    simp only [hrises, hall] at h
    exact h
  rw [hexec, hsampled]
  refine ⟨_, rfl, fun h => ?_, fun hne h => ?_, fun line rest hrises hstart hfault => ?_⟩
  · obtain h | h := h
    · rw [h]; rfl
    · exact raiseAll_start (by simpa using h) _
  · have hnonempty : (rises.map lineCause).isEmpty = false := by simpa using hne
    rw [raiseAll_fault (by simpa using h), hnonempty]
    simp
  · rw [hrises, List.map_cons, raiseAll_entry (by simpa using hstart) (by simpa using hfault)]
    refine ⟨by simp [faultEntry_blend], by simp [faultEntry_drive], ?_⟩
    apply State.ext <;> simp

/-! ## Position reads (R78, R79, R81) -/

/-- A good read outside the servo-active states ends the following-error run. -/
theorem compareFollowing_passive {s : State} (h : s.blend.move.servoActive = false) :
    compareFollowing s = s.withDrive { s.drive with followingRun := 0 } := by
  unfold compareFollowing
  rw [h]
  cases s.axis? <;> rfl

/-- In a servo-active state the run goes on or ends, and raises FOLLOWING at its limit. -/
theorem compareFollowing_active {s : State} {ax : AxisSettings} (hax : s.axis? = some ax)
    (h : s.blend.move.servoActive = true) :
    let run := if ax.feLimit < (s.limiter.setpoint / 16 - s.drive.measured).natAbs then
      min 255 (s.drive.followingRun + 1) else 0
    (run < ax.feTime → compareFollowing s = s.withDrive { s.drive with followingRun := run }) ∧
    (ax.feTime ≤ run → compareFollowing s = raise .following (s.withDrive { s.drive with followingRun := run })) := by
  simp only [compareFollowing, hax, h, followingExceeded, Config.subCounts, divFloor_eq _ (by decide : (0 : Int) ≤ 16),
    decide_eq_true_eq]
  exact ⟨fun hlt => if_neg (Nat.not_le.2 hlt), fun hle => if_pos hle⟩

/-- Settles O36: the read's outcome, then the comparison or the run of failures. -/
theorem positionReadTakesOrCounts : Obligations.PositionReadTakesOrCounts := by
  intro idle error data s ax hrun hax
  have hexec : exec (.positionReadComplete idle data error) s = .next (positionRead idle data error s) :=
    whenDue_due hrun (driveWorks_of_axis hax) _
  rw [hexec]
  refine ⟨fun hidle herror => ?good, fun hbad => ?failed⟩
  case good =>
    subst hidle herror
    have hread : positionRead true data false s = compareFollowing (s.withDrive (s.drive.readGood data.toInt)) := rfl
    rw [hread]
    refine ⟨fun h => ?_, fun h hlt => ?_, fun h hle => ?_⟩
    · rw [compareFollowing_passive (by simpa using h)]
      rfl
    · exact congrArg Host.Outcome.next ((compareFollowing_active (s := s.withDrive (s.drive.readGood data.toInt)) hax h).1 hlt)
    · exact congrArg Host.Outcome.next ((compareFollowing_active (s := s.withDrive (s.drive.readGood data.toInt)) hax h).2 hle)
  case failed =>
    have hread : positionRead idle data error s =
        if min 255 (s.drive.failureRun + 1) = 5 then raise .feedback (s.withDrive s.drive.readFailed)
        else s.withDrive s.drive.readFailed := by
      have : ¬(idle && !error) = true := by
        obtain h | h := hbad <;> simp [h]
      rw [positionRead, if_neg this]
      rfl
    rw [hread]
    refine ⟨fun h => ?_, fun h => ?_⟩
    · rw [if_neg (by omega)]
      rfl
    · rw [if_pos (by omega)]
      rfl

/-! ## The end of START (R86) -/

theorem endOfStart_eq (s : State) : endOfStart s = raiseAll s.drive.standing (enterMove .parked s) := rfl

/-- The end of START with conditions standing is a fault entry from PARKED (R86, R89). -/
theorem endOfStart_faults {s : State} {c : FaultCause} {rest : List FaultCause} (h : s.drive.standing = c :: rest) :
    endOfStart s = (faultEntry c (enterMove .parked s)).withDrive
      { (faultEntry c (enterMove .parked s)).drive with further := !rest.isEmpty } := by
  rw [endOfStart_eq, h, raiseAll_entry (by simp) (by simp)]

theorem leaveStart_axis {s : State} {ax : AxisSettings} (h : s.axis? = some ax) : leaveStart s = endOfStart s := by
  simp [leaveStart, h]

/-- The announce window of an axis station, opened and due to end. -/
theorem exec_announceWindowEnd {s : State} {w : Nat} (hrun : s.resetHold = none) (hphase : s.start.phase = .announcing)
    (htimer : s.start.windowTimer = some w) (frameFirst : Bool) :
    exec (.announceWindowEnd frameFirst) s = .next (windowEnds frameFirst s) :=
  whenDue_due hrun (by simp [hphase, htimer]) _

/-- Settles O13: the list of R86 by its length and head. -/
theorem endOfStartRaisesWhatStands : Obligations.EndOfStartRaisesWhatStands := by
  intro frameFirst s ax w hrun hphase htimer hax first standing hsome
  obtain ⟨rest, hlist, hlength⟩ : ∃ rest, s.drive.standing = first :: rest ∧ rest.length + 1 = standing := by
    have hcount : s.drive.standing.length = standing := by
      simp only [DrivePort.standing, List.length_append, apply_ite List.length, List.length_cons, List.length_nil]
      rfl
    have hhead : s.drive.standing ≠ [] → s.drive.standing.head? = some first := by
      by_cases hfeedback : 5 ≤ s.drive.failureRun
      · have hrun : Config.feedbackRun ≤ s.drive.failureRun := hfeedback
        simp only [DrivePort.standing, first, if_pos hfeedback, if_pos hrun]
        exact fun _ => rfl
      · have hrun : ¬Config.feedbackRun ≤ s.drive.failureRun := hfeedback
        simp only [DrivePort.standing, first, if_neg hfeedback, if_neg hrun]
        by_cases hlow : s.drive.low.state = .active
        · simp [hlow]
        · by_cases hhigh : s.drive.high.state = .active
          · simp [hlow, hhigh]
          · by_cases hamp : s.drive.amp.state = .active <;> simp [hlow, hhigh, hamp]
    cases hlist : s.drive.standing with
    | nil => rw [hlist] at hcount; simp only [List.length_nil] at hcount; omega
    | cons c rest =>
      rw [hlist] at hcount hhead
      exact ⟨rest, by simpa using hhead (by simp), hcount⟩
  have hfurther : (!rest.isEmpty) = true ↔ 2 ≤ standing := by
    cases rest <;> simp only [List.isEmpty_nil, List.isEmpty_cons, List.length_nil, List.length_cons] at hlength ⊢ <;>
      simp <;> omega
  have hends : ∀ u : State, u.drive = s.drive → (endOfStart u).blend.move = .fault ∧
      (endOfStart u).drive.cause = first ∧ ((endOfStart u).drive.further = true ↔ 2 ≤ standing) ∧
      (endOfStart u).drive.enable = false ∧ (endOfStart u).drive.brake = .engaged ∧
      (endOfStart u).limiter.setpoint = s.drive.measured * 16 ∧ (endOfStart u).blend.c = s.drive.measured * 16 :=
    fun u hu => by
      rw [endOfStart_faults (by rw [hu, hlist]), ← hfurther]
      simp [faultEntry_blend, faultEntry_drive, faultEntry_limiter, hu]
  refine ⟨_, exec_announceWindowEnd hrun hphase htimer frameFirst, ?_⟩
  cases frameFirst with
  | true =>
    have hax' : ∀ c, (buildPeriodic c (((s.withStart { s.start with phase := .running, windowTimer := none }).withLink
        { s.link with periodTimer := true }))).axis? = some ax := fun c => by simpa [State.axis?] using hax
    simp only [windowEnds, if_true]
    rw [leaveStart_axis (hax' _)]
    exact ⟨by simp, hends _ (by simp)⟩
  | false =>
    simp only [windowEnds, Bool.false_eq_true, if_false]
    rw [leaveStart_axis (by exact hax)]
    exact ⟨by simp, by simpa using hends ((s.withStart { s.start with phase := .running, windowTimer := none }).withLink
      { s.link with periodTimer := true }) (by simp)⟩

end Sys2Proof.Machine

/-! How numbers, pages and frames are spelled and read back (spec/12_formats.md; 06_preset_store.md, 6.1; 09_the_crane_link.md,
9.1 and 9.4), and the statements O10, O53 and O54 assembled from it. -/
namespace Sys2Proof.Machine

/-! ## A number's bytes (R190) -/

@[simp] theorem length_bytesOf (x : Int) (n : Nat) : (bytesOf x n).length = n := by
  induction n with
  | zero => rfl
  | succ n ih => simp [bytesOf, ih]

/-- The last byte spells the rest of a division by 256, the bytes before it the quotient. -/
theorem bytesOf_succ (x : Int) (n : Nat) : bytesOf x (n + 1) = bytesOf (x / 256) n ++ [BitVec.ofInt 8 x] := by
  induction n with
  | zero => simp [bytesOf, divFloor]
  | succ n ih =>
    have hhead : divFloor x (256 ^ (n + 1)) = divFloor (x / 256) (256 ^ n) := by
      rw [divFloor_eq _ (Int.pow_nonneg (by decide)), divFloor_eq _ (Int.pow_nonneg (by decide)), Int.pow_succ, Int.mul_comm,
        Int.ediv_ediv_of_nonneg (by decide)]
    rw [bytesOf, ih, hhead]
    rfl

theorem toNat_ofInt_byte (x : Int) : ((BitVec.ofInt 8 x).toNat : Int) = x % 256 := by
  rw [BitVec.toNat_ofInt, Int.toNat_of_nonneg (Int.emod_nonneg _ (by decide))]
  rfl

theorem emod_mul_256 (x : Int) {p : Int} (hp : 0 < p) : x % (p * 256) = x / 256 % p * 256 + x % 256 := by
  have hbyte := Int.emod_add_mul_ediv x 256
  have hrest := Int.emod_add_mul_ediv (x / 256) p
  have hsplit : x = (x / 256 % p * 256 + x % 256) + p * 256 * (x / 256 / p) := by
    rw [Int.mul_right_comm p 256]
    omega
  have hlow := Int.emod_nonneg (x / 256) (Int.ne_of_gt hp)
  have hhigh := Int.emod_lt_of_pos (x / 256) hp
  calc x % (p * 256) = (x / 256 % p * 256 + x % 256 + p * 256 * (x / 256 / p)) % (p * 256) :=
        congrArg (· % (p * 256)) hsplit
    _ = (x / 256 % p * 256 + x % 256) % (p * 256) := Int.add_mul_emod_self_left _ _ _
    _ = _ := Int.emod_eq_of_lt (by omega) (by omega)

/-- The `n` bytes read through `get` from offset `o` are those that spell `x`. -/
def Spelled (get : Nat → Byte) (o n : Nat) (x : Int) : Prop := (List.range n).map (fun j => get (o + j)) = bytesOf x n

/-- What is read where `n` bytes spell a number is the number modulo 256 to the n. -/
theorem readNat_of_bytesOf {get : Nat → Byte} {o n : Nat} {x : Int} (h : Spelled get o n x) :
    (readNat get o n : Int) = x % 256 ^ n := by
  induction n generalizing x with
  | zero => exact (Int.emod_one x).symm
  | succ n ih =>
    rw [Spelled, bytesOf_succ, List.range_succ, List.map_append] at h
    obtain ⟨hfront, hlast⟩ := List.append_inj' h rfl
    have hbyte : get (o + n) = BitVec.ofInt 8 x := List.head_eq_of_cons_eq hlast
    rw [readNat, Int.natCast_add, Int.natCast_mul, ih hfront, hbyte, toNat_ofInt_byte, Int.pow_succ]
    exact (emod_mul_256 x (Int.pow_pos (by decide))).symm

/-- A number that fits is read back. -/
theorem readNat_bytesOf {get : Nat → Byte} {o n x : Nat} (hx : x < 256 ^ n) (h : Spelled get o n x) :
    readNat get o n = x := by
  have hmod := readNat_of_bytesOf h
  have hpow : ((256 ^ n : Nat) : Int) = 256 ^ n := Int.natCast_pow 256 n
  have hself : (x : Int) % 256 ^ n = x := Int.emod_eq_of_lt (by omega) (by omega)
  omega

/-- A signed number that fits is read back. -/
theorem readInt_bytesOf {get : Nat → Byte} {o n : Nat} {x : Int} (hlow : -(256 ^ n : Int) ≤ 2 * x)
    (hhigh : 2 * x < 256 ^ n) (h : Spelled get o n x) : readInt get o n = x := by
  have hmod := readNat_of_bytesOf h
  have hpow : ((256 ^ n : Nat) : Int) = 256 ^ n := Int.natCast_pow 256 n
  simp only [readInt]
  by_cases hx : 0 ≤ x
  · have hself : x % 256 ^ n = x := Int.emod_eq_of_lt hx (by omega)
    rw [if_pos (by omega)]
    omega
  · have hself : x % 256 ^ n = x + 256 ^ n := by
      rw [← Int.add_emod_right, Int.emod_eq_of_lt (by omega) (by omega)]
    rw [if_neg (by omega)]
    omega

/-- A byte that spells a number below 256 is read back. -/
theorem toNat_bytesOf {b : Byte} {x : Nat} (hx : x < 256) (h : b = (bytesOf x 1).getD 0 0) : b.toNat = x := by
  have hread := readNat_bytesOf (get := fun _ => b) (o := 0) (n := 1) hx (congrArg (fun c => [c]) h)
  simpa [readNat] using hread

/-! ## Preset pages (R98, R99) -/

theorem inRange_iff (fps : Nat) (t : Timecode) :
    t.inRange fps = true ↔ t.hh ≤ 23 ∧ t.mm ≤ 59 ∧ t.ss ≤ 59 ∧ t.ff < fps := by
  simp [Timecode.inRange, and_assoc]

theorem loadPage_empty (fps : Nat) {page : List Byte} (h : ∀ b ∈ page, b = 0xFF) : loadPage fps page = .empty := by
  have hall : page.all (· == 0xFF) = true := by simpa using h
  rw [loadPage, if_pos hall]

/-- The marker byte and the CRC-16 of a page (R98). -/
def PageMarked (page : List Byte) : Prop :=
  page.head? = some 0xA6#8 ∧ (crc16 (page.take 10)).toNat = readNat (byteAt page 0xFF) 10 2

theorem loadPage_marked (fps : Nat) {page : List Byte} (h : ¬∀ b ∈ page, b = 0xFF) (hmarked : PageMarked page) :
    loadPage fps page =
      .valid (readInt (byteAt page 0xFF) 1 3) (pageStoredAt fps page) (pageStoredBy page) := by
  have hall : ¬page.all (· == 0xFF) = true := by simpa using h
  rw [loadPage, if_neg hall]
  exact if_pos hmarked

theorem loadPage_unmarked (fps : Nat) {page : List Byte} (h : ¬∀ b ∈ page, b = 0xFF) (hmarked : ¬PageMarked page) :
    loadPage fps page = .invalid := by
  have hall : ¬page.all (· == 0xFF) = true := by simpa using h
  rw [loadPage, if_neg hall]
  exact if_neg hmarked

theorem byteAt_of_lt {bytes : List Byte} {i : Nat} (h : i < bytes.length) (missing other : Byte) :
    byteAt bytes missing i = bytes.getD i other := by
  simp [byteAt, h]

/-- Settles O10: the three outcomes of a load, the bytes read at their places. -/
theorem pageContentsDecideValidity : Obligations.PageContentsDecideValidity := by
  intro fps page hlength
  have hbyte : ∀ i, i < 16 → byteAt page 0xFF i = page.getD i 0 := fun i hi => byteAt_of_lt (by omega) _ _
  have hmarked : PageMarked page ↔ page.getD 0 0 = 0xA6 ∧
      (crc16 (page.take 10)).toNat = (page.getD 10 0).toNat * 256 + (page.getD 11 0).toNat := by
    have hhead : page.head? = some 0xA6#8 ↔ page.getD 0 0 = 0xA6 := by
      cases page with
      | nil => simp at hlength
      | cons b rest => simp
    rw [PageMarked, hhead, readNat_two, hbyte 10 (by omega), hbyte 11 (by omega)]
  refine ⟨loadPage_empty fps, fun h => ⟨fun hm => ?_, fun hm => loadPage_unmarked fps h (mt hmarked.1 hm)⟩⟩
  refine ⟨_, _, _, loadPage_marked fps h (hmarked.2 hm), ?_, ?_, ?_⟩
  · rw [readInt_three, hbyte 1 (by omega), hbyte 2 (by omega), hbyte 3 (by omega)]
  · simp only [pageStoredAt, readTimecode, inRange_iff, hbyte 4 (by omega), hbyte 5 (by omega), hbyte 6 (by omega),
      hbyte 7 (by omega)]
  · simp only [pageStoredBy, hbyte 8 (by omega), hbyte 9 (by omega)]

/-- Settles O53: each field of the page is read back where its bytes stand. -/
theorem presetPageLoadsBack : Obligations.PresetPageLoadsBack := by
  intro fps target storedAt storedBy save hlow hhigh hfps hat hby page
  have hlength : page.length = 16 := by cases storedAt <;> cases storedBy <;> rfl
  have hmarked : PageMarked page := by
    refine ⟨rfl, Eq.symm ?_⟩
    have htake : page.take 10 = pageBody target storedAt storedBy := by cases storedAt <;> cases storedBy <;> rfl
    rw [htake]
    refine readNat_bytesOf (BitVec.isLt _) ?_
    cases storedAt <;> cases storedBy <;> rfl
  have hnotErased : ¬∀ b ∈ page, b = 0xFF := fun h => by
    have := h 0xA6#8 List.mem_cons_self
    exact absurd this (by decide)
  have htarget : readInt (byteAt page 0xFF) 1 3 = target :=
    readInt_bytesOf (by omega) (by omega) (by cases storedAt <;> cases storedBy <;> rfl)
  have hstoredAt : pageStoredAt fps page = storedAt := by
    cases storedAt with
    | none =>
      have hread : readTimecode (byteAt page 0xFF) 4 = ⟨255, 255, 255, 255⟩ := by cases storedBy <;> rfl
      rw [pageStoredAt, hread]
      exact if_neg (by simp [inRange_iff])
    | some t =>
      have hrange := hat t rfl
      obtain ⟨hh, hm, hs, hf⟩ := (inRange_iff fps t).1 hrange
      have hread : readTimecode (byteAt page 0xFF) 4 = t := by
        have hhBack : (byteAt page 0xFF 4).toNat = t.hh := toNat_bytesOf (by omega) (by cases storedBy <;> rfl)
        have hmBack : (byteAt page 0xFF 5).toNat = t.mm := toNat_bytesOf (by omega) (by cases storedBy <;> rfl)
        have hsBack : (byteAt page 0xFF 6).toNat = t.ss := toNat_bytesOf (by omega) (by cases storedBy <;> rfl)
        have hfBack : (byteAt page 0xFF 7).toNat = t.ff := toNat_bytesOf (by omega) (by cases storedBy <;> rfl)
        simp only [readTimecode, hhBack, hmBack, hsBack, hfBack]
      rw [pageStoredAt, hread]
      exact if_pos hrange
  have hstoredBy : pageStoredBy page = storedBy := by
    cases storedBy with
    | none =>
      have hread : (byteAt page 0xFF 8).toNat = 255 := by cases storedAt <;> rfl
      rw [pageStoredBy, hread]
      rfl
    | some c =>
      obtain ⟨hlowest, hhighest, hnumber⟩ := hby c rfl
      have hsource : (byteAt page 0xFF 8).toNat = c.source := toNat_bytesOf (by omega) (by cases storedAt <;> rfl)
      have hnumberBack : (byteAt page 0xFF 9).toNat = c.number := toNat_bytesOf (by omega) (by cases storedAt <;> rfl)
      simp only [pageStoredBy, hsource, hnumberBack]
      exact if_pos ⟨hlowest, hhighest⟩
  rw [← htarget, ← hstoredAt, ← hstoredBy]
  exact ⟨hlength, loadPage_marked fps hnotErased hmarked⟩

/-! ## Frames (R146, R158, R161, R190) -/

@[simp] theorem length_timecodeBytes (t : Timecode) : (timecodeBytes t).length = 4 := rfl
@[simp] theorem length_stampBytes (st : Stamp) : (stampBytes st).length = 6 := rfl
@[simp] theorem length_stateBytes (c : StateContents) : (stateBytes c).length = 18 := rfl

theorem eight_values {l : List Int} (h : l.length = 8) :
    ∃ v0 v1 v2 v3 v4 v5 v6 v7, l = [v0, v1, v2, v3, v4, v5, v6, v7] := by
  match l, h with
  | [v0, v1, v2, v3, v4, v5, v6, v7], _ => exact ⟨v0, v1, v2, v3, v4, v5, v6, v7, rfl⟩

theorem length_stickBytes {c : StickContents} (h : c.values.length = 8) : (stickBytes c).length = 18 := by
  obtain ⟨v0, v1, v2, v3, v4, v5, v6, v7, hvalues⟩ := eight_values h
  rw [stickBytes, hvalues]
  rfl

theorem length_payloadOf {contents : Contents} (h : contents.fits) (stamp : Stamp) :
    (payloadOf contents stamp).length = contents.kind.payloadLength := by
  cases contents with
  | stick c => simp [payloadOf, length_stickBytes h.1, Contents.kind, FrameKind.payloadLength]
  | announce a => rfl
  | state c => rfl
  | cue c => rfl

/-- A byte of the payload, read as a number below 256, is the item whose one byte stands there. -/
theorem toNat_byteAt (payload : List Byte) (i : Nat) {x : Nat} (hx : x < 256)
    (h : byteAt payload 0 i = (bytesOf x 1).getD 0 0) : (byteAt payload 0 i).toNat = x := toNat_bytesOf hx h

theorem readTime_eq {payload : List Byte} {o : Nat} {t : Timecode} (hfits : t.fits)
    (h : (List.range 4).map (fun j => byteAt payload 0 (o + j)) = timecodeBytes t) :
    (⟨(byteAt payload 0 o).toNat, (byteAt payload 0 (o + 1)).toNat, (byteAt payload 0 (o + 2)).toNat,
      (byteAt payload 0 (o + 3)).toNat⟩ : Timecode) = t := by
  obtain ⟨hh, hm, hs, hf⟩ := hfits
  have hbyte : ∀ j, ((List.range 4).map fun i => byteAt payload 0 (o + i)).getD j 0 = (timecodeBytes t).getD j 0 :=
    fun j => congrArg (List.getD · j 0) h
  rw [toNat_byteAt payload o hh (hbyte 0), toNat_byteAt payload (o + 1) hm (hbyte 1),
    toNat_byteAt payload (o + 2) hs (hbyte 2), toNat_byteAt payload (o + 3) hf (hbyte 3)]

/-- The bytes behind a list's own. -/
theorem byteAt_append_right (front back : List Byte) (missing : Byte) (j : Nat) :
    byteAt (front ++ back) missing (front.length + j) = back.getD j missing := by
  rw [byteAt, List.getD_eq_getElem?_getD, List.getElem?_append_right (Nat.le_add_right _ _), Nat.add_sub_cancel_left,
    List.getD_eq_getElem?_getD]

/-- A stamp behind the eighteen bytes of a STICK's or a STATE's own items is read back. -/
theorem readStamp_eq {items : List Byte} {stamp : Stamp} (hlength : items.length = 18) (htime : stamp.time.fits)
    (hacc : stamp.acc < 65536) : readStamp (items ++ stampBytes stamp) = stamp := by
  have hbyte : ∀ j, byteAt (items ++ stampBytes stamp) 0 (18 + j) = (stampBytes stamp).getD j 0 := fun j => by
    rw [← hlength, byteAt_append_right]
  have htimeBack := readTime_eq (payload := items ++ stampBytes stamp) (o := 18) htime
    ((congrArg (List.map · (List.range 4)) (funext hbyte)).trans rfl)
  have hacc' : ∀ j, byteAt (items ++ stampBytes stamp) 0 (22 + j) = (stampBytes stamp).getD (4 + j) 0 := fun j => by
    rw [show 22 + j = 18 + (4 + j) by omega, hbyte]
  have haccBack : readNat (byteAt (items ++ stampBytes stamp) 0) 22 2 = stamp.acc :=
    readNat_bytesOf hacc ((congrArg (List.map · (List.range 2)) (funext hacc')).trans rfl)
  simp only [readStamp, haccBack]
  exact congrArg (fun t => (⟨t, stamp.acc⟩ : Stamp)) htimeBack

theorem readAnnounce_eq {a : AnnounceContents} (h : (Contents.announce a).fits) (stamp : Stamp) :
    readAnnounce (payloadOf (.announce a) stamp) = a := by
  obtain ⟨hrole, hcause, hlabel, hperiod⟩ := h
  have hcheck : readNat (byteAt (payloadOf (.announce a) stamp) 0) 2 2 = a.check.toNat :=
    readNat_bytesOf a.check.isLt rfl
  simp only [readAnnounce, hcheck, toNat_byteAt (payloadOf (.announce a) stamp) 0 hrole rfl,
    toNat_byteAt (payloadOf (.announce a) stamp) 1 hcause rfl, toNat_byteAt (payloadOf (.announce a) stamp) 4 hlabel rfl,
    toNat_byteAt (payloadOf (.announce a) stamp) 5 hperiod rfl, BitVec.ofNat_toNat, BitVec.setWidth_eq]

/-- A STATE payload, its items one after another. -/
def statePayload (c : StateContents) (stamp : Stamp) : List Byte :=
  bytesOf c.move 1 ++ (bytesOf c.fault 1 ++ (bytesOf c.measured 3 ++ (bytesOf c.setpoint 4 ++ (bytesOf c.velocity 2 ++
    (bytesOf c.weight 2 ++ (bytesOf c.source 1 ++ (bytesOf c.number 1 ++ (bytesOf c.phase 1 ++ (bytesOf c.reason 1 ++
      (c.flags :: stampBytes stamp))))))))))

theorem payloadOf_state (c : StateContents) (stamp : Stamp) : payloadOf (.state c) stamp = statePayload c stamp := by
  simp only [payloadOf, stateBytes, statePayload, List.append_assoc, List.cons_append, List.nil_append]

theorem readState_eq {c : StateContents} (h : (Contents.state c).fits) (stamp : Stamp) :
    readState (payloadOf (.state c) stamp) = c := by
  obtain ⟨⟨hmove, hfault, hweight, hsource, hnumber, hphase, hreason⟩, ⟨hmlow, hmhigh⟩, ⟨hslow, hshigh⟩, hvlow, hvhigh⟩ := h
  rw [payloadOf_state]
  have hmeasured : readInt (byteAt (statePayload c stamp) 0) 2 3 = c.measured :=
    readInt_bytesOf (by omega) (by omega) rfl
  have hsetpoint : readInt (byteAt (statePayload c stamp) 0) 5 4 = c.setpoint :=
    readInt_bytesOf (by omega) (by omega) rfl
  have hvelocity : readInt (byteAt (statePayload c stamp) 0) 9 2 = c.velocity :=
    readInt_bytesOf (by omega) (by omega) rfl
  have hweightBack : readNat (byteAt (statePayload c stamp) 0) 11 2 = c.weight :=
    readNat_bytesOf (by omega) rfl
  have hflags : byteAt (statePayload c stamp) 0 17 = c.flags := rfl
  have hone := toNat_byteAt (statePayload c stamp)
  simp only [readState, hmeasured, hsetpoint, hvelocity, hweightBack, hflags, hone 0 hmove rfl, hone 1 hfault rfl,
    hone 13 hsource rfl, hone 14 hnumber rfl, hone 15 hphase rfl, hone 16 hreason rfl]

theorem readCueContents_eq {c : CueContents} (h : (Contents.cue c).fits) (stamp : Stamp) :
    readCueContents (payloadOf (.cue c) stamp) = c := by
  obtain ⟨⟨hnumber, hkind, hpreset, hduration, hfade, htimed⟩, hstart⟩ := h
  have hscope : readNat (byteAt (payloadOf (.cue c) stamp) 0) 2 8 = c.scope.toNat :=
    readNat_bytesOf (by have := c.scope.isLt; omega) rfl
  have hdurationBack : readNat (byteAt (payloadOf (.cue c) stamp) 0) 11 2 = c.duration :=
    readNat_bytesOf (by omega) rfl
  have hfadeBack : readNat (byteAt (payloadOf (.cue c) stamp) 0) 13 2 = c.fade :=
    readNat_bytesOf (by omega) rfl
  have hstartBack := readTime_eq (payload := payloadOf (.cue c) stamp) (o := 16) hstart rfl
  have hone := toNat_byteAt (payloadOf (.cue c) stamp)
  simp only [readCueContents, hscope, hdurationBack, hfadeBack, hone 0 hnumber rfl, hone 1 hkind rfl,
    hone 10 hpreset rfl, hone 15 htimed rfl, BitVec.ofNat_toNat, BitVec.setWidth_eq]
  exact congrArg (fun t => ({ c with start := t } : CueContents)) hstartBack

theorem readStick_eq {c : StickContents} (h : (Contents.stick c).fits) (stamp : Stamp) :
    readStick (payloadOf (.stick c) stamp) = c := by
  obtain ⟨hlength, hrange⟩ := h
  obtain ⟨values, switches⟩ := c
  obtain ⟨v0, v1, v2, v3, v4, v5, v6, v7, rfl⟩ := eight_values hlength
  have hvalue : ∀ i, i < 8 → readInt (byteAt (payloadOf (.stick ⟨[v0, v1, v2, v3, v4, v5, v6, v7], switches⟩) stamp) 0)
      (2 * i) 2 = [v0, v1, v2, v3, v4, v5, v6, v7].getD i 0 := by
    intro i hi
    have hmem : [v0, v1, v2, v3, v4, v5, v6, v7].getD i 0 ∈ [v0, v1, v2, v3, v4, v5, v6, v7] := by
      rw [List.getD_eq_getElem?_getD, List.getElem?_eq_getElem hi]
      exact List.getElem_mem hi
    obtain ⟨hlow, hhigh⟩ := hrange _ hmem
    refine readInt_bytesOf (by omega) (by omega) ?_
    match i, hi with
    | 0, _ | 1, _ | 2, _ | 3, _ | 4, _ | 5, _ | 6, _ | 7, _ => rfl
  have hswitches : readNat (byteAt (payloadOf (.stick ⟨[v0, v1, v2, v3, v4, v5, v6, v7], switches⟩) stamp) 0) 16 2 =
      switches.toNat :=
    readNat_bytesOf switches.isLt rfl
  simp only [readStick, List.map_cons, List.map_nil, hswitches, BitVec.ofNat_toNat, BitVec.setWidth_eq,
    hvalue 0 (by decide), hvalue 1 (by decide), hvalue 2 (by decide), hvalue 3 (by decide), hvalue 4 (by decide),
    hvalue 5 (by decide), hvalue 6 (by decide), hvalue 7 (by decide)]
  rfl

theorem readBack_payloadOf {contents : Contents} (h : contents.fits) {stamp : Stamp} (htime : stamp.time.fits)
    (hacc : stamp.acc < 65536) : contents.readBack (payloadOf contents stamp) stamp := by
  cases contents with
  | announce a => exact readAnnounce_eq h stamp
  | stick c => exact ⟨readStick_eq h stamp, readStamp_eq (length_stickBytes h.1) htime hacc⟩
  | state c => exact ⟨readState_eq h stamp, readStamp_eq (length_stateBytes c) htime hacc⟩
  | cue c => exact readCueContents_eq h stamp

theorem payloadLength_lt (k : FrameKind) : k.payloadLength < 256 := by cases k <;> decide

/-- A frame's bytes from the header on, as another station receives them. -/
def receivedBytes (source : Nat) (f : Frame) (stamp : Stamp) : List Byte :=
  frameBody source f stamp ++ bytesOf (crc16 (frameBody source f stamp)).toNat 2

theorem drop_wireBytes (source : Nat) (f : Frame) (stamp : Stamp) :
    (wireBytes source f stamp).drop 4 = receivedBytes source f stamp := rfl

/-- Settles O54: the header and the CRC-16 are read back where they stand, and the payload between them. -/
theorem framesAreReadBack : Obligations.FramesAreReadBack := by
  intro source own arrival f stamp hlow hhigh hother hsequence hfits htime hacc
  refine ⟨rfl, payloadOf f.contents stamp, ?_, length_payloadOf hfits stamp, readBack_payloadOf hfits htime hacc⟩
  have hpayload := length_payloadOf hfits stamp
  have hkind := payloadLength_lt f.contents.kind
  rw [drop_wireBytes]
  have hbody : (frameBody source f stamp).length = f.contents.kind.payloadLength + 4 := by
    simp only [frameBody, List.length_append, length_bytesOf, hpayload]
    omega
  have hcode : f.contents.kind.code < 256 := by cases f.contents.kind <;> decide
  have hsourceBack : (byteAt (receivedBytes source f stamp) 0 0).toNat =
      source := toNat_bytesOf (by omega) rfl
  have hkindBack : (byteAt (receivedBytes source f stamp) 0 1).toNat =
      f.contents.kind.code := toNat_bytesOf hcode rfl
  have hsequenceBack : (byteAt (receivedBytes source f stamp) 0 2).toNat =
      f.sequence := toNat_bytesOf hsequence rfl
  have hlengthBack : (byteAt (receivedBytes source f stamp) 0 3).toNat =
      f.contents.kind.payloadLength := toNat_bytesOf hkind (by rw [← hpayload]; rfl)
  have hcrc := readNat_bytesOf (get := byteAt (receivedBytes source f stamp) 0)
    (o := f.contents.kind.payloadLength + 4) (n := 2) (crc16 (frameBody source f stamp)).isLt
    (by rw [Spelled, ← hbody, receivedBytes, funext (byteAt_append_right _ _ 0)]; rfl)
  rw [readNat_two] at hcrc
  have htake : (receivedBytes source f stamp).take
      (f.contents.kind.payloadLength + 4) = frameBody source f stamp := by rw [receivedBytes, ← hbody, List.take_left]
  have hdrop : ((receivedBytes source f stamp).drop 4).take
      f.contents.kind.payloadLength = payloadOf f.contents stamp := by
    have : (receivedBytes source f stamp).drop 4 =
        payloadOf f.contents stamp ++ bytesOf (crc16 (frameBody source f stamp)).toNat 2 := rfl
    rw [this, ← hpayload, List.take_left]
  refine goodFrame_eq_some_iff.2 ⟨f.contents.kind, ⟨rfl, ?_, hkindBack, hlengthBack, ?_, ?_, ?_, ?_⟩, ?_⟩
  · simp only [receivedBytes, List.length_append, hbody, length_bytesOf]
  · exact Nat.le_trans hlow (Nat.le_of_eq hsourceBack.symm)
  · exact Nat.le_trans (Nat.le_of_eq hsourceBack) hhigh
  · exact fun h => hother (hsourceBack.symm.trans h)
  · rw [htake]
    exact hcrc.symm
  · simp only [frameRecord, hdrop]
    show RingRecord.mk (byteAt (receivedBytes source f stamp) 0 0).toNat _ (byteAt (receivedBytes source f stamp) 0 2).toNat
      _ _ = _
    rw [hsourceBack, hsequenceBack]

end Sys2Proof.Machine

/-! The Link Controller (spec/09_the_crane_link.md): attempts and the choice of a frame, the periodic frames, the line, collisions
and completion, the single counts, and the statements O11, O38, O44, O45, O46 and O47 assembled from them. -/
namespace Sys2Proof.Machine

/-! ## Attempts and the choice of a frame (R147, R152, R158) -/

theorem stampedBy_eq (f : Frame) (stamp : Stamp) :
    (if f.contents.kind.stamped then { f with stamp := some stamp } else f) = f.stampedBy stamp := by
  unfold Frame.stampedBy
  cases f.contents <;> rfl

theorem beginAttempt_none {s : State} (h : s.link.current = none) : beginAttempt s = s := by
  simp only [beginAttempt, h]

theorem beginAttempt_some {s : State} {f : Frame} (h : s.link.current = some f) :
    beginAttempt s = s.withLink { s.link with
      current := some (f.stampedBy s.stampNow), phase := .send, wire := wireBytes s.address f s.stampNow,
      reception := false, carrier := true, line := .busy } := by
  simp only [beginAttempt, h, stampedBy_eq]

theorem enterWait_waits {s : State} (h : s.link.line ≠ .free) :
    enterWait s = s.withLink { s.link with phase := .wait, backoff := 0 } := by
  simp [enterWait, h]

/-- On a FREE line the waiting frame is on the wire at once (R152). -/
theorem enterWait_starts {s : State} {f : Frame} (h : s.link.line = .free) (hf : s.link.current = some f) :
    enterWait s = s.withLink { s.link with
      current := some (f.stampedBy s.stampNow), phase := .send, backoff := 0,
      wire := wireBytes s.address f s.stampNow, reception := false, carrier := true, line := .busy } := by
  simp only [enterWait, State.withLink_link, h, if_true]
  rw [beginAttempt_some (by simpa using hf)]
  rfl

/-- The queue's next frame becomes current behind a line that is not FREE (R147). -/
theorem chooseFrame_waits {s : State} (hnone : s.link.current = none) (hline : s.link.line ≠ .free) :
    chooseFrame s = match s.link.cueSlots, s.link.periodic with
      | g :: rest, _ => s.withLink { s.link with
          current := some g, cueSlots := rest, attempts := 0, round := 1, phase := .wait, backoff := 0 }
      | [], some g => s.withLink { s.link with
          current := some g, periodic := none, attempts := 0, round := 1, phase := .wait, backoff := 0 }
      | [], none => s := by
  cases hcues : s.link.cueSlots with
  | cons g rest =>
    simp only [chooseFrame, hnone, hcues, makeCurrent]
    rw [enterWait_waits (by simpa using hline)]
    rfl
  | nil =>
    cases hperiodic : s.link.periodic with
    | some g =>
      simp only [chooseFrame, hnone, hcues, hperiodic, makeCurrent]
      rw [enterWait_waits (by simpa using hline)]
      rfl
    | none => simp only [chooseFrame, hnone, hcues, hperiodic]

/-- The link after the current frame leaves: the oldest CUE frame, else the periodic one, becomes current and waits. -/
def LinkController.afterDrop (l : LinkController) : LinkController :=
  match l.cueSlots, l.periodic with
  | g :: rest, _ =>
    { l with current := some g, cueSlots := rest, attempts := 0, round := 1, phase := .wait, backoff := 0 }
  | [], some g =>
    { l with current := some g, periodic := none, attempts := 0, round := 1, phase := .wait, backoff := 0 }
  | [], none => { l with current := none, phase := .wait, attempts := 0, round := 1 }

theorem afterDrop_cue {l : LinkController} {g : Frame} {rest : List Frame} (h : l.cueSlots = g :: rest) :
    l.afterDrop =
      { l with current := some g, cueSlots := rest, attempts := 0, round := 1, phase := .wait, backoff := 0 } := by
  simp only [LinkController.afterDrop, h]

theorem afterDrop_periodic {l : LinkController} {g : Frame} (h : l.cueSlots = []) (hg : l.periodic = some g) :
    l.afterDrop =
      { l with current := some g, periodic := none, attempts := 0, round := 1, phase := .wait, backoff := 0 } := by
  simp only [LinkController.afterDrop, h, hg]

theorem afterDrop_none {l : LinkController} (h : l.cueSlots = []) (hp : l.periodic = none) :
    l.afterDrop = { l with current := none, phase := .wait, attempts := 0, round := 1 } := by
  simp only [LinkController.afterDrop, h, hp]

/-- The current frame leaves, behind a line that is not FREE (R147, R155, R156). -/
theorem dropCurrent_waits {s : State} (hline : s.link.line ≠ .free) : dropCurrent s = s.withLink s.link.afterDrop := by
  rw [dropCurrent, chooseFrame_waits rfl (by simpa using hline)]
  cases hcues : s.link.cueSlots with
  | cons g rest => simp [hcues, afterDrop_cue hcues]
  | nil =>
    cases hperiodic : s.link.periodic with
    | some g => simp [hcues, hperiodic, afterDrop_periodic hcues hperiodic]
    | none => simp [hcues, hperiodic, afterDrop_none hcues hperiodic]

/-! ## The periodic frames (R147 to R149, R186) -/

/-- A periodic frame enters the queue in its place (R149). -/
theorem enqueuePeriodic_queued (f : Frame) (s : State) : PeriodicQueued f s (enqueuePeriodic f s) := by
  have hempty : s.link.current = none → s.link.cueSlots = [] →
      enqueuePeriodic f s = makeCurrent f ((s.withLink { s.link with periodic := some f }).withLink
        { s.link with periodic := none }) := fun hnone hcues => by
    simp only [enqueuePeriodic, hnone, chooseFrame, State.withLink_link, hcues]
  refine ⟨fun hnone hcues hline => ?waits, fun hnone hcues hline => ?starts, fun c hc hper hphase => ?replaces,
    fun c hc hfills => ?fills, by apply State.ext <;> simp⟩
  case waits =>
    rw [hempty hnone hcues, makeCurrent, enterWait_waits (by simpa using hline)]
    rfl
  case starts =>
    rw [hempty hnone hcues, makeCurrent, enterWait_starts (by simpa using hline) rfl]
    rfl
  case replaces =>
    have hoff : s.link.phase.onWire = false := (SendPhase.onWire_eq_false_iff _).2 hphase
    simp only [enqueuePeriodic, hc, hper, hoff, Bool.not_false, Bool.and_self, if_true, State.withLink_link]
  case fills =>
    have hstays : (c.isPeriodic && !s.link.phase.onWire) = false := by
      obtain h | h | h := hfills <;> simp [h, SendPhase.onWire]
    simp only [enqueuePeriodic, hc, hstays, Bool.false_eq_true, if_false, State.withLink_link]

/-- What a queued frame's account reads of the station before is its link, its clock and its address. -/
theorem PeriodicQueued.congr {f : Frame} {s t s' t' : State} (h : PeriodicQueued f s t) (hlink : s'.link = s.link)
    (hclock : s'.clock = s.clock) (haddress : s'.address = s.address) (ht : t'.link = t.link)
    (hothers : t'.withLink s'.link = s') : PeriodicQueued f s' t' := by
  refine ⟨?_, ?_, ?_, ?_, hothers⟩
  · rw [ht, hlink]; exact h.waits
  · rw [ht, hlink, hclock, haddress]; exact h.starts
  · rw [ht, hlink]; exact h.replaces
  · rw [ht, hlink]; exact h.fills

theorem buildAnnounce_eq {s : State} {r : Record} (h : s.record = some r) :
    buildAnnounce s = enqueuePeriodic (announceFrame r s.start.cause (s.start.checkWord.getD 0)) s := by
  simp only [buildAnnounce, h]
  cases hsettings : r.settings <;> simp only [State.announceContents, announceFrame, hsettings, Role.code]

/-- The frame that a frame period expiry builds, from its contents. -/
def periodicFrame (contents : Contents) (s : State) : Frame :=
  ⟨s.link.nextSequence.getD (s.link.shiftReg.toNat % 256), contents, none,
    match contents with | .state c => c.flags | _ => 0⟩

theorem buildPeriodic_queued (contents : Contents) (s : State) :
    PeriodicQueued (periodicFrame contents s) (s.withLink { s.link with
      nextSequence := some ((s.link.nextSequence.getD (s.link.shiftReg.toNat % 256) + 1) % 256) })
      (buildPeriodic contents s) := enqueuePeriodic_queued _ _

theorem periodicContents_axis {s : State} (h : s.axis?.isSome = true) : s.periodicContents = .state s.stateContents := by
  rw [State.periodicContents, if_pos h]

theorem periodicContents_hand {s : State} (h : s.axis? = none) :
    s.periodicContents = .stick ⟨s.hand.values, s.hand.switches⟩ := by
  simp [State.periodicContents, h]

/-- Settles O47: the frame by the station's role, and its place in the queue. -/
theorem periodicFrameIsBuilt : Obligations.PeriodicFrameIsBuilt := by
  intro s hrun htimer n
  refine ⟨buildPeriodic s.periodicContents s, periodicFrame s.periodicContents s, whenDue_due hrun htimer _, rfl, rfl,
    fun hax => ⟨?_, periodicContents_axis hax⟩, fun hax => periodicContents_hand hax, buildPeriodic_queued _ s⟩
  simp only [periodicFrame, periodicContents_axis hax]
  rfl

/-- Settles O11: the window's next instant, and the ANNOUNCE in the queue. -/
theorem announceFrameIsBuilt : Obligations.AnnounceFrameIsBuilt := by
  intro s r w hrun hrecord hwindow hw
  have hnext : nextAnnounce s.start.windowTimer = some (if w < 60 then 60 else 120) := by
    rw [hwindow]
    by_cases h : w < 60 <;> simp [nextAnnounce, h, hw]
  have hbuild := buildAnnounce_eq (s := s.withStart { s.start with windowTimer := some (if w < 60 then 60 else 120) }) hrecord
  have hqueued := enqueuePeriodic_queued (announceFrame r s.start.cause (s.start.checkWord.getD 0))
    (s.withStart { s.start with windowTimer := some (if w < 60 then 60 else 120) })
  rw [State.withStart_start] at hbuild
  rw [← hbuild] at hqueued
  have hexec : exec .announceBuild s =
      .next (buildAnnounce (s.withStart { s.start with windowTimer := nextAnnounce s.start.windowTimer })) := by
    unfold exec execAnnounceBuild
    exact whenDue_due hrun (by rw [hnext]; rfl) _
  rw [hnext] at hexec
  refine ⟨_, hexec, by simp, ?_, ?_⟩
  · exact hqueued.congr rfl (by simp) (by simp [State.address]) rfl rfl
  · apply State.ext <;> simp

/-! ## The line (R151, R152) -/

theorem carrierOn_eq (l : LinkController) :
    l.carrierOn = { l with carrier := true, line := if l.line = .lateGap then .lateGap else .busy } := by
  unfold LinkController.carrierOn
  cases h : l.line <;> rfl

/-- Settles O44: the carrier's two changes, and the gap's two ends. -/
theorem lineFollowsTheCarrier : Obligations.LineFollowsTheCarrier := by
  intro s hrun
  refine ⟨?starts, fun hphase => ?ends, fun hline => ?late, fun hline => ?gap⟩
  case starts =>
    unfold exec execCarrierStart
    rw [carrierChange_running hrun, carrierOn_eq]
  case ends =>
    have hoff : s.link.phase.onWire = false := (SendPhase.onWire_eq_false_iff _).2 hphase
    unfold exec execCarrierEnd
    rw [carrierChange_running hrun, hoff]
    rfl
  case late =>
    unfold exec execLateGap
    exact whenDue_due hrun (by rw [hline]; rfl) _
  case gap =>
    have hexec : exec .gapEnd s = .next (gapEnds s) := by
      unfold exec execGapEnd
      exact whenDue_due hrun (by rw [hline]; rfl) _
    rw [hexec, gapEnds]
    refine ⟨fun hidle => congrArg _ ?_, fun f hphase hf => congrArg _ ?_⟩
    · obtain h | h := hidle
      · rw [if_neg (by simpa using h)]
        rfl
      · rw [beginAttempt_none (by simpa using h), ite_self]
        rfl
    · rw [if_pos (by simpa using hphase), beginAttempt_some (by simpa using hf)]
      cases hc : f.contents <;> simp [Frame.stampedBy, hc, Config.gapBits, State.stampNow, State.address]

/-! ## Collision, jam, backoff (R149, R153 to R155) -/

/-- The current periodic frame's contents are the newer ones of the slot, where it has some (R149). -/
def newerOf (f : Frame) (periodic : Option Frame) : Option Frame :=
  match periodic with
  | some g => if f.isPeriodic then some g else none
  | none => none

theorem newerOf_cue {f : Frame} (h : f.isPeriodic = false) (p : Option Frame) : newerOf f p = none := by
  cases p <;> simp [newerOf, h]

theorem newerOf_isPeriodic {f : Frame} {p : Option Frame} (h : f.isPeriodic = true)
    (hp : ∀ g, p = some g → g.isPeriodic = true) : ((newerOf f p).getD f).isPeriodic = true := by
  cases p with
  | none => exact h
  | some g => simpa [newerOf, h] using hp g rfl

theorem moveNewer_eq {s : State} {f : Frame} (h : s.link.current = some f) :
    moveNewer s = s.withLink { s.link with
      current := some ((newerOf f s.link.periodic).getD f),
      periodic := if (newerOf f s.link.periodic).isSome then none else s.link.periodic } := by
  have hstays : newerOf f s.link.periodic = none → s = s.withLink { s.link with
      current := some ((newerOf f s.link.periodic).getD f),
      periodic := if (newerOf f s.link.periodic).isSome then none else s.link.periodic } := fun hn => by
    rw [hn, Option.getD_none, ← h]
    rfl
  obtain hp | ⟨g, hp⟩ := Option.eq_none_or_eq_some s.link.periodic
  · have hn : newerOf f s.link.periodic = none := by rw [hp]; rfl
    refine Eq.trans ?_ (hstays hn)
    simp only [moveNewer, h, hp]
  · cases hf : f.isPeriodic with
    | true => simp [moveNewer, newerOf, h, hp, hf]
    | false =>
      have hn : newerOf f s.link.periodic = none := by simp [hp, newerOf, hf]
      refine Eq.trans ?_ (hstays hn)
      simp [moveNewer, h, hp, hf]

/-- The attempt limit of a CUE frame in round 1: the second round (R155). -/
theorem attemptLimit_again {f : Frame} {c : CueContents} {s : State} (hf : f.contents = .cue c) (hround : s.link.round = 1)
    (hline : s.link.line ≠ .free) :
    attemptLimit f s = s.withLink { s.link with phase := .wait, backoff := 0, attempts := 0, round := 2 } := by
  simp only [attemptLimit, hf, hround, if_true]
  rw [enterWait_waits (by simpa using hline)]
  rfl

theorem attemptLimit_lost {f : Frame} {c : CueContents} {s : State} (hf : f.contents = .cue c) (hround : s.link.round ≠ 1) :
    attemptLimit f s = dropCurrent (setOutcome c.number .lost s) := by
  simp only [attemptLimit, hf, hround, if_false]

theorem isPeriodic_iff (f : Frame) : f.isPeriodic = true ↔ ∀ c, f.contents ≠ .cue c := by
  unfold Frame.isPeriodic
  cases f.contents <;> simp [Contents.kind]

theorem attemptLimit_periodic {f : Frame} {s : State} (hf : f.isPeriodic = true) : attemptLimit f s = dropCurrent s := by
  rw [isPeriodic_iff] at hf
  unfold attemptLimit
  cases hc : f.contents with
  | cue c => exact absurd hc (hf c)
  | _ => rfl

/-- The backoff of the slots drawn, behind a line that is not FREE (R154). -/
theorem startBackoff_eq {s : State} (hline : s.link.line ≠ .free) :
    startBackoff s = s.withLink (if s.link.drawn = 0 then { s.link with phase := .wait, backoff := 0 }
      else { s.link with phase := .backoff, backoff := s.link.drawn * 64 }) := by
  unfold startBackoff
  split
  · rw [enterWait_waits hline]
  · rfl

/-- Settles O45: the jam's end by the attempts taken and the frame's kind, and the two ends of a backoff. -/
theorem collisionsBackOff : Obligations.CollisionsBackOff := by
  intro s hrun
  refine ⟨fun hphase => ?collides, fun f hphase hf => ?jam, fun hphase => ?backoff⟩
  case collides =>
    unfold exec execCollision
    exact whenDue_due hrun (by rw [hphase]; rfl) _
  case jam =>
    intro newer l
    have hjam : exec .jamEnd s = .next (if 16 ≤ s.link.attempts then attemptLimit (newer.getD f) (s.withLink l)
        else startBackoff (s.withLink l)) := by
      unfold exec execJamEnd
      rw [whenDue_due hrun (by rw [hphase]; rfl), jamEnds, moveNewer_eq (f := f) (by exact hf)]
      rfl
    have hline : (s.withLink l).link.line ≠ .free := by simp [l]
    rw [hjam]
    refine ⟨fun hlt => ?_, fun c hge hcue hround => ?_, fun hge hends hslot => ?_⟩
    · rw [if_neg (by omega), startBackoff_eq hline]
      rfl
    · have hnone : newer = none := newerOf_cue (by simp [Frame.isPeriodic, hcue, Contents.kind]) _
      rw [if_pos hge, hnone, Option.getD_none, attemptLimit_again hcue (by simpa using hround) hline]
      rfl
    · rw [if_pos hge]
      have hlink : (l.afterDrop : LinkController) =
          let dropped := { l with current := none, phase := .wait, attempts := 0, round := 1 }
          match l.cueSlots, l.periodic with
          | g :: rest, _ => { dropped with current := some g, cueSlots := rest, backoff := 0 }
          | [], some g => { dropped with current := some g, periodic := none, backoff := 0 }
          | [], none => dropped := by
        cases hcues : l.cueSlots with
        | cons g rest => exact afterDrop_cue hcues
        | nil =>
          cases hp : l.periodic with
          | some g => rw [afterDrop_periodic hcues hp, hcues]
          | none => rw [afterDrop_none hcues hp, hcues, hp]
      by_cases hper : f.isPeriodic = true
      · have hcurrent : (newer.getD f).isPeriodic = true := newerOf_isPeriodic hper hslot
        rw [attemptLimit_periodic hcurrent, dropCurrent_waits hline]
        exact ⟨_, rfl, hlink, fun c hcue => absurd hcue ((isPeriodic_iff f).1 hper c), fun _ => rfl, rfl⟩
      · obtain ⟨c, hcue⟩ : ∃ c, f.contents = .cue c := by
          refine Classical.byContradiction fun hnone => ?_
          exact hper ((isPeriodic_iff f).2 fun c hc => hnone ⟨c, hc⟩)
        have hround : s.link.round ≠ 1 := hends.resolve_left hper
        have hnone : newer = none := newerOf_cue (by simpa using hper) _
        have hlimit : attemptLimit (newer.getD f) (s.withLink l) = dropCurrent (setOutcome c.number .lost (s.withLink l)) := by
          rw [hnone]
          exact attemptLimit_lost hcue hround
        rw [hlimit, dropCurrent_waits (by simp [l])]
        refine ⟨_, rfl, hlink, fun c' hc' => ?_, fun h => absurd h hper, ?_⟩
        · cases hcue.symm.trans hc'
          rfl
        · rfl
  case backoff =>
    have hexec : exec .backoffEnd s = .next (enterWait s) := by
      unfold exec execBackoffEnd
      exact whenDue_due hrun (by rw [hphase]; rfl) _
    rw [hexec]
    refine ⟨fun hline => congrArg _ (enterWait_waits hline), fun f hline hf => congrArg _ ?_⟩
    rw [enterWait_starts hline hf]
    rfl

/-! ## Completion (R156, R159) -/

/-- The flags that a completed frame clears: those a STATE frame carried that stood set since its build (R159). -/
def Frame.clears (f : Frame) : FlagSet :=
  match f.contents with
  | .state _ => f.standing
  | _ => 0

theorem and_not_zero (x : FlagSet) : x &&& ~~~(0 : FlagSet) = x := by
  rw [show ~~~(0 : FlagSet) = BitVec.allOnes 8 by decide, BitVec.and_allOnes]

theorem afterClear_zero (g : Frame) : g.afterClear 0 = g := by
  rw [Frame.afterClear, and_not_zero]

/-- A completed frame's flags leave the flags and the waiting frame's account, whatever its kind (R159). -/
theorem completed_link_flags (f : Frame) (s : State) :
    (completed f s).link = { s.link with periodic := s.link.periodic.map (Frame.afterClear f.clears) } ∧
      (completed f s).flags = s.flags &&& ~~~f.clears := by
  have hzero : f.clears = 0 → s.link = { s.link with periodic := s.link.periodic.map (Frame.afterClear f.clears) } ∧
      s.flags = s.flags &&& ~~~f.clears := fun h => by
    rw [h, show Frame.afterClear 0 = id from funext afterClear_zero, Option.map_id, and_not_zero]
    exact ⟨rfl, rfl⟩
  cases hc : f.contents with
  | state c =>
    have hclears : f.clears = f.standing := by simp [Frame.clears, hc]
    simp only [completed, hc, hclears, clearCarried]
    exact ⟨rfl, rfl⟩
  | announce a => simpa [completed, hc] using hzero (by simp [Frame.clears, hc])
  | stick c => simpa [completed, hc] using hzero (by simp [Frame.clears, hc])
  | cue c => simpa [completed, hc] using hzero (by simp [Frame.clears, hc])

theorem completed_panel (f : Frame) (s : State) :
    (∀ c, f.contents = .cue c → (completed f s).panel = { s.panel with
      recent := s.panel.recent.map fun x => if x.number = c.number then ⟨x.number, .sent⟩ else x }) ∧
    (f.isPeriodic = true → (completed f s).panel = s.panel) := by
  refine ⟨fun c hc => ?_, fun hper => ?_⟩
  · simp only [completed, hc]
    rfl
  · rw [isPeriodic_iff] at hper
    cases hc : f.contents with
    | cue c => exact absurd hc (hper c)
    | state c => simp [completed, hc]
    | _ => simp only [completed, hc]

/-- Settles O46: the frame's own end, then the next frame behind the gap. -/
theorem completedFrameLeavesTheQueue : Obligations.CompletedFrameLeavesTheQueue := by
  intro s f hrun hphase hf cleared waiting ended
  have hexec : exec .attemptComplete s =
      .next (dropCurrent (completed f (s.withLink { s.link.carrierOff with wire := [] }))) := by
    unfold exec execAttemptComplete
    rw [whenDue_due hrun (by rw [hphase]; rfl)]
    simp only [completeAttempt, hf]
  obtain ⟨hlink, hflags⟩ := completed_link_flags f (s.withLink { s.link.carrierOff with wire := [] })
  obtain ⟨hcuePanel, hpanel⟩ := completed_panel f (s.withLink { s.link.carrierOff with wire := [] })
  have hdrop := dropCurrent_waits (s := completed f (s.withLink { s.link.carrierOff with wire := [] }))
    (by rw [hlink]; simp [LinkController.carrierOff])
  have hslots : (completed f (s.withLink { s.link.carrierOff with wire := [] })).link.cueSlots = s.link.cueSlots := by
    rw [hlink]; rfl
  have hperiodic : (completed f (s.withLink { s.link.carrierOff with wire := [] })).link.periodic = waiting := by
    rw [hlink]; rfl
  rw [hexec, hdrop]
  refine ⟨_, rfl, fun hcues hnone => ?_, fun g hcues hg => ?_, fun g rest hcues => ?_, hflags, hcuePanel, hpanel, ?_⟩
  · have hw : waiting = none := by simp [waiting, hnone]
    rw [State.withLink_link, afterDrop_none (hslots.trans hcues) (hperiodic.trans hw), hlink]
    rfl
  · rw [State.withLink_link, afterDrop_periodic (hslots.trans hcues) (hperiodic.trans hg), hlink]
    rfl
  · rw [State.withLink_link, afterDrop_cue (hslots.trans hcues), hlink]
    rfl
  · apply State.ext <;> simp

/-! ## The single counts (R76, R154, R160) -/

theorem getLsbD_shiftOnce_zero (r : BitVec 17) : (shiftOnce r).getLsbD 0 = (r.getLsbD 16 != r.getLsbD 13) := by
  simp [shiftOnce]

theorem getLsbD_shiftOnce_succ (r : BitVec 17) {i : Nat} (h : i < 16) : (shiftOnce r).getLsbD (i + 1) = r.getLsbD i := by
  simp only [shiftOnce, BitVec.getLsbD_or, BitVec.getLsbD_shiftLeft, BitVec.getLsbD_setWidth, BitVec.getLsbD_ofBool]
  simp [show i + 1 < 17 by omega]

/-- A register that is not 0 keeps a bit: the one it drops comes back as the lowest, unless another is set (R154). -/
theorem shiftOnce_ne_zero {r : BitVec 17} (h : r ≠ 0) : shiftOnce r ≠ 0 := by
  intro hzero
  apply h
  have hbits : ∀ i, (shiftOnce r).getLsbD i = false := fun i => by rw [hzero]; exact BitVec.getLsbD_zero
  have hlow : ∀ i, i < 16 → r.getLsbD i = false := fun i hi => by rw [← getLsbD_shiftOnce_succ r hi]; exact hbits _
  have htop : r.getLsbD 16 = false := by
    have hzero := (getLsbD_shiftOnce_zero r).symm.trans (hbits 0)
    rw [hlow 13 (by decide)] at hzero
    cases h16 : r.getLsbD 16 with
    | true => rw [h16] at hzero; exact absurd hzero (by decide)
    | false => rfl
  refine BitVec.eq_of_getLsbD_eq fun i hi => ?_
  obtain hlt | rfl : i < 16 ∨ i = 16 := by omega
  · rw [hlow i hlt]; simp
  · rw [htop]; simp

/-- Settles O38: each count by its own command. -/
theorem singleCountsCount : Obligations.SingleCountsCount := by
  intro s hrun
  have hperiod : exec .periodCountExpiry s =
      .next (s.withLink { s.link with periodCount := s.link.periodCount + 1 }) := by
    unfold exec execPeriodCountExpiry
    exact whenRunning_running hrun _
  have hbit : exec .backoffRegisterShift s = .next (s.withLink (bitTime s.link)) := by
    unfold exec execBackoffRegisterShift
    exact whenRunning_running hrun _
  refine ⟨fun hpulses => ?pulse, ⟨_, hperiod, ?count, rfl⟩, ⟨_, hbit, getLsbD_shiftOnce_zero _,
    fun i hi => getLsbD_shiftOnce_succ _ hi, shiftOnce_ne_zero, rfl, fun hline hgap => ?gap, fun hline hgap => ?lateGap,
    rfl⟩⟩
  case pulse =>
    unfold exec execStepPulseEmitted
    exact whenDue_due hrun (by simpa using hpulses) _
  case count => simp [BitVec.toNat_add]
  case gap =>
    simp only [bitTime, LinkController.gapTick, State.withLink_link, hline, Config.lateGapBits]
    omega
  case lateGap =>
    simp only [bitTime, LinkController.gapTick, State.withLink_link, hline, Config.gapBits]
    omega

end Sys2Proof.Machine

/-! What every step keeps, I (the laws of Safety.lean): the effects that reach the axis blocks sorted into a few kinds, the
law of the start phases, and the outputs beside the move state (O56). -/
namespace Sys2Proof.Machine

/-! ## What a record read comes down to (R181, R183, R184) -/

/-- A record read refuses the record or finds a good one; beside that it writes the Start Controller alone. -/
theorem recordRead_cases (bytes : List Byte) (s : State) :
    (∃ x : StartController, x.phase = .badRecord ∧ recordRead bytes s = s.withStart x) ∨
    ∃ (r : Record) (x : StartController), r.Good ∧ recordRead bytes s = recordGood r (s.withStart x) := by
  unfold recordRead refuseRecord
  dsimp only
  split
  · exact .inl ⟨_, rfl, rfl⟩
  · split
    · exact .inl ⟨_, rfl, rfl⟩
    · split
      · exact .inl ⟨_, rfl, rfl⟩
      · next r h => exact .inr ⟨r, _, examine_good h, rfl⟩

theorem recordGood_axis {r : Record} {ax : AxisSettings} (h : r.settings = .axis ax) (s : State) :
    recordGood r s = takeRecordAxis ax (takeRecordBoth r s) := by simp [recordGood, h]

theorem recordGood_hand {r : Record} {cals : List Calibration} (h : r.settings = .hand cals) (s : State) :
    recordGood r s = takeRecordHand (takeRecordBoth r s) := by simp [recordGood, h]

theorem axis_of_record {s : State} {r : Record} (h : s.record = some r) (ax : AxisSettings) :
    s.axis? = some ax ↔ r.settings = .axis ax := by
  obtain ⟨_, _, _, _, _, _, _, _, settings⟩ := r
  cases settings <;> simp [State.axis?, h]

theorem axis_of_no_record {s : State} (h : s.record = none) : s.axis? = none := by simp [State.axis?, h]

theorem axis_of_hand_record {s : State} {r : Record} {cals : List Calibration} (h : s.record = some r)
    (hr : r.settings = .hand cals) : s.axis? = none := by
  obtain ⟨_, _, _, _, _, _, _, _, settings⟩ := r
  cases hr
  simp [State.axis?, h]

theorem axis_congr {s t : State} (h : t.record = s.record) : t.axis? = s.axis? := by simp only [State.axis?, h]

theorem State.StartLaw.axisGood {s : State} (h : s.StartLaw) {ax : AxisSettings} (hax : s.axis? = some ax) : ax.Good := by
  obtain hr | ⟨r, hr⟩ := Option.eq_none_or_eq_some s.record
  · simp [axis_of_no_record hr] at hax
  · exact (h.record r hr).axis ax ((axis_of_record hr ax).1 hax)

/-! ## Laws that firings keep -/

/-- A law of the axis blocks and the Preset Store that the firing of a cue keeps (R118). -/
structure FiringLaw (P : State → Prop) : Prop where
  congr : ∀ s t : State, (t.start = s.start ∧ t.record = s.record ∧ t.blend = s.blend ∧ t.limiter = s.limiter ∧
    t.drive = s.drive ∧ t.presets = s.presets) → P s → P t
  fires : ∀ ax f s, s.axis? = some ax → P s → P (fire ax f s)

namespace FiringLaw

variable {P : State → Prop} (h : FiringLaw P)
include h

theorem fireMarked (ax : AxisSettings) (f : Firing) {s : State} (hax : s.axis? = some ax) (hs : P s) :
    P (fireMarked ax f s) := by
  unfold Machine.fireMarked
  split
  · exact h.fires ax f _ (by simpa using hax) (h.congr s _ (by simp) hs)
  · exact h.fires ax f s hax hs

theorem fireArmed (ax : AxisSettings) (due late : ArmedCue → Bool) (n : Nat) {s : State} (hax : s.axis? = some ax)
    (hs : P s) : P (fireArmed ax due late n s) := by
  induction n generalizing s with
  | zero => exact hs
  | succ n ih =>
    unfold Machine.fireArmed
    split
    · exact hs
    · exact ih (by simpa using hax) (h.fireMarked ax _ (by simpa using hax) (h.congr s _ (by simp) hs))

theorem fireAll (ax : AxisSettings) (due late : ArmedCue → Bool) {s : State} (hax : s.axis? = some ax) (hs : P s) :
    P (fireAll ax due late s) := h.fireArmed ax due late _ hax hs

theorem afterJump (ax : AxisSettings) (fps old new : Nat) {s : State} (hax : s.axis? = some ax) (hs : P s) :
    P (afterJump ax fps old new s) := by
  unfold Machine.afterJump
  dsimp only
  split
  · exact h.fireAll ax _ _ hax hs
  · split
    · exact List.foldlRecOn _ _ (h.congr s _ (by simp) hs) fun t ht e _ => h.congr t _ (by simp) ht
    · exact h.fireAll ax _ _ hax hs

theorem loadClock (fps : Nat) (st : Stamp) {s : State} (hs : P s) : P (loadClock fps st s) := by
  have hclock : P (s.withClock { s.clock with time := st.time, acc := st.acc }) := h.congr s _ (by simp) hs
  unfold Machine.loadClock
  dsimp only
  split
  · exact hclock
  · next ax hax =>
    split
    · exact hclock
    · have hjump := h.afterJump ax fps (frameNumber fps s.clock.time) (frameNumber fps st.time) hax hclock
      exact h.congr _ _ (by simp) hjump

theorem compareStamp (fps : Nat) (st : Stamp) {s : State} (hs : P s) : P (compareStamp fps st s) := by
  unfold Machine.compareStamp
  split
  · split
    · exact h.congr s _ (by simp) hs
    · exact h.loadClock fps st (h.congr s _ (by simp) hs)
  · exact hs

theorem clockExpiry {s : State} (hs : P s) : P (clockExpiry s) := by
  unfold Machine.clockExpiry fireDue
  split
  · exact hs
  · next r _ =>
    have hclock : P (s.withClock (s.clock.tick r.fps)) := h.congr s _ (by simp) hs
    dsimp only
    split
    · split
      · exact hclock
      · next ax hax => exact h.fireAll ax _ _ hax hclock
    · exact hclock

theorem scheduleCue (ax : AxisSettings) (fps : Nat) (e : ArmedCue) {s : State} (hax : s.axis? = some ax) (hs : P s) :
    P (scheduleCue ax fps e s) := by
  unfold Machine.scheduleCue
  dsimp only
  split
  · exact h.congr s _ (by simp) hs
  split
  · exact h.congr s _ (by simp) hs
  split
  · exact h.fireMarked ax _ hax hs
  split
  · exact h.fireMarked ax _ hax hs
  split
  · exact h.congr s _ (by simp) hs
  split <;> exact h.congr s _ (by simp) hs

theorem takeCue (r : Record) (ax : AxisSettings) (source : Nat) (c : CueContents) {s : State} (hax : s.axis? = some ax)
    (hs : P s) : P (takeCue r ax source c s) := by
  unfold Machine.takeCue
  split
  · next kind entry _ _ _ =>
    dsimp only
    split
    · have hnoted : P (noteTaken entry ⟨source, c.number⟩ s) := h.congr s _ (by simp) hs
      have hax' : (noteTaken entry ⟨source, c.number⟩ s).axis? = some ax := by simpa using hax
      split
      · exact h.fireMarked ax _ hax' hnoted
      · exact h.scheduleCue ax r.fps _ hax' hnoted
    · exact hs
  · exact hs

theorem handStamp (e : PeerEntry) {s : State} (hs : P s) : P (handStamp e s) := by
  unfold Machine.handStamp
  split
  · exact h.compareStamp _ _ hs
  · exact hs

theorem handAcceptance (e : PeerEntry) {s : State} (hs : P s) : P (handAcceptance e s) := h.congr s _ (by simp) hs

theorem handAccepted (clockFirst : Bool) (e : PeerEntry) {s : State} (hs : P s) : P (handAccepted clockFirst e s) := by
  unfold Machine.handAccepted
  split
  · exact h.handAcceptance e (h.handStamp e hs)
  · exact h.handStamp e (h.handAcceptance e hs)

theorem takePeriodic (clockFirst : Bool) (kind : PeerKind) (c : PeerContents) (r : RingRecord) {s : State} (hs : P s) :
    P (takePeriodic clockFirst kind c r s) := by
  unfold Machine.takePeriodic
  split
  · exact hs
  · split
    · exact h.handAccepted clockFirst _ (h.congr s _ (by simp) hs)
    · exact hs

theorem handOn (clockFirst : Bool) (r : RingRecord) {s : State} (hs : P s) : P (handOn clockFirst r s) := by
  unfold Machine.handOn takeCueFrame
  split
  · exact hs
  · split
    · exact h.takePeriodic _ _ _ _ hs
    · exact h.takePeriodic _ _ _ _ hs
    · exact h.congr s _ (by simp) hs
    · split
      · next rec ax _ hax => exact h.takeCue rec ax _ _ hax hs
      · exact hs

theorem takeOldest (clockFirst : Bool) {s : State} (hs : P s) : P (takeOldest clockFirst s) := by
  unfold Machine.takeOldest
  split
  · exact hs
  · next r rest _ =>
    have hwith : P ((s.withLink { s.link with ring := rest }).withIntake (some r)) := h.congr s _ (by simp) hs
    have hhanded := h.handOn clockFirst r hwith
    exact h.congr _ _ (by simp) hhanded

theorem ageing (order : List Nat) {s : State} (hs : P s) : P (ageingExpiry order s) := h.congr s _ (by simp) hs

end FiringLaw

/-! ## START stands until the announce window ends (R17, R187) -/

theorem haltMove_of_start {s : State} (h : s.blend.move = .start) : haltMove s = s := by simp [haltMove, h]

theorem clearCue_of_start {s : State} (h : s.blend.move = .start) (cue : CueId) : clearCue cue s = post cue .done .none s := by
  simp [clearCue, h]

theorem storeCue_of_start {s : State} (h : s.blend.move = .start) (cue : CueId) (i : Nat) :
    storeCue cue i s = post cue .refused .notReady s := by simp [storeCue, h]

theorem fire_start (ax : AxisSettings) (f : Firing) {s : State} (h : s.blend.move = .start) :
    (fire ax f s).blend = s.blend := by
  cases hk : f.kind with
  | go => simp [fire, hk, goCue_notReady ax f (.inl h)]
  | halt => simp [fire, hk, haltCue, haltMove_of_start h]
  | store => simp [fire, hk]
  | clear => simp [fire, hk, clearCue_of_start h]
  | disarm => simp [fire, hk]

theorem startFiringLaw : FiringLaw fun s => s.blend.move = .start where
  congr s t h hs := by
    obtain ⟨-, -, hblend, -⟩ := h
    rwa [hblend]
  fires ax f s _ hs := by rw [fire_start ax f hs]; exact hs

theorem handOver_blend (ax : AxisSettings) (s : State) : (handOver ax s).blend = (handC ax s).blend := by simp [handOver]

theorem axisPeriod_start (ax : AxisSettings) {s : State} (h : s.blend.move = .start) :
    (axisPeriod ax s).blend.move = .start := by
  have hstays : stageMove ax (setC (s.drive.measured * 16) s) = setC (s.drive.measured * 16) s := by simp [stageMove, h]
  rw [axisPeriod, stagesToC_tracks ax (.inl h), hstays, handOver_blend]
  simpa [handC] using h

theorem periodExpiry_start {s : State} (h : s.blend.move = .start) : (periodExpiry s).blend.move = .start := by
  unfold periodExpiry
  split
  · simpa [barePeriod] using h
  · split
    · exact axisPeriod_start _ h
    · exact h

theorem sampleInputs_start (low high amp : Bool) (first : InputLine) {s : State} (h : s.blend.move = .start) :
    (sampleInputs low high amp first s).blend.move = .start := by
  refine List.foldlRecOn (motive := fun t : State => t.blend.move = .start) _ _ h fun t ht line _ => ?_
  rw [sampleInput_eq]
  split
  · rw [raise_of_start (by simpa using ht)]
    simpa using ht
  · simpa using ht

theorem positionRead_start (idle : Bool) (data : BitVec 24) (error : Bool) {s : State} (h : s.blend.move = .start) :
    (positionRead idle data error s).blend.move = .start := by
  unfold positionRead
  split
  · rw [compareFollowing_passive (by simp [h, MoveState.servoActive])]
    simpa using h
  · dsimp only
    split
    · rw [raise_of_start (by simpa using h)]
      simpa using h
    · simpa using h

/-! ## The law of the start phases (R17, R179, R184, R187) -/

theorem State.StartLaw.of_frame {s t : State} (h : s.StartLaw) (hphase : t.start.phase = s.start.phase)
    (hrecord : t.record = s.record) (hmove : s.blend.move = .start → t.blend.move = .start) : t.StartLaw where
  loading := by rw [hphase, hrecord]; exact h.loading
  record := by rw [hrecord]; exact h.record
  axis hax := hmove (h.axis (by rwa [axis_congr hrecord] at hax))
  running hrun := hmove (h.running (by rwa [hphase] at hrun))

theorem State.StartLaw.of_record_none {s : State} (hrecord : s.record = none) (hmove : s.blend.move = .start) : s.StartLaw :=
  ⟨fun _ => hrecord, fun r hr => by simp [hrecord] at hr, fun _ => hmove, fun _ => hmove⟩

/-- A record found good and not yet run: START stands. -/
theorem State.StartLaw.of_good {s : State} {r : Record} (hrecord : s.record = some r) (hgood : r.Good)
    (hphase : s.start.phase ≠ .loadingRecord) (hmove : s.blend.move = .start) : s.StartLaw :=
  ⟨fun h => absurd h hphase, fun r' hr' => by rw [hrecord] at hr'; cases hr'; exact hgood, fun _ => hmove, fun _ => hmove⟩

@[simp] theorem openWindow_start (s : State) :
    (openWindow s).start = { s.start with phase := .announcing, windowTimer := some 0 } := by simp [openWindow]

theorem loadEntry_phase (body : PresetBody) (s : State) (h : s.start.phase = .loadingPresets) :
    (loadEntry body s).start.phase = .loadingPresets ∨ (loadEntry body s).start.phase = .announcing := by
  unfold loadEntry
  dsimp only
  split
  · exact .inr (by simp)
  · exact .inl (by simpa using h)

theorem State.StartLaw.after_loadEntry {s : State} (h : s.StartLaw) (hphase : s.start.phase = .loadingPresets) (body : PresetBody) :
    (loadEntry body s).StartLaw := by
  have hmove : s.blend.move = .start := h.running (by simp [hphase])
  obtain hr | ⟨r, hr⟩ := Option.eq_none_or_eq_some s.record
  · exact .of_record_none (by simpa using hr) (by simpa using hmove)
  · refine .of_good (by simpa using hr) (h.record r hr) ?_ (by simpa using hmove)
    obtain hp | hp := loadEntry_phase body s hphase <;> simp [hp]

theorem State.StartLaw.after_recordGood {s : State} {r : Record} (hgood : r.Good) (hmove : s.blend.move = .start) :
    (recordGood r s).StartLaw := by
  cases hr : r.settings with
  | axis ax =>
    rw [recordGood_axis hr]
    exact .of_good (r := r) (by simp [takeRecordAxis, takeRecordBoth]) hgood (by simp [takeRecordAxis])
      (by simpa [takeRecordAxis, takeRecordBoth] using hmove)
  | hand cals =>
    rw [recordGood_hand hr]
    exact .of_good (r := r) (by simp [takeRecordHand, takeRecordBoth, openWindow]) hgood (by simp [takeRecordHand])
      (by simp [takeRecordHand, openWindow, BlendEngine.initial])

/-- The window's end runs, and in a station without axis settings START stands on. -/
theorem State.StartLaw.after_windowEnds {s : State} (h : s.StartLaw) (frameFirst : Bool) :
    (windowEnds frameFirst s).StartLaw := by
  have hstart : (windowEnds frameFirst s).start.phase = .running := by unfold windowEnds; split <;> simp
  have hrecord : (windowEnds frameFirst s).record = s.record := by simp
  refine ⟨fun hl => by simp [hstart] at hl, by rw [hrecord]; exact h.record, fun hax => ?_, fun hr => absurd hstart hr⟩
  rw [axis_congr hrecord] at hax
  have hmove := h.axis hax
  unfold windowEnds leaveStart
  split <;> simpa [hax] using hmove

/-- Every effect keeps the law of the start phases. -/
theorem Effect.keeps_startLaw {s t : State} (h : Effect s t) (hs : s.StartLaw) : t.StartLaw := by
  cases h with
  | idle => exact hs
  | starts released m => exact .of_record_none rfl rfl
  | resets condition => exact hs.of_frame rfl rfl id
  | reads bytes hphase =>
    have hmove : s.blend.move = .start := hs.running (by simp [hphase])
    obtain ⟨x, hx, h⟩ | ⟨r, x, hgood, h⟩ := recordRead_cases bytes s
    · exact h ▸ .of_record_none (hs.loading hphase) hmove
    · exact h ▸ .after_recordGood hgood hmove
  | unreadable hphase => exact .of_record_none (hs.loading hphase) (hs.running (by simp [hphase]))
  | page page hphase =>
    cases page with
    | held => exact hs.after_loadEntry hphase _
    | written p =>
      have hset : (s.setPage s.start.nextPage p.toList).StartLaw := hs.of_frame (by simp) (by simp) (by simp)
      exact hset.after_loadEntry (by simpa using hphase) _
  | pageLost hphase => exact hs.after_loadEntry hphase _
  | announces => exact hs.of_frame (by simp) (by simp) (by simp)
  | opens frameFirst _ => exact hs.after_windowEnds frameFirst
  | period => exact hs.of_frame (by simp) (by simp) periodExpiry_start
  | inputs low high amp first _ => exact hs.of_frame (by simp) (by simp) (sampleInputs_start low high amp first)
  | position idle data error _ => exact hs.of_frame (by simp) (by simp) (positionRead_start idle data error)
  | pulse => exact hs.of_frame rfl rfl id
  | clock => exact hs.of_frame (by simp) (by simp) startFiringLaw.clockExpiry
  | intake b => exact hs.of_frame (by simp) (by simp) (startFiringLaw.takeOldest b)
  | ageing order => exact hs.of_frame (by simp) (by simp) (by simp)
  | sent b => exact hs.of_frame (by simp) (by simp) (by simp)
  | programmed => exact hs.of_frame (by simp) (by simp) (by simp)
  | notProgrammed => exact hs.of_frame (by simp) (by simp) (by simp)
  | hand readings closed => exact hs.of_frame (by simp) (by simp) (by simp)
  | link t hl =>
    obtain ⟨hstart, hrecord, -, hblend, -⟩ := hl.frame
    exact hs.of_frame (by rw [hstart]) hrecord (by rw [hblend]; exact id)
  | panel t hp =>
    obtain ⟨hstart, hrecord, -, hblend, -⟩ := hp.frame
    exact hs.of_frame (by rw [hstart]) hrecord (by rw [hblend]; exact id)

end Sys2Proof.Machine

/-! What every step keeps, II: a law of the axis blocks kept by the few operations that touch them is kept by every effect,
and the outputs beside the move state as the first of them (O56). -/
namespace Sys2Proof.Machine

/-! ## Laws of the axis blocks -/

/-- Two stations of one record with the same Blend Engine, Motion Limiter, outputs and fault record. -/
def SameAxis (s t : State) : Prop :=
  t.record = s.record ∧ t.blend = s.blend ∧ t.limiter = s.limiter ∧ t.drive.enable = s.drive.enable ∧
    t.drive.brake = s.drive.brake ∧ t.drive.cause = s.drive.cause ∧ t.drive.further = s.drive.further

/-- A law of the Blend Engine, the Motion Limiter and the Drive Port's outputs, with the operations that keep it: the
tracking before a record, the record found good, the end of START, a fault raised, an expiry, and a cue fired. -/
structure AxisLaw (Q : State → Prop) : Prop where
  congr : ∀ s t, SameAxis s t → Q s → Q t
  initial : ∀ s : State, s.axis? = none → s.blend = .initial → s.limiter = .initial → s.drive = .initial → Q s
  bare : ∀ s : State, s.axis? = none → s.blend.move = .start → Q s → Q (barePeriod s)
  found : ∀ (r : Record) ax (s : State), s.axis? = none → r.settings = .axis ax → ax.Good → s.blend.move = .start → Q s →
    Q (s.withRecord (some r))
  parks : ∀ (s : State) ax, s.axis? = some ax → s.blend.move = .start → Q s → Q (enterMove .parked s)
  raises : ∀ c s, c ≠ FaultCause.none → Q s → Q (raise c s)
  period : ∀ ax s, s.axis? = some ax → ax.Good → Q s → Q (axisPeriod ax s)
  fires : ∀ ax f s, s.axis? = some ax → ax.Good → Q s → Q (fire ax f s)

theorem SameAxis.of_frame {s t : State} (h : t.record = s.record ∧ t.blend = s.blend ∧ t.limiter = s.limiter ∧
    t.drive = s.drive) : SameAxis s t := by
  obtain ⟨hrecord, hblend, hlimiter, hdrive⟩ := h
  simp [SameAxis, hrecord, hblend, hlimiter, hdrive]

theorem lineCause_ne_none (line : InputLine) : lineCause line ≠ .none := by cases line <;> simp [lineCause]

theorem standing_ne_none {d : DrivePort} {c : FaultCause} (h : c ∈ d.standing) : c ≠ .none := by
  rintro rfl
  simp [DrivePort.standing] at h

/-- A sample leaves the outputs and the fault record (R83). -/
theorem sampled_sameAxis (s : State) (line : InputLine) (active : Bool) :
    SameAxis s (s.withDrive (s.drive.sampled line active)) := by
  cases line <;> simp [SameAxis, DrivePort.sampled]

namespace AxisLaw

variable {Q : State → Prop} (h : AxisLaw Q)
include h

/-- Beside the law of the start phases, it is a law that firings keep. -/
theorem firing : FiringLaw fun s => s.StartLaw ∧ Q s where
  congr s t hframe hs := by
    obtain ⟨hstart, hrecord, hblend, hlimiter, hdrive, -⟩ := hframe
    exact ⟨hs.1.of_frame (by rw [hstart]) hrecord (by rw [hblend]; exact id),
      h.congr s t (.of_frame ⟨hrecord, hblend, hlimiter, hdrive⟩) hs.2⟩
  fires ax f s hax hs :=
    ⟨hs.1.of_frame (by simp) (by simp) fun hmove => by rw [fire_start ax f hmove]; exact hmove,
      h.fires ax f s hax (hs.1.axisGood hax) hs.2⟩

theorem recordGood {r : Record} {s : State} (hgood : r.Good) (hax : s.axis? = none) (hmove : s.blend.move = .start)
    (hs : Q s) : Q (recordGood r s) := by
  cases hr : r.settings with
  | axis ax =>
    rw [recordGood_axis hr]
    exact h.congr _ _ (by simp [SameAxis, takeRecordAxis, takeRecordBoth])
      (h.found r ax s hax hr (hgood.axis ax hr) hmove hs)
  | hand cals =>
    rw [recordGood_hand hr]
    refine h.initial _ (axis_of_hand_record (r := r) ?_ hr) ?_ ?_ ?_ <;> simp [takeRecordHand, takeRecordBoth, openWindow]

theorem leaveStart {s : State} (hmove : s.blend.move = .start) (hs : Q s) : Q (leaveStart s) := by
  unfold Machine.leaveStart
  split
  · next hax =>
    obtain ⟨ax, hax⟩ := Option.isSome_iff_exists.1 hax
    exact List.foldlRecOn _ _ (h.parks s ax hax hmove hs) fun t ht c hc => h.raises c t (standing_ne_none hc) ht
  · exact hs

theorem windowEnds {s : State} (frameFirst : Bool) (hmove : s.blend.move = .start) (hs : Q s) :
    Q (windowEnds frameFirst s) := by
  have hbuild : ∀ (t : State), Q t → Q (buildPeriodic t.periodicContents t) := fun t ht =>
    h.congr t _ (.of_frame (by simp)) ht
  unfold Machine.windowEnds
  dsimp only
  split
  · exact h.leaveStart (by simpa using hmove) (hbuild _ (h.congr s _ (.of_frame (by simp)) hs))
  · exact hbuild _ (h.leaveStart (by simpa using hmove) (h.congr s _ (.of_frame (by simp)) hs))

theorem periodExpiry {s : State} (hstart : s.StartLaw) (hs : Q s) : Q (periodExpiry s) := by
  obtain hr | ⟨r, hr⟩ := Option.eq_none_or_eq_some s.record
  · have hax := axis_of_no_record hr
    simp only [Machine.periodExpiry, hr]
    exact h.bare s hax (hstart.axis hax) hs
  · obtain hax | ⟨ax, hax⟩ := Option.eq_none_or_eq_some s.axis?
    · rw [periodExpiry_hand hr hax]
      exact hs
    · rw [periodExpiry_axis hax]
      exact h.period ax s hax (hstart.axisGood hax) hs

theorem sampleInputs (low high amp : Bool) (first : InputLine) {s : State} (hs : Q s) :
    Q (sampleInputs low high amp first s) := by
  refine List.foldlRecOn _ _ hs fun t ht line _ => ?_
  have hsampled := fun active => h.congr t _ (sampled_sameAxis t line active) ht
  rw [sampleInput_eq]
  split
  · exact h.raises _ _ (lineCause_ne_none line) (hsampled _)
  · exact hsampled _

theorem compareFollowing {s : State} (hs : Q s) : Q (compareFollowing s) := by
  have hrun : ∀ n, Q (s.withDrive { s.drive with followingRun := n }) := fun n => h.congr s _ (by simp [SameAxis]) hs
  by_cases hactive : s.blend.move.servoActive = true
  · obtain hax | ⟨ax, hax⟩ := Option.eq_none_or_eq_some s.axis?
    · simp only [Machine.compareFollowing, hax]
      exact hrun 0
    · obtain ⟨hbelow, hreached⟩ := compareFollowing_active hax hactive
      obtain hlt | hle := Nat.lt_or_ge _ ax.feTime
      · rw [hbelow hlt]
        exact hrun _
      · rw [hreached hle]
        exact h.raises _ _ (by simp) (hrun _)
  · rw [compareFollowing_passive (by simpa using hactive)]
    exact hrun 0

theorem positionRead (idle : Bool) (data : BitVec 24) (error : Bool) {s : State} (hs : Q s) :
    Q (positionRead idle data error s) := by
  unfold Machine.positionRead
  dsimp only
  split
  · exact h.compareFollowing (h.congr s _ (by simp [SameAxis, DrivePort.readGood]) hs)
  · have hread : Q (s.withDrive s.drive.readFailed) := h.congr s _ (by simp [SameAxis, DrivePort.readFailed]) hs
    split
    · exact h.raises .feedback _ (by simp) hread
    · exact hread

/-- Every effect keeps it, beside the law of the start phases. -/
theorem keeps {s t : State} (heffect : Effect s t) (hstart : s.StartLaw) (hs : Q s) : Q t := by
  have hsame : ∀ t : State, (t.record = s.record ∧ t.blend = s.blend ∧ t.limiter = s.limiter ∧ t.drive = s.drive) → Q t :=
    fun t ht => h.congr s t (.of_frame ht) hs
  cases heffect with
  | idle => exact hs
  | starts released m => exact h.initial _ rfl rfl rfl rfl
  | resets condition => exact hsame _ ⟨rfl, rfl, rfl, rfl⟩
  | reads bytes hphase =>
    have hmove : s.blend.move = .start := hstart.running (by simp [hphase])
    have hax : s.axis? = none := axis_of_no_record (hstart.loading hphase)
    obtain ⟨x, -, heq⟩ | ⟨r, x, hgood, heq⟩ := recordRead_cases bytes s
    · exact heq ▸ hsame _ ⟨rfl, rfl, rfl, rfl⟩
    · exact heq ▸ h.recordGood hgood hax hmove (hsame _ ⟨rfl, rfl, rfl, rfl⟩)
  | unreadable _ => exact hsame _ ⟨rfl, rfl, rfl, rfl⟩
  | page page _ => exact hsame _ (by simp)
  | pageLost _ => exact hsame _ (by simp)
  | announces => exact hsame _ (by simp)
  | opens frameFirst hphase => exact h.windowEnds frameFirst (hstart.running (by simp [hphase])) hs
  | period => exact h.periodExpiry hstart hs
  | inputs low high amp first _ => exact h.sampleInputs low high amp first hs
  | position idle data error _ => exact h.positionRead idle data error hs
  | pulse => exact h.congr s _ ⟨rfl, rfl, rfl, rfl, rfl, rfl, rfl⟩ hs
  | clock => exact (h.firing.clockExpiry ⟨hstart, hs⟩).2
  | intake b => exact (h.firing.takeOldest b ⟨hstart, hs⟩).2
  | ageing order => exact hsame _ (by simp)
  | sent b => exact hsame _ (by simp)
  | programmed => exact hsame _ (by simp)
  | notProgrammed => exact hsame _ (by simp)
  | hand readings closed => exact hsame _ (by simp)
  | link t hl =>
    obtain ⟨-, hrecord, -, hblend, -, hlimiter, hdrive, -⟩ := hl.frame
    exact hsame _ ⟨hrecord, hblend, hlimiter, hdrive⟩
  | panel t hp =>
    obtain ⟨-, hrecord, -, hblend, -, hlimiter, hdrive, -⟩ := hp.frame
    exact hsame _ ⟨hrecord, hblend, hlimiter, hdrive⟩

end AxisLaw

/-! ## What a GO comes down to (R31) -/

theorem goCue_cases (ax : AxisSettings) (f : Firing) (s : State) :
    (∃ why, goCue ax f s = post f.cue .refused why s) ∨
    (s.goesAtOnce ∧ ∃ target, goCue ax f s = goNow ax f target s) ∨
    (s.blend.move ∈ [.parked, .parking, .releasing] ∧ ∃ target, goCue ax f s = goPending ax f target s) := by
  have hpreset := Option.eq_none_or_eq_some (s.presets.target? f.preset)
  by_cases honce : s.goesAtOnce
  · obtain ⟨hinvalid, hgoes⟩ := goCue_atOnce ax f honce
    obtain hnone | ⟨target, hsome⟩ := hpreset
    · exact .inl ⟨_, hinvalid hnone⟩
    · exact .inr (.inl ⟨honce, target, hgoes target hsome⟩)
  by_cases hwaits : s.blend.move ∈ [.parked, .parking, .releasing]
  · obtain ⟨hinvalid, hgoes⟩ := goCue_waits ax f hwaits
    obtain hnone | ⟨target, hsome⟩ := hpreset
    · exact .inl ⟨_, hinvalid hnone⟩
    · exact .inr (.inr ⟨hwaits, target, hgoes target hsome⟩)
  left
  by_cases hready : s.blend.move = .start ∨ s.blend.move = .fault
  · exact ⟨_, goCue_notReady ax f hready⟩
  · refine ⟨_, goCue_interlocked ax f ?_⟩
    unfold State.goesAtOnce at honce
    cases hm : s.blend.move <;> simp_all

/-! ## What the Blend Engine's operations do to the move state (R27, R87) -/

/-- A law of move state and drive kept by every entry into a move state but START and FAULT: the Blend Engine's operations
enter no other. -/
structure MoveLaw (P : State → Prop) : Prop where
  of_frame : ∀ {s t : State}, P s → (t.blend.move = s.blend.move ∧ t.drive = s.drive) → P t
  enters : ∀ {s : State} {m : MoveState}, P s → m ≠ .start ∧ m ≠ .fault → P (enterMove m s)

namespace MoveLaw

variable {P : State → Prop} (law : MoveLaw P) {s t : State} {ax : AxisSettings}
include law

theorem withBlend (h : P s) {b : BlendEngine} (hb : b.move = s.blend.move) : P (s.withBlend b) :=
  law.of_frame h (by simp [hb])

theorem entersWith (h : P s) {m : MoveState} (hm : m ≠ .start ∧ m ≠ .fault)
    (hframe : t.blend.move = s.blend.move ∧ t.drive = s.drive) : P (enterMove m t) :=
  law.enters (law.of_frame h hframe) hm

theorem interlockStop (h : P s) : P (interlockStop s) :=
  law.entersWith h (by simp) (by simp)

theorem enterHold (h : P s) : P (enterHold s) :=
  law.of_frame (law.enters (m := .hold) h (by simp)) (by simp [Machine.enterHold])

theorem beginPlan (h : P s) (p : Plan) : P (beginPlan p s) := by
  unfold Machine.beginPlan
  exact law.entersWith h (by simp) (by simp)

theorem releaseInto (h : P s) : P (releaseInto ax s) := by
  have hset : P (setCFromSetpoint ax s) := law.of_frame h (by simp [setCFromSetpoint])
  unfold Machine.releaseInto
  dsimp only
  split
  · exact law.beginPlan hset _
  · split
    · exact law.enters hset (by simp)
    · exact law.enters hset (by simp)

theorem completeRelease (h : P s) : P (completeRelease ax s) := by
  have hinto : P (Machine.releaseInto ax (s.withBlend { s.blend with brake := 0 })) :=
    law.releaseInto (law.withBlend h rfl)
  unfold Machine.completeRelease
  dsimp only
  split
  · exact law.of_frame (law.interlockStop hinto) (by simp)
  · exact law.of_frame hinto (by simp)

theorem enterReleasing (h : P s) : P (enterReleasing ax s) :=
  law.of_frame (law.enters (m := .releasing) h (by simp)) (by simp [Machine.enterReleasing])

theorem completeIfZero (h : P s) : P (completeIfZero ax s) := by
  unfold Machine.completeIfZero
  split
  · exact law.completeRelease h
  · exact h

theorem goPending (h : P s) (f : Firing) (target : Int) : P (goPending ax f target s) := by
  have hput : ∀ u : State, P u → P (putPending ax f target u) := fun u hu =>
    law.of_frame hu (by unfold putPending; dsimp only; split <;> simp)
  unfold Machine.goPending
  split
  · exact hput _ (law.of_frame h (by simp))
  · exact law.completeIfZero (hput _ (law.enterReleasing h))

theorem reached (h : P s) {b : BlendEngine} {m : MoveState} {f : FlagSet} {q : CueScheduler} 
    (hm : m ≠ .start ∧ m ≠ .fault) (hb : b.move = s.blend.move) : P (s.reached b m f q) :=
  law.of_frame (law.enters (law.withBlend h hb) hm) (by simp [State.reached])

theorem goNow (h : P s) (honce : s.goesAtOnce) (f : Firing) (target : Int) : P (goNow ax f target s) := by
  rw [goNow_reached ax f target honce]
  exact law.reached h (by simp) rfl

/-- A GO is refused with a report, starts a plan at once, or makes a pending plan (R31). -/
theorem goCue (h : P s) (f : Firing) : P (goCue ax f s) := by
  obtain ⟨why, hrefused⟩ | ⟨honce, target, hnow⟩ | ⟨-, target, hpending⟩ := goCue_cases ax f s
  · rw [hrefused]
    exact law.of_frame h (by simp)
  · rw [hnow]
    exact law.goNow h honce f target
  · rw [hpending]
    exact law.goPending h f target

theorem haltMove (h : P s) : P (haltMove s) := by
  unfold Machine.haltMove
  split
  · exact law.entersWith h (by simp) (by simp)
  · exact law.entersWith h (by simp) (by simp)
  · exact law.entersWith h (by simp) (by simp)
  · exact law.of_frame h (by simp)
  all_goals exact h

theorem countPark (h : P s) : P (countPark ax s) := by
  unfold Machine.countPark
  dsimp only
  generalize (if s.atRest = true then s.blend.park + 1 else 0) = n
  split
  · unfold enterParking
    exact law.entersWith h (by simp) (by simp)
  · exact law.withBlend h rfl

theorem stageHold (h : P s) : P (stageHold ax s) := by
  unfold Machine.stageHold
  split
  · exact law.interlockStop h
  · split
    · exact law.entersWith h (by simp) (by simp)
    · exact law.countPark h

theorem stageJog (h : P s) : P (stageJog ax s) := by
  unfold Machine.stageJog
  split
  · exact law.interlockStop h
  · split
    · exact law.enterHold h
    · exact h

theorem takeover (h : P s) : P (takeover ax s) := by
  have hdropped : ∀ b : BlendEngine, b.move = s.blend.move →
      P (enterMove .jog (setFlag .takeover (abandon .takenOver (s.withBlend b)))) := fun b hb =>
    law.entersWith h (by simp) (by simp [hb])
  unfold Machine.takeover
  dsimp only
  split
  · exact hdropped _ rfl
  · exact hdropped _ rfl

theorem arrive (h : P s) : P (arrive s) := by
  unfold Machine.arrive
  split
  · next p _ => exact law.of_frame (law.enterHold (law.withBlend (b := { s.blend with d := 0, plan := none }) h rfl)) (by simp)
  · exact h

theorem stagePlay (h : P s) : P (stagePlay ax s) := by
  unfold Machine.stagePlay
  split
  · exact law.interlockStop h
  split
  · exact law.takeover h
  split
  · unfold enterBlend
    exact law.entersWith h (by simp) (by simp)
  split
  · exact law.arrive h
  · exact h

theorem stageBlend (h : P s) : P (stageBlend ax s) := by
  unfold Machine.stageBlend
  split
  · exact law.interlockStop h
  split
  · exact law.takeover h
  split
  · exact law.enters h (by simp)
  · exact h

theorem endStop (h : P s) : P (endStop ax s) := by
  have hset : P (zeroPark (setCFromSetpoint ax s)) := law.of_frame h (by simp [setCFromSetpoint])
  unfold Machine.endStop
  dsimp only
  split
  · exact law.enters hset (by simp)
  · exact law.entersWith hset (by simp) (by simp)

theorem stageStopping (h : P s) : P (stageStopping ax s) := by
  have hcause : P (if s.interlockHolds ax then setStopCause .interlock s else s) := by
    split
    · exact law.withBlend h rfl
    · exact h
  unfold Machine.stageStopping
  dsimp only
  generalize (if s.interlockHolds ax = true then setStopCause .interlock s else s) = u at hcause ⊢
  split
  · exact law.endStop hcause
  · exact hcause

theorem stageInterlocked (h : P s) : P (stageInterlocked ax s) := by
  unfold Machine.stageInterlocked
  split
  · exact h
  · exact law.enterHold (law.of_frame (t := setStopCause .none s) h (by simp))

theorem stageParked (h : P s) : P (stageParked ax s) := by
  unfold Machine.stageParked
  split
  · exact law.completeIfZero (law.enterReleasing h)
  · exact h

theorem stageParking (h : P s) : P (stageParking ax s) := by
  unfold Machine.stageParking
  split
  · exact law.completeIfZero (law.enterReleasing h)
  · dsimp only
    split
    · exact law.entersWith h (by simp) (by simp)
    · exact law.withBlend h rfl

theorem stageReleasing (h : P s) : P (stageReleasing ax s) := by
  unfold Machine.stageReleasing
  dsimp only
  split
  · exact law.completeRelease (law.withBlend (b := { s.blend with brake := s.blend.brake - 1 }) h rfl)
  · exact law.withBlend h rfl

theorem stageMove (h : P s) : P (stageMove ax s) := by
  unfold Machine.stageMove
  split
  · exact law.stageHold h
  · exact law.stageJog h
  · exact law.stagePlay h
  · exact law.stageBlend h
  · exact law.stageStopping h
  · exact law.stageInterlocked h
  · exact law.stageParked h
  · exact law.stageParking h
  · exact law.stageReleasing h
  · exact h
  · exact h

end MoveLaw

/-! ## The law of the outputs (R74, R87) -/

/-- The outputs are those of a move state other than FAULT, and no cause is held. -/
def State.Driven (s : State) : Prop := s.DriveLaw ∧ s.blend.move ≠ .fault

/-- Outside FAULT the outputs follow the move state (R87). -/
theorem drivenLaw : MoveLaw State.Driven where
  of_frame h hframe := by
    obtain ⟨⟨henable, hbrake, hcause, hfurther⟩, hmove⟩ := h
    obtain ⟨hm, hd⟩ := hframe
    exact ⟨⟨by rw [hm, hd, henable], by rw [hm, hd, hbrake], by rw [hm, hd, hcause], by rw [hm, hd]; exact hfurther⟩,
      hm ▸ hmove⟩
  enters h hm := by
    obtain ⟨⟨-, -, hcause, hfurther⟩, hmove⟩ := h
    exact ⟨⟨rfl, rfl, by simpa [hm.2] using hcause.2 hmove, fun hf => absurd (hfurther (by simpa using hf)) hmove⟩,
      by simpa using hm.2⟩

/-- START, once left, is not entered again until a start (R17). -/
theorem notStartLaw : MoveLaw fun s => s.blend.move ≠ .start where
  of_frame h hframe := by rwa [hframe.1]
  enters _ hm := by simpa using hm.1

theorem State.DriveLaw.of_sameAxis {s t : State} (h : s.DriveLaw) (hsame : SameAxis s t) : t.DriveLaw := by
  obtain ⟨-, hblend, -, henable, hbrake, hcause, hfurther⟩ := hsame
  exact ⟨by rw [henable, hblend, h.enable], by rw [hbrake, hblend, h.brake], by rw [hcause, hblend, h.cause],
    by rw [hfurther, hblend]; exact h.further⟩

/-- The stages up to C leave the move state (R20 to R26). -/
@[simp] theorem stagesToC_move (ax : AxisSettings) (s : State) : (stagesToC ax s).blend.move = s.blend.move := by
  have hplan : ∀ u : State, (stagePlan u).blend.move = u.blend.move := fun u => by unfold stagePlan; split <;> rfl
  have hweight : ∀ u : State, (stageWeight ax u).blend.move = u.blend.move := fun u => by unfold stageWeight; split <;> rfl
  have hstream : ∀ u : State, (stageStream ax u).blend.move = u.blend.move := fun u => by
    unfold stageStream; dsimp only; split <;> rfl
  have hc : ∀ u : State, (stageC ax u).blend.move = u.blend.move := fun u => by
    unfold stageC
    dsimp only
    split
    · split <;> rfl
    · rfl
  rw [stagesToC, hc, hstream, hweight, hplan]

/-- The handover leaves the outputs and the move state (R30, R76). -/
theorem State.DriveLaw.handOver {s : State} (h : s.DriveLaw) (ax : AxisSettings) : (handOver ax s).DriveLaw := by
  have hmove : (Machine.handOver ax s).blend.move = s.blend.move := by simp [handOver_blend, handC]
  have hdrive : (Machine.handOver ax s).drive =
      s.drive.takeSteps ax.stepPolarity (Machine.handOver ax s).limiter.lastSteps := by
    simp [Machine.handOver, limiterStep]
  exact ⟨by rw [hmove, hdrive]; exact h.enable, by rw [hmove, hdrive]; exact h.brake,
    by rw [hmove, hdrive]; exact h.cause, by rw [hmove, hdrive]; exact h.further⟩

theorem State.DriveLaw.axisPeriod {s : State} (h : s.DriveLaw) (ax : AxisSettings) : (axisPeriod ax s).DriveLaw := by
  by_cases hfault : s.blend.move = .fault
  · have hstays : stageMove ax (setC (s.drive.measured * 16) s) = setC (s.drive.measured * 16) s := by
      simp [stageMove, hfault]
    rw [Machine.axisPeriod, stagesToC_tracks ax (.inr (.inl hfault)), hstays]
    have hset : (setC (s.drive.measured * 16) s).DriveLaw := ⟨h.enable, h.brake, h.cause, h.further⟩
    exact hset.handOver ax
  · have hdriven : (stagesToC ax s).Driven := drivenLaw.of_frame ⟨h, hfault⟩ (by simp)
    exact (drivenLaw.stageMove hdriven).1.handOver ax

theorem State.DriveLaw.clearCue {s : State} (h : s.DriveLaw) (cue : CueId) : (clearCue cue s).DriveLaw := by
  have hpost : ∀ p r (u : State), u.DriveLaw → (post cue p r u).DriveLaw := fun p r u hu =>
    ⟨hu.enable, hu.brake, hu.cause, hu.further⟩
  unfold Machine.clearCue
  split
  · split
    · refine hpost _ _ _ ⟨?_, ?_, ?_, ?_⟩ <;> simp [DrivePort.cleared, MoveState.driveEnable, MoveState.brakeOutput]
    · exact hpost _ _ _ h
  all_goals exact hpost _ _ _ h

theorem State.DriveLaw.haltMove {s : State} (h : s.DriveLaw) : (haltMove s).DriveLaw := by
  by_cases hfault : s.blend.move = .fault
  · simpa [Machine.haltMove, hfault] using h
  · exact (drivenLaw.haltMove ⟨h, hfault⟩).1

theorem State.DriveLaw.goCue {s : State} (h : s.DriveLaw) (ax : AxisSettings) (f : Firing) : (goCue ax f s).DriveLaw := by
  by_cases hfault : s.blend.move = .fault
  · rw [goCue_notReady ax f (.inr hfault)]
    exact ⟨h.enable, h.brake, h.cause, h.further⟩
  · exact (drivenLaw.goCue ⟨h, hfault⟩ f).1

theorem State.DriveLaw.fire {s : State} (h : s.DriveLaw) (ax : AxisSettings) (f : Firing) : (fire ax f s).DriveLaw := by
  have hsame : ∀ t : State, (t.record = s.record ∧ t.blend = s.blend ∧ t.limiter = s.limiter ∧ t.drive = s.drive) →
      t.DriveLaw := fun t ht => h.of_sameAxis (.of_frame ht)
  unfold Machine.fire
  split
  · exact h.goCue ax f
  · exact h.haltMove.of_sameAxis (.of_frame (by simp [haltCue]))
  · exact hsame _ (by simp)
  · exact h.clearCue f.cue
  · exact hsame _ (by simp)

theorem State.DriveLaw.raise {s : State} (h : s.DriveLaw) {c : FaultCause} (hc : c ≠ .none) : (raise c s).DriveLaw := by
  obtain ⟨-, heq⟩ | ⟨hmove, heq⟩ | ⟨-, -, heq⟩ := raise_cases c s
  · rw [heq]
    exact h
  · rw [heq]
    exact ⟨h.enable, h.brake, h.cause, fun _ => hmove⟩
  · rw [heq]
    refine ⟨?_, ?_, ?_, ?_⟩ <;> simp [faultEntry_drive, faultEntry_blend, hc, MoveState.driveEnable, MoveState.brakeOutput]

theorem driveAxisLaw : AxisLaw State.DriveLaw where
  congr _ _ hsame h := h.of_sameAxis hsame
  initial s _ hblend _ hdrive := by
    refine ⟨?_, ?_, ?_, ?_⟩ <;> rw [hdrive, hblend] <;> decide
  bare _ _ _ h := ⟨h.enable, h.brake, h.cause, h.further⟩
  found _ _ _ _ _ _ _ h := ⟨h.enable, h.brake, h.cause, h.further⟩
  parks _ _ _ hmove h := (drivenLaw.enters ⟨h, by simp [hmove]⟩ (by simp)).1
  raises _ _ hc h := h.raise hc
  period ax _ _ _ h := h.axisPeriod ax
  fires ax f _ _ _ h := h.fire ax f

/-- What an axis law's effects keep, every step keeps. -/
theorem AxisLaw.step_keeps {Q : State → Prop} (h : AxisLaw Q) {s t : State} (hstep : step s = .next t)
    (hstart : s.StartLaw) (hs : Q s) : t.StartLaw ∧ Q t := by
  refine Machine.step_keeps (P := fun u => u.StartLaw ∧ Q u) (fun u q hu => ⟨hu.1.of_frame rfl rfl id, ?_⟩)
    (fun u v heffect hu => ⟨heffect.keeps_startLaw hu.1, h.keeps heffect hu.1 hu.2⟩) hstep ⟨hstart, hs⟩
  exact h.congr u _ (.of_frame ⟨rfl, rfl, rfl, rfl⟩) hu.2

/-- Settles O56. -/
theorem everyStepKeepsOutputsWithTheMoveState : Obligations.EveryStepKeepsOutputsWithTheMoveState :=
  fun _ _ hstep hstart hdrive => driveAxisLaw.step_keeps hstep hstart hdrive

end Sys2Proof.Machine

/-! What every step keeps, III: plan, pending plan, weight, trim and stop cause beside the move state, and C within the
configured limits (O57). -/
namespace Sys2Proof.Machine

/-! ## The law of the Blend Engine by kinds of move state -/

/-- A position within the configured limits (R25). -/
def AxisSettings.Within (ax : AxisSettings) (x : Int) : Prop := ax.llo * 16 ≤ x ∧ x ≤ ax.lhi * 16

theorem AxisSettings.within_limit {ax : AxisSettings} (h : ax.llo ≤ ax.lhi) (x : Int) : ax.Within (ax.limit x) := by
  rw [limit_eq, AxisSettings.Within]
  omega

/-- The Blend Engine without a plan; a pending plan waits only in RELEASING (R16, R18). -/
structure BlendEngine.Rests (ax : AxisSettings) (b : BlendEngine) : Prop where
  move : b.move.planned = false
  plan : b.plan = none
  waiting : ∀ p, b.waiting = some p → b.move = .releasing ∧ 1 ≤ p.n ∧ p.n ≤ 60000
  weight : b.w = 0
  trim : b.d = 0
  cause : b.move.allowsCause b.stopCause = true
  within : b.move.servoActive = true → ax.Within b.c

/-- The Blend Engine with a plan present (R16, R18, R24). -/
structure BlendEngine.Follows (ax : AxisSettings) (b : BlendEngine) (p : Plan) : Prop where
  plan : b.plan = some p
  waiting : b.waiting = none
  steps : 1 ≤ p.n ∧ p.n ≤ 60000 ∧ p.k ≤ p.n
  trim : ax.mode = .mix → b.d = 0
  cause : b.stopCause = .none
  within : ax.Within b.c

/-- The law between two events: no plan, or PLAY with weight 0, or BLEND with a weight between (R22). -/
def BlendEngine.Lawful (ax : AxisSettings) (b : BlendEngine) : Prop :=
  b.Rests ax ∨ ∃ p, b.Follows ax p ∧ (b.move = .play ∧ b.w = 0 ∨
    b.move = .blend ∧ b.d = 0 ∧ ax.mode = .mix ∧ 1 ≤ b.w ∧ b.w ≤ 1023)

/-- The law within an expiry, after stage 4: the weight may stand at either end, and C is formed (R22 to R25). -/
def BlendEngine.Formed (ax : AxisSettings) (b : BlendEngine) : Prop :=
  b.Rests ax ∨ ∃ p, b.Follows ax p ∧ b.w ≤ 1024 ∧ (b.move = .play ∧ (ax.mode = .add → b.w = 0) ∨
    b.move = .blend ∧ b.d = 0 ∧ ax.mode = .mix ∧ ax.Within b.pj)

theorem BlendEngine.Rests.waiting_none {ax : AxisSettings} {b : BlendEngine} (h : b.Rests ax) (hm : b.move ≠ .releasing) :
    b.waiting = none := by
  obtain hw | ⟨p, hw⟩ := Option.eq_none_or_eq_some b.waiting
  · exact hw
  · exact absurd (h.waiting p hw).1 hm

theorem planned_iff (m : MoveState) : m.planned = true ↔ m = .play ∨ m = .blend := by cases m <;> simp [MoveState.planned]

theorem allowsCause_of_servo {m : MoveState} (h : m ≠ .stopping) (h' : m ≠ .interlocked) (c : StopCause) :
    m.allowsCause c = true ↔ c = .none := by
  cases m <;> simp_all [MoveState.allowsCause]

theorem lawful_of_laws {s : State} {ax : AxisSettings} (hax : s.axis? = some ax) (hblend : s.BlendLaw)
    (hc : s.CommandedLaw) : s.blend.Lawful ax := by
  by_cases hplanned : s.blend.move.planned = true
  · obtain ⟨p, hp⟩ := Option.isSome_iff_exists.1 (hblend.plan.trans hplanned)
    have hm := (planned_iff _).1 hplanned
    have hwaiting : s.blend.waiting = none := by
      refine Classical.byContradiction fun hw => ?_
      have := hblend.waiting (Option.isSome_iff_ne_none.2 hw)
      obtain hm | hm := hm <;> simp [hm] at this
    have hfollows : s.blend.Follows ax p := by
      refine ⟨hp, hwaiting, hblend.steps p hp, hblend.trimMix ax hax, ?_, hc ax hax ?_⟩
      · refine (allowsCause_of_servo ?_ ?_ _).1 hblend.stopCause <;> obtain hm | hm := hm <;> simp [hm]
      · obtain hm | hm := hm <;> simp [hm, MoveState.servoActive]
    refine .inr ⟨p, hfollows, ?_⟩
    obtain hm | hm := hm
    · exact .inl ⟨hm, hblend.weightZero (by simp [hm])⟩
    · exact .inr ⟨hm, hblend.trim (by simp [hm]), hblend.mix ax hax hm, hblend.weightBlend hm⟩
  · have hnot : s.blend.move ≠ .play ∧ s.blend.move ≠ .blend := by
      rw [planned_iff, not_or] at hplanned
      exact hplanned
    refine .inl ⟨by simpa using hplanned, ?_, fun p hp => ⟨hblend.waiting (by simp [hp]), hblend.waitingSteps p hp⟩,
      hblend.weightZero hnot.2, hblend.trim hnot.1, hblend.stopCause, hc ax hax⟩
    have := hblend.plan
    simpa [hplanned] using this

theorem laws_of_lawful {s : State} {ax : AxisSettings} (hax : s.axis? = some ax) (h : s.blend.Lawful ax) :
    s.BlendLaw ∧ s.CommandedLaw := by
  have hall : ∀ ax', s.axis? = some ax' → ax' = ax := fun ax' h' => Option.some.inj (h'.symm.trans hax)
  obtain h | ⟨p, h, hmove⟩ := h
  · have hm : s.blend.move ≠ .play ∧ s.blend.move ≠ .blend := by
      have := h.move
      constructor <;> intro hm <;> simp [hm, MoveState.planned] at this
    refine ⟨⟨by simp [h.plan, h.move], fun hw => ?_, by simp [h.plan], fun p hp => (h.waiting p hp).2, fun _ => h.weight,
      fun hb => absurd hb hm.2, fun _ _ hb => absurd hb hm.2, fun _ => h.trim, fun _ _ _ => h.trim, h.cause⟩, fun ax' h' => ?_⟩
    · obtain ⟨p, hp⟩ := Option.isSome_iff_exists.1 hw
      exact (h.waiting p hp).1
    · rw [hall ax' h']
      exact h.within
  · have hsteps : ∀ q, s.blend.plan = some q → 1 ≤ q.n ∧ q.n ≤ 60000 ∧ q.k ≤ q.n := fun q hq =>
      Option.some.inj (h.plan.symm.trans hq) ▸ h.steps
    have hcommanded : s.CommandedLaw := fun ax' h' _ => by
      rw [hall ax' h']
      exact h.within
    refine ⟨⟨?_, by simp [h.waiting], hsteps, by simp [h.waiting], ?_, ?_, ?_, ?_, ?_, ?_⟩, hcommanded⟩
    · obtain ⟨hm, -⟩ | ⟨hm, -⟩ := hmove <;> simp [h.plan, hm, MoveState.planned]
    · obtain ⟨-, hw⟩ | ⟨hm, -⟩ := hmove
      · exact fun _ => hw
      · exact fun hne => absurd hm hne
    · obtain ⟨hm, -⟩ | ⟨-, -, -, hw⟩ := hmove
      · simp [hm]
      · exact fun _ => hw
    · obtain ⟨hm, -⟩ | ⟨-, -, hmix, -⟩ := hmove
      · simp [hm]
      · exact fun ax' h' _ => hall ax' h' ▸ hmix
    · obtain ⟨hm, -⟩ | ⟨-, hd, -⟩ := hmove
      · exact fun hne => absurd hm hne
      · exact fun _ => hd
    · exact fun ax' h' hmix => h.trim (hall ax' h' ▸ hmix)
    · obtain ⟨hm, -⟩ | ⟨hm, -⟩ := hmove <;> simp [hm, h.cause, MoveState.allowsCause]

/-! ## The stages up to C (R20 to R26) -/

/-- A locked and limited C lies within the limits (R25, R26, log 14). -/
theorem within_lockC {ax : AxisSettings} (h : ax.llo ≤ ax.lhi) (d : DrivePort) (prev x : Int) :
    ax.Within (lockC ax d prev (ax.limit x)) := lockC_between ax d prev _ h (ax.within_limit h x)

theorem fadeWeight_le {active : Bool} {f w : Nat} (h : w ≤ 1024) : fadeWeight active f w ≤ 1024 := by
  unfold fadeWeight
  split
  · exact Nat.min_le_left ..
  · omega

theorem BlendEngine.Rests.withC {ax : AxisSettings} {b : BlendEngine} (h : b.Rests ax) {c : Int}
    (hc : b.move.servoActive = true → ax.Within c) : BlendEngine.Rests ax { b with c := c } :=
  ⟨h.move, h.plan, h.waiting, h.weight, h.trim, h.cause, hc⟩

/-- The stages up to C leave the Blend Engine formed. -/
theorem stagesToC_formed {ax : AxisSettings} (hgood : ax.llo ≤ ax.lhi) {s : State} (h : s.blend.Lawful ax) :
    (stagesToC ax s).blend.Formed ax := by
  obtain hrests | ⟨p, hfollows, hmove⟩ := h
  · have hm : s.blend.move ≠ .play ∧ s.blend.move ≠ .blend := by
      have := hrests.move
      constructor <;> intro hm <;> simp [hm, MoveState.planned] at this
    rw [stagesToC_unplanned ax hm.1 hm.2]
    by_cases hservo : s.blend.move.servoActive = true
    · rw [stageC_active ax hservo hm.1]
      exact .inl (hrests.withC fun _ => within_lockC hgood ..)
    · rw [stageC_passive ax (by simpa using hservo)]
      exact .inl (hrests.withC fun hs => absurd hs hservo)
  · have hsteps : 1 ≤ p.advance.n ∧ p.advance.n ≤ 60000 ∧ p.advance.k ≤ p.advance.n := by
      obtain ⟨h1, hn, hk⟩ := hfollows.steps
      exact ⟨by simpa using h1, by simpa using hn, by simpa using p.advance_k_le hk⟩
    obtain ⟨hm, hw⟩ | ⟨hm, hd, hmix, -, hw⟩ := hmove
    · cases hmode : ax.mode with
      | mix =>
        rw [stagesToC_play_mix hm hfollows.plan hmode]
        exact .inr ⟨p.advance, ⟨rfl, hfollows.waiting, hsteps, hfollows.trim, hfollows.cause, within_lockC hgood ..⟩,
          fadeWeight_le (by omega), .inl ⟨hm, by simp [hmode]⟩⟩
      | add =>
        rw [stagesToC_play_add hm hfollows.plan hmode]
        exact .inr ⟨p.advance, ⟨rfl, hfollows.waiting, hsteps, by simp [hmode], hfollows.cause, within_lockC hgood ..⟩,
          by simp [hw], .inl ⟨hm, fun _ => hw⟩⟩
    · rw [stagesToC_blend hm hfollows.plan hmix]
      exact .inr ⟨p.advance, ⟨rfl, hfollows.waiting, hsteps, hfollows.trim, hfollows.cause, within_lockC hgood ..⟩,
        fadeWeight_le (by omega), .inr ⟨hm, hd, hmix, ax.within_limit hgood _⟩⟩

/-! ## The transitions (R27 to R42) -/

section Transitions

variable {ax : AxisSettings} {s : State}

theorem interlockStop_rests (hc : ax.Within s.blend.c) : (interlockStop s).blend.Rests ax := by
  refine ⟨?_, ?_, ?_, ?_, ?_, ?_, fun _ => ?_⟩ <;>
    simp [interlockStop, MoveState.planned, MoveState.allowsCause, hc]

/-- Into a state of the stick: no plan, no stop cause, C within the limits. -/
theorem rests_of_servo {b : BlendEngine} (hm : b.move = .hold ∨ b.move = .jog) (hplan : b.plan = none)
    (hwaiting : b.waiting = none) (hw : b.w = 0) (hd : b.d = 0) (hcause : b.stopCause = .none) (hc : ax.Within b.c) :
    b.Rests ax := by
  refine ⟨?_, hplan, by simp [hwaiting], hw, hd, ?_, fun _ => hc⟩ <;>
    obtain hm | hm := hm <;> simp [hm, hcause, MoveState.planned, MoveState.allowsCause]

theorem releaseInto_lawful (hgood : ax.llo ≤ ax.lhi) (hm : s.blend.move = .releasing) (h : s.blend.Rests ax) :
    (releaseInto ax s).blend.Lawful ax := by
  have hcause : s.blend.stopCause = .none := by simpa [hm, MoveState.allowsCause] using h.cause
  obtain ⟨hplan, hnone⟩ := releaseInto_eq ax s
  obtain hw | ⟨p, hw⟩ := Option.eq_none_or_eq_some s.blend.waiting
  · rw [hnone hw, reached_blend]
    exact .inl (rests_of_servo (by dsimp only; split <;> simp) h.plan hw h.weight h.trim hcause (ax.within_limit hgood _))
  · obtain ⟨-, hn⟩ := h.waiting p hw
    rw [hplan p hw, reached_blend]
    exact .inr ⟨_, ⟨rfl, rfl, ⟨hn.1, hn.2, Nat.zero_le _⟩, fun _ => rfl, hcause, ax.within_limit hgood _⟩, .inl ⟨rfl, rfl⟩⟩

theorem BlendEngine.Lawful.within {b : BlendEngine} (h : b.Lawful ax) (hm : b.move.servoActive = true) : ax.Within b.c := by
  obtain h | ⟨p, h, -⟩ := h
  · exact h.within hm
  · exact h.within

theorem completeRelease_lawful (hgood : ax.llo ≤ ax.lhi) (hm : s.blend.move = .releasing) (h : s.blend.Rests ax) :
    (completeRelease ax s).blend.Lawful ax := by
  have hrests : BlendEngine.Rests ax { s.blend with brake := 0 } :=
    ⟨h.move, h.plan, h.waiting, h.weight, h.trim, h.cause, h.within⟩
  have hinto := releaseInto_lawful (s := s.withBlend { s.blend with brake := 0 }) hgood hm hrests
  have hservo : (releaseInto ax (s.withBlend { s.blend with brake := 0 })).blend.move.servoActive = true := by
    obtain ⟨hplan, hnone⟩ := releaseInto_eq ax (s.withBlend { s.blend with brake := 0 })
    obtain hw | ⟨p, hw⟩ := Option.eq_none_or_eq_some s.blend.waiting
    · rw [hnone hw, reached_blend]
      dsimp only
      split <;> rfl
    · rw [hplan p hw, reached_blend]
      rfl
  have hpark : ∀ u : State, u.blend.Lawful ax → (zeroPark u).blend.Lawful ax := fun u hu => by
    obtain hu | ⟨p, hu, hmove⟩ := hu
    · exact .inl ⟨hu.move, hu.plan, hu.waiting, hu.weight, hu.trim, hu.cause, hu.within⟩
    · exact .inr ⟨p, ⟨hu.plan, hu.waiting, hu.steps, hu.trim, hu.cause, hu.within⟩, hmove⟩
  unfold completeRelease
  dsimp only
  refine hpark _ ?_
  split
  · exact .inl (interlockStop_rests (hinto.within hservo))
  · exact hinto

theorem completeIfZero_lawful (hgood : ax.llo ≤ ax.lhi) (hm : s.blend.move = .releasing) (h : s.blend.Rests ax) :
    (completeIfZero ax s).blend.Lawful ax := by
  unfold completeIfZero
  split
  · exact completeRelease_lawful hgood hm h
  · exact .inl h

/-- RELEASING is entered from PARKED or PARKING, with or without a pending plan (R33, R40, R41). -/
theorem rests_releasing {b : BlendEngine} (hm : b.move = .parked ∨ b.move = .parking) (h : b.Rests ax) (c : Int) (brake : Nat)
    {p : Option WaitingPlan} (hp : ∀ q, p = some q → 1 ≤ q.n ∧ q.n ≤ 60000) :
    BlendEngine.Rests ax { b with move := .releasing, c := c, brake := brake, waiting := p } := by
  have hcause : b.stopCause = .none := by
    have := h.cause
    obtain hm | hm := hm <;> simpa [hm, MoveState.allowsCause] using this
  exact ⟨rfl, h.plan, fun q hq => ⟨rfl, hp q hq⟩, h.weight, h.trim, by simp [hcause, MoveState.allowsCause], by
    simp [MoveState.servoActive]⟩

theorem enterReleasing_lawful (hgood : ax.llo ≤ ax.lhi) (hm : s.blend.move = .parked ∨ s.blend.move = .parking)
    (h : s.blend.Rests ax) : (completeIfZero ax (enterReleasing ax s)).blend.Lawful ax := by
  have hnone : s.blend.waiting = none := h.waiting_none (by obtain hm | hm := hm <;> simp [hm])
  rw [enterReleasing_eq]
  refine completeIfZero_lawful hgood (by simp) ?_
  rw [reached_blend]
  simpa [hnone] using rests_releasing hm h (s.drive.measured * 16) ax.brakeReleaseTime (p := none) (by simp)

theorem stageHold_lawful (hm : s.blend.move = .hold) (h : s.blend.Rests ax) : (stageHold ax s).blend.Lawful ax := by
  have hc : ax.Within s.blend.c := h.within (by simp [hm, MoveState.servoActive])
  have hwaiting : s.blend.waiting = none := h.waiting_none (by simp [hm])
  have hcause : s.blend.stopCause = .none := by simpa [hm, MoveState.allowsCause] using h.cause
  unfold stageHold
  split
  · exact .inl (interlockStop_rests hc)
  split
  · exact .inl (rests_of_servo (.inr rfl) h.plan hwaiting h.weight h.trim hcause hc)
  · unfold countPark
    dsimp only
    generalize (if s.atRest = true then s.blend.park + 1 else 0) = n
    split
    · exact .inl ⟨rfl, h.plan, fun p hp => by simp [enterParking, hwaiting] at hp, h.weight, h.trim,
        by simp [enterParking, hcause, MoveState.allowsCause], by simp [enterParking, MoveState.servoActive]⟩
    · exact .inl (rests_of_servo (.inl hm) h.plan hwaiting h.weight h.trim hcause hc)

theorem stageJog_lawful (hm : s.blend.move = .jog) (h : s.blend.Rests ax) : (stageJog ax s).blend.Lawful ax := by
  have hc : ax.Within s.blend.c := h.within (by simp [hm, MoveState.servoActive])
  unfold stageJog
  split
  · exact .inl (interlockStop_rests hc)
  split
  · exact .inl (rests_of_servo (.inl rfl) h.plan (h.waiting_none (by simp [hm])) h.weight h.trim
      (by simpa [enterHold, hm, MoveState.allowsCause] using h.cause) hc)
  · exact .inl h

theorem takeover_lawful (hgood : ax.llo ≤ ax.lhi) (hcause : s.blend.stopCause = .none)
    (hm : s.blend.move = .play ∨ s.blend.move = .blend ∧ ax.Within s.blend.pj) : (takeover ax s).blend.Lawful ax := by
  left
  obtain hm | ⟨hm, hpj⟩ := hm
  · apply rests_of_servo <;> simp [takeover, hm, hcause, ax.within_limit hgood]
  · apply rests_of_servo <;> simp [takeover, hm, hcause, hpj]

theorem arrive_rests {p : Plan} (h : s.blend.Follows ax p) (hw : s.blend.w = 0) : (arrive s).blend.Rests ax := by
  simp only [arrive, h.plan]
  exact rests_of_servo (.inl rfl) rfl h.waiting hw rfl h.cause h.within

theorem stagePlay_lawful (hgood : ax.llo ≤ ax.lhi) {p : Plan} (hm : s.blend.move = .play) (h : s.blend.Follows ax p)
    (hfull : s.blend.w ≤ 1024) (hadd : ax.mode = .add → s.blend.w = 0) : (stagePlay ax s).blend.Lawful ax := by
  unfold stagePlay
  split
  · exact .inl (interlockStop_rests h.within)
  split
  · exact takeover_lawful hgood h.cause (.inl hm)
  split
  · next hover hfades =>
    obtain ⟨hmix, hpos⟩ := hfades
    have hbelow : s.blend.w ≠ 1024 := fun hw => hover ⟨hmix, hw⟩
    exact .inr ⟨p, ⟨h.plan, h.waiting, h.steps, h.trim, h.cause, h.within⟩,
      .inr ⟨rfl, h.trim hmix, hmix, hpos, show s.blend.w ≤ 1023 by omega⟩⟩
  next hover hfades =>
    have hw : s.blend.w = 0 := by
      cases hmode : ax.mode with
      | add => exact hadd hmode
      | mix =>
        have : ¬ 0 < s.blend.w := fun hpos => hfades ⟨hmode, hpos⟩
        omega
    split
    · exact .inl (arrive_rests h hw)
    · exact .inr ⟨p, h, .inl ⟨hm, hw⟩⟩

theorem stageBlend_lawful (hgood : ax.llo ≤ ax.lhi) {p : Plan} (hm : s.blend.move = .blend) (h : s.blend.Follows ax p)
    (hfull : s.blend.w ≤ 1024) (hd : s.blend.d = 0) (hmix : ax.mode = .mix) (hpj : ax.Within s.blend.pj) :
    (stageBlend ax s).blend.Lawful ax := by
  unfold stageBlend
  split
  · exact .inl (interlockStop_rests h.within)
  split
  · exact takeover_lawful hgood h.cause (.inr ⟨hm, hpj⟩)
  next hover =>
    have hbelow : s.blend.w ≠ 1024 := hover
    split
    · next hw => exact .inr ⟨p, ⟨h.plan, h.waiting, h.steps, h.trim, h.cause, h.within⟩, .inl ⟨rfl, hw⟩⟩
    · next hw => exact .inr ⟨p, h, .inr ⟨hm, hd, hmix, by omega, by omega⟩⟩

theorem stageStopping_lawful (hgood : ax.llo ≤ ax.lhi) (hm : s.blend.move = .stopping) (h : s.blend.Rests ax) :
    (stageStopping ax s).blend.Lawful ax := by
  have hwaiting : s.blend.waiting = none := h.waiting_none (by simp [hm])
  have hstops : ∀ u : State, u.blend.move = .stopping → u.blend.Rests ax →
      (if u.limiter.v0 = 0 then endStop ax u else u).blend.Rests ax := fun u hu hrests => by
    have hnone : u.blend.waiting = none := hrests.waiting_none (by simp [hu])
    split
    · unfold endStop
      dsimp only
      split
      · next hcause =>
        have hcause : u.blend.stopCause = .interlock := hcause
        exact ⟨rfl, hrests.plan, fun p hp => by simp [setCFromSetpoint, hnone] at hp, hrests.weight, hrests.trim,
          by simp [setCFromSetpoint, hcause, MoveState.allowsCause], fun _ => ax.within_limit hgood _⟩
      · exact rests_of_servo (.inl rfl) hrests.plan hnone hrests.weight hrests.trim rfl (ax.within_limit hgood _)
    · exact hrests
  unfold stageStopping
  dsimp only
  refine .inl (hstops _ ?_ ?_)
  · split <;> simp [hm]
  · split
    · exact ⟨h.move, h.plan, h.waiting, h.weight, h.trim, by simp [hm, MoveState.allowsCause], h.within⟩
    · exact h

theorem stageInterlocked_lawful (hm : s.blend.move = .interlocked) (h : s.blend.Rests ax) :
    (stageInterlocked ax s).blend.Lawful ax := by
  unfold stageInterlocked
  split
  · exact .inl h
  · exact .inl (rests_of_servo (.inl rfl) h.plan (h.waiting_none (by simp [hm])) h.weight h.trim rfl
      (h.within (by simp [hm, MoveState.servoActive])))

theorem stageParked_lawful (hgood : ax.llo ≤ ax.lhi) (hm : s.blend.move = .parked) (h : s.blend.Rests ax) :
    (stageParked ax s).blend.Lawful ax := by
  unfold stageParked
  split
  · exact enterReleasing_lawful hgood (.inl hm) h
  · exact .inl h

theorem stageParking_lawful (hgood : ax.llo ≤ ax.lhi) (hm : s.blend.move = .parking) (h : s.blend.Rests ax) :
    (stageParking ax s).blend.Lawful ax := by
  have hwaiting : s.blend.waiting = none := h.waiting_none (by simp [hm])
  have hcause : s.blend.stopCause = .none := by simpa [hm, MoveState.allowsCause] using h.cause
  unfold stageParking
  split
  · exact enterReleasing_lawful hgood (.inr hm) h
  · dsimp only
    split
    · exact .inl ⟨rfl, h.plan, fun p hp => by simp [hwaiting] at hp, h.weight, h.trim, by simp [hcause, MoveState.allowsCause],
        by simp [MoveState.servoActive]⟩
    · exact .inl ⟨h.move, h.plan, h.waiting, h.weight, h.trim, h.cause, h.within⟩

theorem stageReleasing_lawful (hgood : ax.llo ≤ ax.lhi) (hm : s.blend.move = .releasing) (h : s.blend.Rests ax) :
    (stageReleasing ax s).blend.Lawful ax := by
  have hcounts : BlendEngine.Rests ax { s.blend with brake := s.blend.brake - 1 } :=
    ⟨h.move, h.plan, h.waiting, h.weight, h.trim, h.cause, h.within⟩
  unfold stageReleasing
  dsimp only
  split
  · exact completeRelease_lawful hgood hm hcounts
  · exact .inl hcounts

/-- Stage 5 leaves the law whole (R27). -/
theorem stageMove_lawful (hgood : ax.llo ≤ ax.lhi) (h : s.blend.Formed ax) : (stageMove ax s).blend.Lawful ax := by
  obtain h | ⟨p, h, hfull, ⟨hm, hadd⟩ | ⟨hm, hd, hmix, hpj⟩⟩ := h
  · have hplanned := h.move
    unfold stageMove
    split
    · next hm => exact stageHold_lawful hm h
    · next hm => exact stageJog_lawful hm h
    · next hm => simp [hm, MoveState.planned] at hplanned
    · next hm => simp [hm, MoveState.planned] at hplanned
    · next hm => exact stageStopping_lawful hgood hm h
    · next hm => exact stageInterlocked_lawful hm h
    · next hm => exact stageParked_lawful hgood hm h
    · next hm => exact stageParking_lawful hgood hm h
    · next hm => exact stageReleasing_lawful hgood hm h
    · exact .inl h
    · exact .inl h
  · simpa only [stageMove, hm] using stagePlay_lawful hgood hm h hfull hadd
  · simpa only [stageMove, hm] using stageBlend_lawful hgood hm h hfull hd hmix hpj

/-- The handover changes C by the lock alone, and the previous C (R26, R30). -/
theorem handOver_lawful (hgood : ax.llo ≤ ax.lhi) (h : s.blend.Lawful ax) : (handOver ax s).blend.Lawful ax := by
  have hlock : s.blend.move.servoActive = true → ax.Within (lockC ax s.drive s.blend.prevC s.blend.c) := fun hm =>
    lockC_between ax s.drive _ _ hgood (h.within hm)
  rw [handOver_blend]
  unfold handC
  dsimp only
  obtain h | ⟨p, h, hmove⟩ := h
  · refine .inl ⟨h.move, h.plan, h.waiting, h.weight, h.trim, h.cause, fun hm => ?_⟩
    have hm : s.blend.move.servoActive = true := hm
    simpa [hm] using hlock hm
  · have hm : s.blend.move.servoActive = true := by
      obtain ⟨hm, -⟩ | ⟨hm, -⟩ := hmove <;> simp [hm, MoveState.servoActive]
    refine .inr ⟨p, ⟨h.plan, h.waiting, h.steps, h.trim, h.cause, ?_⟩, hmove⟩
    simpa [hm] using hlock hm

theorem axisPeriod_lawful (hgood : ax.llo ≤ ax.lhi) (h : s.blend.Lawful ax) : (axisPeriod ax s).blend.Lawful ax :=
  handOver_lawful hgood (stageMove_lawful hgood (stagesToC_formed hgood h))

/-! ## Firings (R31 to R34, R43) -/

theorem planLength_bounds (n : Nat) : 1 ≤ planLength n ∧ planLength n ≤ 60000 := by
  unfold planLength clampNat
  omega

theorem goesAtOnce_servo (h : s.goesAtOnce) : s.blend.move.servoActive = true := by
  simp only [State.goesAtOnce, List.mem_cons, List.not_mem_nil, or_false] at h
  obtain (h | h | h | h) | ⟨h, -⟩ := h <;> simp [h, MoveState.servoActive]

theorem goNow_lawful (hgood : ax.llo ≤ ax.lhi) (honce : s.goesAtOnce) (h : s.blend.Lawful ax) (f : Firing) (target : Int) :
    (goNow ax f target s).blend.Lawful ax := by
  have hcause : (if s.blend.move = .stopping then StopCause.none else s.blend.stopCause) = .none := by
    split
    · rfl
    · next hstop =>
      obtain h | ⟨p, h, -⟩ := h
      · refine (allowsCause_of_servo hstop (fun hm => ?_) _).1 h.cause
        simp [State.goesAtOnce, hm] at honce
      · exact h.cause
  have hc : ax.Within (if s.blend.move = .stopping then ax.limit s.limiter.setpoint else s.blend.c) := by
    split
    · exact ax.within_limit hgood _
    · exact h.within (goesAtOnce_servo honce)
  obtain ⟨hn, hn'⟩ := planLength_bounds f.duration
  rw [goNow_reached ax f target honce, reached_blend]
  exact .inr ⟨_, ⟨rfl, rfl, ⟨hn, hn', Nat.zero_le _⟩, fun _ => rfl, hcause, hc⟩, .inl ⟨rfl, rfl⟩⟩

theorem pendingPlan_bounds (f : Firing) (target : Int) (m : Nat) {q : WaitingPlan} (hq : some (pendingPlan ax f target m) = some q) :
    1 ≤ q.n ∧ q.n ≤ 60000 := by
  obtain ⟨-, hn⟩ := planLength_bounds f.duration
  cases hq
  simp only [pendingPlan]
  omega

theorem goPending_lawful (hgood : ax.llo ≤ ax.lhi) (hwaits : s.blend.move ∈ [.parked, .parking, .releasing])
    (h : s.blend.Lawful ax) (f : Firing) (target : Int) : (goPending ax f target s).blend.Lawful ax := by
  simp only [List.mem_cons, List.not_mem_nil, or_false] at hwaits
  have hrests : s.blend.Rests ax := by
    obtain h | ⟨p, h, ⟨hm, -⟩ | ⟨hm, -⟩⟩ := h
    · exact h
    · simp [hm] at hwaits
    · simp [hm] at hwaits
  by_cases hm : s.blend.move = .releasing
  · rw [(goPending_replaces ax f target hm).1]
    exact .inl ⟨hrests.move, rfl, fun q hq => ⟨hm, pendingPlan_bounds f target _ hq⟩, rfl, rfl, hrests.cause, hrests.within⟩
  · have hm : s.blend.move = .parked ∨ s.blend.move = .parking := by simpa only [hm, or_false] using hwaits
    rw [goPending_enters ax f target hm]
    refine completeIfZero_lawful hgood (by simp) ?_
    rw [reached_blend]
    exact rests_releasing hm hrests _ _ fun q hq => pendingPlan_bounds f target _ hq

theorem goCue_lawful (hgood : ax.llo ≤ ax.lhi) (h : s.blend.Lawful ax) (f : Firing) : (goCue ax f s).blend.Lawful ax := by
  obtain ⟨why, hrefused⟩ | ⟨honce, target, hnow⟩ | ⟨hwaits, target, hpending⟩ := goCue_cases ax f s
  · rw [hrefused]
    exact h
  · rw [hnow]
    exact goNow_lawful hgood honce h f target
  · rw [hpending]
    exact goPending_lawful hgood hwaits h f target

theorem haltMove_lawful (h : s.blend.Lawful ax) : (haltMove s).blend.Lawful ax := by
  have hstop : ax.Within s.blend.c → (enterMove .stopping (setStopCause .halt (abandon .stopped s))).blend.Lawful ax := fun hc =>
    .inl ⟨rfl, by simp, by simp, by simp, by simp, by simp [MoveState.allowsCause], fun _ => by simpa using hc⟩
  unfold haltMove
  split
  · next hm => exact hstop (h.within (by simp [hm, MoveState.servoActive]))
  · next hm => exact hstop (h.within (by simp [hm, MoveState.servoActive]))
  · next hm => exact hstop (h.within (by simp [hm, MoveState.servoActive]))
  · next hm =>
    rw [abandon_blend]
    exact .inl ⟨by simp [hm, MoveState.planned], rfl, by simp, rfl, rfl, by
      obtain h | ⟨p, h, -⟩ := h
      · exact h.cause
      · simp [hm, h.cause, MoveState.allowsCause], by simp [hm, MoveState.servoActive]⟩
  all_goals exact h

theorem clearCue_lawful (h : s.blend.Lawful ax) (cue : CueId) : (clearCue cue s).blend.Lawful ax := by
  unfold clearCue
  split
  · next hm =>
    split
    · obtain h | ⟨p, h, ⟨hp, -⟩ | ⟨hp, -⟩⟩ := h
      · have hcause : s.blend.stopCause = .none := by simpa [hm, MoveState.allowsCause] using h.cause
        exact .inl ⟨rfl, h.plan, by simp [h.waiting_none (by simp [hm])], h.weight, h.trim,
          by simp [hcause, MoveState.allowsCause], by simp [MoveState.servoActive]⟩
      · simp [hm] at hp
      · simp [hm] at hp
    · exact h
  all_goals exact h

theorem fire_lawful (hgood : ax.llo ≤ ax.lhi) (h : s.blend.Lawful ax) (f : Firing) : (fire ax f s).blend.Lawful ax := by
  unfold fire
  split
  · exact goCue_lawful hgood h f
  · have hblend : (haltCue f.cue s).blend = (haltMove s).blend := by simp [haltCue]
    rw [hblend]
    exact haltMove_lawful h
  · have hblend : (storeCue f.cue f.preset s).blend = s.blend := by simp
    rwa [hblend]
  · exact clearCue_lawful h f.cue
  · exact h

end Transitions

/-! ## The law of every step (O57) -/

theorem blendAxisLaw : AxisLaw fun s => s.BlendLaw ∧ s.CommandedLaw where
  congr s t hsame h := by
    obtain ⟨hrecord, hblend, -⟩ := hsame
    have hax := axis_congr hrecord
    obtain ⟨⟨hplan, hwaiting, hsteps, hwaits, hzero, hbetween, hmix, htrim, htrimMix, hcause⟩, hc⟩ := h
    refine ⟨⟨?_, ?_, ?_, ?_, ?_, ?_, ?_, ?_, ?_, ?_⟩, ?_⟩ <;> simp only [State.CommandedLaw, hblend, hax] <;> assumption
  initial s hax hblend _ _ := by
    refine ⟨⟨?_, ?_, ?_, ?_, ?_, ?_, ?_, ?_, ?_, ?_⟩, ?_⟩ <;>
      simp [State.CommandedLaw, hax, hblend, BlendEngine.initial, MoveState.planned, MoveState.allowsCause]
  bare s hax hmove h := by
    obtain ⟨h, -⟩ := h
    refine ⟨⟨h.plan, h.waiting, h.steps, h.waitingSteps, h.weightZero, h.weightBlend, fun ax hax' => ?_, h.trim,
      fun ax hax' => ?_, h.stopCause⟩, fun ax hax' => ?_⟩ <;> simp [hax] at hax'
  found r ax s _ _ _ hmove h := by
    obtain ⟨h, -⟩ := h
    refine ⟨⟨h.plan, h.waiting, h.steps, h.waitingSteps, h.weightZero, h.weightBlend, fun _ _ hb => ?_, h.trim,
      fun _ _ _ => h.trim (by simp [hmove]), h.stopCause⟩, fun _ _ hs => ?_⟩
    · simp [hmove] at hb
    · simp [hmove, MoveState.servoActive] at hs
  parks s ax hax hmove h := by
    obtain hrests | ⟨p, -, ⟨hm, -⟩ | ⟨hm, -⟩⟩ := lawful_of_laws hax h.1 h.2
    · have hcause : s.blend.stopCause = .none := by simpa [hmove, MoveState.allowsCause] using hrests.cause
      have hwaiting : s.blend.waiting = none := hrests.waiting_none (by simp [hmove])
      exact laws_of_lawful (by simpa using hax) (.inl ⟨rfl, hrests.plan, by simp [hwaiting], hrests.weight, hrests.trim,
        by simp [hcause, MoveState.allowsCause], by simp [MoveState.servoActive]⟩)
    · simp [hm] at hmove
    · simp [hm] at hmove
  raises c s _ h := by
    obtain ⟨-, heq⟩ | ⟨-, heq⟩ | ⟨-, -, heq⟩ := raise_cases c s
    · rw [heq]
      exact h
    · rw [heq]
      exact ⟨⟨h.1.plan, h.1.waiting, h.1.steps, h.1.waitingSteps, h.1.weightZero, h.1.weightBlend, h.1.mix, h.1.trim,
        h.1.trimMix, h.1.stopCause⟩, h.2⟩
    · rw [heq]
      refine ⟨⟨?_, ?_, ?_, ?_, ?_, ?_, ?_, ?_, ?_, ?_⟩, ?_⟩ <;>
        simp [State.CommandedLaw, faultEntry_blend, MoveState.planned, MoveState.allowsCause, MoveState.servoActive]
  period ax s hax hgood h :=
    laws_of_lawful (by simpa using hax) (axisPeriod_lawful (Int.le_of_lt hgood.limits) (lawful_of_laws hax h.1 h.2))
  fires ax f s hax hgood h :=
    laws_of_lawful (by simpa using hax) (fire_lawful (Int.le_of_lt hgood.limits) (lawful_of_laws hax h.1 h.2) f)

/-- Settles O57. -/
theorem everyStepKeepsPlansAndLimits : Obligations.EveryStepKeepsPlansAndLimits :=
  fun _ _ hstep hstart hblend hc => (blendAxisLaw.step_keeps hstep hstart ⟨hblend, hc⟩).2

end Sys2Proof.Machine

/-! What every step keeps, IV: the setpoint's speed and step position, and the effective upper limit (O58). -/
namespace Sys2Proof.Machine

/-! ## The Motion Limiter (R64, R66 to R69) -/

/-- A speed within the bound, and the step position at floor(S / 16) (R64, R69). -/
def MotionLimiter.Bounded (vmax : Nat) (l : MotionLimiter) : Prop := l.v0.natAbs ≤ vmax ∧ l.stepPos = l.setpoint / 16

theorem trackSetpoint_bounded (vmax : Nat) (s : State) : (trackSetpoint s).limiter.Bounded vmax := by
  rw [MotionLimiter.Bounded, trackSetpoint_limiter]
  exact ⟨Nat.zero_le _, by simp⟩

theorem MotionLimiter.Bounded.moveBy {vmax : Nat} (l : MotionLimiter) {v : Int} (hv : v.natAbs ≤ vmax) :
    (l.moveBy v).Bounded vmax := ⟨hv, l.moveBy_stepPos v⟩

theorem MotionLimiter.Bounded.step {vmax : Nat} {l : MotionLimiter} (h : l.Bounded vmax) (a : Nat) (move : MoveState)
    (g measured : Int) : (l.step vmax a move g measured).Bounded vmax := by
  have hrequest : (l.moveBy (requestVelocity vmax a (g - l.setpoint) l.v0)).Bounded vmax :=
    .moveBy l (natAbs_requestVelocity_le a _ h.1)
  have htracks : (⟨measured * 16, 0, measured, 0⟩ : MotionLimiter).Bounded vmax := ⟨Nat.zero_le _, by simp⟩
  cases move with
  | hold | jog | play | blend | interlocked => exact hrequest
  | stopping => exact .moveBy l (by rw [natAbs_stopVelocity]; exact Nat.le_trans (Nat.sub_le ..) h.1)
  | parking | releasing => exact ⟨Nat.zero_le _, h.2⟩
  | start | parked | fault => exact htracks

/-- The transitions leave the Motion Limiter, or put it on the measured position at the entry into RELEASING (R67). -/
theorem stageMove_limiter (ax : AxisSettings) (s : State) :
    (stageMove ax s).limiter = s.limiter ∨ ∃ u : State, (stageMove ax s).limiter = (trackSetpoint u).limiter := by
  have henters : (completeIfZero ax (enterReleasing ax s)).limiter = (trackSetpoint (enterMove .releasing s)).limiter := by
    simp [enterReleasing]
  unfold stageMove stageParked stageParking
  dsimp only
  split
  case h_7 =>
    split
    · exact .inr ⟨_, henters⟩
    · exact .inl rfl
  case h_8 =>
    split
    · exact .inr ⟨_, henters⟩
    · split <;> exact .inl (by simp)
  all_goals exact .inl (by simp)

theorem axisPeriod_bounded (ax : AxisSettings) {s : State} (h : s.limiter.Bounded ax.vmax) :
    (axisPeriod ax s).limiter.Bounded ax.vmax := by
  have hmove : (stageMove ax (stagesToC ax s)).limiter.Bounded ax.vmax := by
    obtain hsame | ⟨u, htracks⟩ := stageMove_limiter ax (stagesToC ax s)
    · rw [hsame]
      simpa using h
    · rw [htracks]
      exact trackSetpoint_bounded _ u
  have hstep : ∀ u : State, u.limiter.Bounded ax.vmax → (handOver ax u).limiter.Bounded ax.vmax := fun u hu => by
    have hlimiter : (formTarget ax (handC ax u)).limiter = u.limiter := by simp
    exact MotionLimiter.Bounded.step (by rwa [hlimiter]) ..
  exact hstep _ hmove

/-- A firing leaves the Motion Limiter, or puts it on the measured position at the entry into RELEASING (R33, R67). -/
theorem fire_limiter (ax : AxisSettings) (f : Firing) (s : State) :
    (fire ax f s).limiter = s.limiter ∨ ∃ u : State, (fire ax f s).limiter = (trackSetpoint u).limiter := by
  unfold fire
  split
  · obtain ⟨why, hrefused⟩ | ⟨-, target, hnow⟩ | ⟨-, target, hpending⟩ := goCue_cases ax f s
    · exact .inl (by rw [hrefused]; simp)
    · exact .inl (by rw [hnow]; simp)
    · rw [hpending]
      unfold goPending
      split
      · exact .inl (by simp)
      · exact .inr ⟨enterMove .releasing s, by simp [enterReleasing]⟩
  all_goals exact .inl (by simp)

theorem State.SetpointLaw.bounded {s : State} (h : s.SetpointLaw) {ax : AxisSettings} (hax : s.axis? = some ax) :
    s.limiter.Bounded ax.vmax := ⟨h.velocity ax hax, h.steps⟩

theorem State.SetpointLaw.of_bounded {s : State} {ax : AxisSettings} (hax : s.axis? = some ax)
    (h : s.limiter.Bounded ax.vmax) : s.SetpointLaw :=
  ⟨fun ax' h' => Option.some.inj (hax.symm.trans h') ▸ h.1, fun hnone => by simp [hax] at hnone, h.2⟩

/-- At rest, wherever the setpoint tracks. -/
theorem State.SetpointLaw.of_rest {s : State} (hv : s.limiter.v0 = 0) (hsteps : s.limiter.stepPos = s.limiter.setpoint / 16) :
    s.SetpointLaw := ⟨fun ax _ => by simp [hv], fun _ => hv, hsteps⟩

theorem setpointAxisLaw : AxisLaw State.SetpointLaw where
  congr s t hsame h := by
    obtain ⟨hrecord, -, hlimiter, -⟩ := hsame
    have hax := axis_congr hrecord
    exact ⟨by rw [hax, hlimiter]; exact h.velocity, by rw [hax, hlimiter]; exact h.still, by rw [hlimiter]; exact h.steps⟩
  initial s _ _ hlimiter _ := .of_rest (by rw [hlimiter]; rfl) (by rw [hlimiter]; rfl)
  bare s _ _ _ := .of_rest rfl (by simp [barePeriod])
  found r ax s hax _ _ _ h := .of_rest (h.still hax) h.steps
  parks s ax hax _ h := .of_bounded (ax := ax) (by simpa using hax) (h.bounded hax)
  raises c s _ h := by
    obtain ⟨-, heq⟩ | ⟨-, heq⟩ | ⟨-, -, heq⟩ := raise_cases c s
    · rw [heq]
      exact h
    · rw [heq]
      exact ⟨h.velocity, h.still, h.steps⟩
    · rw [heq]
      exact .of_rest (by simp [faultEntry_limiter]) (by simp [faultEntry_limiter])
  period ax s hax _ h := .of_bounded (ax := ax) (by simpa using hax) (axisPeriod_bounded ax (h.bounded hax))
  fires ax f s hax _ h := by
    refine .of_bounded (ax := ax) (by simpa using hax) ?_
    obtain hsame | ⟨u, htracks⟩ := fire_limiter ax f s
    · rw [hsame]
      exact h.bounded hax
    · rw [htracks]
      exact trackSetpoint_bounded _ u

/-! ## The effective upper limit (R46, R52, R53) -/

/-- The Coupling Unit's limit items of an axis station (R46, R52). -/
def CouplingUnit.Guarded (ax : AxisSettings) (c : CouplingUnit) : Prop :=
  (ax.llo ≤ c.lhiEff ∧ c.lhiEff ≤ ax.lhi) ∧ (ax.guard = none → c.guardMode = .fixed ∧ c.lhiEff = ax.lhi)

theorem guardLaw_iff (s : State) : s.GuardLaw ↔ ∀ ax, s.axis? = some ax → s.coupling.Guarded ax :=
  ⟨fun h ax hax => ⟨h.within ax hax, h.fixed ax hax⟩, fun h => ⟨fun ax hax => (h ax hax).1, fun ax hax => (h ax hax).2⟩⟩

theorem configured_guarded {ax : AxisSettings} (h : ax.llo ≤ ax.lhi) (c : CouplingUnit) : (c.configured ax).Guarded ax := by
  cases hg : ax.guard with
  | none => simpa [CouplingUnit.Guarded, CouplingUnit.configured, hg] using h
  | some a => simpa [CouplingUnit.Guarded, CouplingUnit.configured, hg] using safeLimit_between h

theorem guardEvent_guarded {ax : AxisSettings} (h : ax.llo ≤ ax.lhi) {a : Nat} (hg : ax.guard = some a) (e : PeerEntry)
    (c : CouplingUnit) : (c.guardEvent ax e).Guarded ax := by
  refine ⟨?_, fun hnone => by simp [hg] at hnone⟩
  unfold CouplingUnit.guardEvent
  split
  · exact guardLimit_between h _
  · exact guardLimit_between h _
  · exact safeLimit_between h

/-- A partner's frame or change of freshness keeps the limit items (R49 to R53). -/
theorem couplingEvent_guarded {ax : AxisSettings} (h : ax.llo ≤ ax.lhi) (e : PeerEntry) {c : CouplingUnit} (hc : c.Guarded ax) :
    (if ax.guard = some e.address then c.guardEvent ax e else c).Guarded ax := by
  split
  · next hg => exact guardEvent_guarded h hg e c
  · exact hc

theorem couplingAccepted_guarded {ax : AxisSettings} (h : ax.llo ≤ ax.lhi) (e : PeerEntry) {s : State}
    (hs : s.coupling.Guarded ax) : (couplingAccepted ax e s).coupling.Guarded ax := by
  obtain hnone | ⟨p, hp⟩ := Option.eq_none_or_eq_some e.state?
  · rwa [couplingAccepted_of_none hnone]
  · rw [couplingAccepted_of_state hp]
    refine couplingEvent_guarded h e ?_
    split <;> exact hs

theorem couplingChanged_guarded {ax : AxisSettings} (h : ax.llo ≤ ax.lhi) (e : PeerEntry) {s : State}
    (hs : s.coupling.Guarded ax) : (couplingChanged ax e s).coupling.Guarded ax := by
  refine couplingEvent_guarded h e ?_
  split <;> exact hs

/-! ## The limit through the intake and the ageing -/

/-- The effective limit of a station whose record is good. -/
def State.GuardSound (s : State) : Prop := ∀ ax, s.axis? = some ax → ax.llo ≤ ax.lhi ∧ s.coupling.Guarded ax

namespace State.GuardSound

variable {s t : State}

theorem of_laws (hstart : s.StartLaw) (h : s.GuardLaw) : s.GuardSound := fun ax hax =>
  ⟨Int.le_of_lt (hstart.axisGood hax).limits, (guardLaw_iff s).1 h ax hax⟩

theorem law (h : s.GuardSound) : s.GuardLaw := (guardLaw_iff s).2 fun ax hax => (h ax hax).2

theorem of_frame (h : s.GuardSound) (hframe : t.record = s.record ∧ t.coupling = s.coupling) : t.GuardSound := by
  obtain ⟨hrecord, hcoupling⟩ := hframe
  unfold State.GuardSound
  rw [axis_congr hrecord, hcoupling]
  exact h

theorem of_no_axis (h : s.axis? = none) : s.GuardSound := fun ax hax => by simp [h] at hax

theorem handAcceptance (h : s.GuardSound) (e : PeerEntry) : (handAcceptance e s).GuardSound := by
  unfold Machine.handAcceptance
  split
  · exact h
  · next ax hax =>
    intro ax' hax'
    obtain rfl : ax' = ax := Option.some.inj (hax'.symm.trans (by simpa using hax))
    obtain ⟨hlimits, hguard⟩ := h ax' hax
    exact ⟨hlimits, couplingAccepted_guarded hlimits e (by simpa using hguard)⟩

theorem handChange (h : s.GuardSound) (e : PeerEntry) : (handChange e s).GuardSound := by
  have hclock : ∀ u : State, u.GuardSound → (clockChanged e u).GuardSound := fun u hu => hu.of_frame (by simp)
  unfold Machine.handChange
  refine hclock _ ?_
  split
  · exact h
  · next ax hax =>
    dsimp only
    generalize hu : (if e.kind = .stick then stickEvent ax e.address s else s) = u
    have hframe : u.record = s.record ∧ u.coupling = s.coupling := by
      subst hu
      split <;> simp
    have haxu : u.axis? = some ax := (axis_congr hframe.1).trans hax
    intro ax' hax'
    obtain rfl : ax' = ax := Option.some.inj (hax'.symm.trans (by simpa using haxu))
    obtain ⟨hlimits, hguard⟩ := h.of_frame hframe ax' haxu
    exact ⟨hlimits, couplingChanged_guarded hlimits e hguard⟩

theorem changeFreshness (h : s.GuardSound) (e : PeerEntry) (f : Freshness) : (changeFreshness e f s).GuardSound := by
  unfold Machine.changeFreshness
  refine handChange ?_ _
  split
  · exact h.of_frame (by simp)
  · exact h.of_frame (by simp)

theorem ageingExpiry (h : s.GuardSound) (order : List Nat) : (ageingExpiry order s).GuardSound := by
  unfold Machine.ageingExpiry
  split
  · exact h
  · next r _ =>
    refine List.foldlRecOn _ _ (h.of_frame (by simp)) fun t ht a _ => ?_
    unfold ageChange
    split
    · exact ht
    · split
      · exact ht
      · exact ht.changeFreshness _ _

theorem handAccepted (h : s.GuardSound) (clockFirst : Bool) (e : PeerEntry) : (handAccepted clockFirst e s).GuardSound := by
  have hstamp : ∀ u : State, u.GuardSound → (handStamp e u).GuardSound := fun u hu => hu.of_frame (by simp)
  unfold Machine.handAccepted
  split
  · exact (hstamp s h).handAcceptance e
  · exact hstamp _ (h.handAcceptance e)

theorem takeAnnounce (h : s.GuardSound) (r : RingRecord) : (takeAnnounce r s).GuardSound := by
  have hentry : (announceEntry r s).GuardSound := by
    unfold announceEntry
    split
    · exact h
    · dsimp only
      split
      · exact h.of_frame (by simp)
      · exact (h.of_frame (t := s.withPeers _) (by simp)).handChange _
  unfold Machine.takeAnnounce
  dsimp only
  split
  · exact hentry
  · exact hentry.of_frame (by simp)

theorem takeOldest (h : s.GuardSound) (clockFirst : Bool) : (takeOldest clockFirst s).GuardSound := by
  have hperiodic : ∀ (u : State) kind c r, u.GuardSound → (takePeriodic clockFirst kind c r u).GuardSound :=
    fun u kind c r hu => by
      unfold takePeriodic
      split
      · exact hu
      · split
        · exact (hu.of_frame (t := u.withPeers _) (by simp)).handAccepted clockFirst _
        · exact hu
  unfold Machine.takeOldest
  split
  · exact h
  · next r rest _ =>
    have hwith : ((s.withLink { s.link with ring := rest }).withIntake (some r)).GuardSound := h.of_frame (by simp)
    have hhanded : (handOn clockFirst r ((s.withLink { s.link with ring := rest }).withIntake (some r))).GuardSound := by
      unfold handOn
      split
      · exact hwith
      · split
        · exact hperiodic _ _ _ _ hwith
        · exact hperiodic _ _ _ _ hwith
        · exact hwith.takeAnnounce r
        · exact hwith.of_frame (by simp)
    exact hhanded.of_frame (by simp)

theorem periodExpiry (h : s.GuardSound) : (periodExpiry s).GuardSound := by
  obtain hax | ⟨ax, hax⟩ := Option.eq_none_or_eq_some s.axis?
  · exact of_no_axis (by simpa using hax)
  · intro ax' hax'
    rw [periodExpiry_axis hax] at hax' ⊢
    obtain rfl : ax' = ax := Option.some.inj (hax'.symm.trans (by simpa using hax))
    have hcoupling : (axisPeriod ax' s).coupling = (formTarget ax' (handC ax' (stageMove ax' (stagesToC ax' s)))).coupling := by
      simp [axisPeriod, handOver]
    rw [hcoupling, formTarget_coupling]
    simpa [CouplingUnit.Guarded] using h ax' hax

theorem recordGood {r : Record} (hgood : r.Good) : (recordGood r s).GuardSound := by
  cases hr : r.settings with
  | axis ax =>
    rw [recordGood_axis hr]
    have hrecord : (takeRecordAxis ax (takeRecordBoth r s)).record = some r := by simp [takeRecordAxis, takeRecordBoth]
    intro ax' hax'
    have heq := hr.symm.trans ((axis_of_record hrecord ax').1 hax')
    cases heq
    have hlimits := Int.le_of_lt (hgood.axis ax hr).limits
    exact ⟨hlimits, by simpa [takeRecordAxis] using configured_guarded hlimits _⟩
  | hand cals =>
    rw [recordGood_hand hr]
    exact of_no_axis (axis_of_hand_record (r := r) (by simp [takeRecordHand, takeRecordBoth, openWindow]) hr)

/-- Every effect keeps the limit items. -/
theorem of_effect (h : s.GuardSound) (heffect : Effect s t) : t.GuardSound := by
  cases heffect with
  | idle => exact h
  | starts released m => exact of_no_axis rfl
  | resets condition => exact h.of_frame ⟨rfl, rfl⟩
  | reads bytes _ =>
    obtain ⟨x, -, heq⟩ | ⟨r, x, hgood, heq⟩ := recordRead_cases bytes s
    · exact heq ▸ h.of_frame ⟨rfl, rfl⟩
    · exact heq ▸ recordGood hgood
  | unreadable _ => exact h.of_frame ⟨rfl, rfl⟩
  | page page _ => exact h.of_frame (by simp)
  | pageLost _ => exact h.of_frame (by simp)
  | announces => exact h.of_frame (by simp)
  | opens frameFirst _ => exact h.of_frame (by simp)
  | period => exact h.periodExpiry
  | inputs low high amp first _ => exact h.of_frame (by simp)
  | position idle data error _ => exact h.of_frame (by simp)
  | pulse => exact h.of_frame ⟨rfl, rfl⟩
  | clock => exact h.of_frame (by simp)
  | intake b => exact h.takeOldest b
  | ageing order => exact h.ageingExpiry order
  | sent b => exact h.of_frame (by simp)
  | programmed => exact h.of_frame (by simp)
  | notProgrammed => exact h.of_frame (by simp)
  | hand readings closed => exact h.of_frame (by simp)
  | link t hl =>
    obtain ⟨-, hrecord, -, -, hcoupling, -⟩ := hl.frame
    exact h.of_frame ⟨hrecord, hcoupling⟩
  | panel t hp =>
    obtain ⟨-, hrecord, -, -, hcoupling, -⟩ := hp.frame
    exact h.of_frame ⟨hrecord, hcoupling⟩

end State.GuardSound

/-- Settles O58. -/
theorem everyStepKeepsSpeedAndGuardBounds : Obligations.EveryStepKeepsSpeedAndGuardBounds :=
  fun _ _ hstep hstart hsetpoint hguard =>
    ⟨(setpointAxisLaw.step_keeps hstep hstart hsetpoint).2,
      (step_keeps (P := State.GuardSound) (fun _ _ h => h.of_frame ⟨rfl, rfl⟩) (fun _ _ he h => h.of_effect he) hstep
        (.of_laws hstart hguard)).law⟩

end Sys2Proof.Machine

/-! The Scene Clock and the armed list (spec/07_scene_clock_and_armed_cues.md): the arithmetic of frames around the day, the
order of the list, the firings one after another, and what a load of the clock does to them. -/
namespace Sys2Proof.Machine

/-! ## Frames around the day (R111, R112) -/

theorem timecode_inRange_iff (fps : Nat) (t : Timecode) :
    t.inRange fps = true ↔ t.hh ≤ 23 ∧ t.mm ≤ 59 ∧ t.ss ≤ 59 ∧ t.ff < fps := by
  simp [Timecode.inRange, and_assoc]

theorem frameNumber_lt {fps : Nat} {t : Timecode} (h : t.inRange fps = true) : frameNumber fps t < dayFrames fps := by
  obtain ⟨hh, hm, hs, hf⟩ := (timecode_inRange_iff fps t).1 h
  have hseconds : ((t.hh * 60 + t.mm) * 60 + t.ss + 1) * fps ≤ 86400 * fps := Nat.mul_le_mul_right fps (by omega)
  rw [Nat.succ_mul] at hseconds
  unfold frameNumber dayFrames
  omega

theorem dayFrames_pos {fps : Nat} (h : 0 < fps) : 0 < dayFrames fps := Nat.mul_pos (by decide) h

/-- The distance forward from `b` to `a` within the day. -/
theorem dayDistance_eq {fps a b : Nat} (ha : a < dayFrames fps) (hb : b < dayFrames fps) :
    dayDistance fps a b = if b ≤ a then a - b else a + dayFrames fps - b := by
  unfold dayDistance
  generalize dayFrames fps = day at *
  split
  · rw [Int.emod_eq_of_lt (by omega) (by omega)]
    omega
  · rw [← Int.add_emod_right, Int.emod_eq_of_lt (by omega) (by omega)]
    omega

theorem dayDistance_eq_zero_iff {fps a b : Nat} (ha : a < dayFrames fps) (hb : b < dayFrames fps) :
    dayDistance fps a b = 0 ↔ a = b := by
  rw [dayDistance_eq ha hb]
  split <;> omega

/-- One frame further, the number goes up by one around the day (R111, R112). -/
theorem nextFrame_inRange {fps : Nat} (hfps : 0 < fps) {t : Timecode} (h : t.inRange fps = true) :
    (nextFrame fps t).inRange fps = true ∧
    frameNumber fps (nextFrame fps t) = (frameNumber fps t + 1) % dayFrames fps := by
  have hlt := frameNumber_lt h
  obtain ⟨hh, hm, hs, hf⟩ := (timecode_inRange_iff fps t).1 h
  have hcarry : ∀ n m ff : Nat, ff + 1 = fps → m = n + 1 → n * fps + ff + 1 = m * fps := fun n m ff hff hmn => by
    rw [hmn, Nat.succ_mul]
    omega
  have hnext : (nextFrame fps t).inRange fps = true ∧ (frameNumber fps (nextFrame fps t) = frameNumber fps t + 1 ∨
      frameNumber fps (nextFrame fps t) = 0 ∧ frameNumber fps t + 1 = dayFrames fps) := by
    simp only [timecode_inRange_iff]
    unfold nextFrame
    split
    · next h1 => exact ⟨⟨hh, hm, hs, h1⟩, .inl rfl⟩
    have hff : t.ff + 1 = fps := by omega
    split
    · next h2 =>
      refine ⟨⟨hh, hm, show t.ss + 1 ≤ 59 by omega, hfps⟩, .inl ?_⟩
      exact (hcarry _ ((t.hh * 60 + t.mm) * 60 + (t.ss + 1)) _ hff (by omega)).symm
    split
    · next h3 =>
      refine ⟨⟨hh, show t.mm + 1 ≤ 59 by omega, Nat.zero_le _, hfps⟩, .inl ?_⟩
      exact (hcarry _ ((t.hh * 60 + (t.mm + 1)) * 60 + 0) _ hff (by omega)).symm
    split
    · next h4 =>
      refine ⟨⟨show t.hh + 1 ≤ 23 by omega, Nat.zero_le _, Nat.zero_le _, hfps⟩, .inl ?_⟩
      exact (hcarry _ (((t.hh + 1) * 60 + 0) * 60 + 0) _ hff (by omega)).symm
    · refine ⟨⟨Nat.zero_le _, Nat.zero_le _, Nat.zero_le _, hfps⟩, .inr ⟨by simp [frameNumber], ?_⟩⟩
      exact hcarry _ 86400 _ hff (by omega)
  refine ⟨hnext.1, ?_⟩
  obtain heq | ⟨hzero, hday⟩ := hnext.2
  · have := frameNumber_lt hnext.1
    rw [heq, Nat.mod_eq_of_lt (by omega)]
  · rw [hzero, hday, Nat.mod_self]

/-! ## The order of the armed list (R120, R123) -/

theorem insertArmed_perm (fps now : Nat) (e : ArmedCue) (l : List ArmedCue) : (insertArmed fps now e l).Perm (e :: l) := by
  induction l with
  | nil => exact .refl _
  | cons x rest ih =>
    unfold insertArmed
    split
    · exact (ih.cons x).trans (.swap e x rest)
    · exact .refl _

/-- The remaining times rise along the list (R120). -/
def ArmedInOrder (fps now : Nat) (l : List ArmedCue) : Prop := l.Pairwise fun a b => a.remaining fps now ≤ b.remaining fps now

theorem insertArmed_inOrder {fps now : Nat} (e : ArmedCue) {l : List ArmedCue} (h : ArmedInOrder fps now l) :
    ArmedInOrder fps now (insertArmed fps now e l) := by
  induction l with
  | nil => exact List.pairwise_singleton _ _
  | cons x rest ih =>
    obtain ⟨hx, hrest⟩ := List.pairwise_cons.1 h
    unfold insertArmed
    split
    · next hle =>
      refine List.pairwise_cons.2 ⟨fun y hy => ?_, ih hrest⟩
      obtain rfl | hy := List.mem_cons.1 ((insertArmed_perm fps now e rest).mem_iff.1 hy)
      · exact hle
      · exact hx y hy
    · next hgt =>
      refine List.pairwise_cons.2 ⟨fun y hy => ?_, h⟩
      obtain rfl | hy := List.mem_cons.1 hy
      · omega
      · exact Nat.le_trans (Nat.le_of_lt (Nat.not_le.1 hgt)) (hx y hy)

/-- An entry goes in behind those of its own remaining time (R120). -/
theorem insertArmed_filter {fps now : Nat} (e : ArmedCue) {l : List ArmedCue} (h : ArmedInOrder fps now l) (k : Nat) :
    (insertArmed fps now e l).filter (fun x => x.remaining fps now == k) =
      (l ++ [e]).filter (fun x => x.remaining fps now == k) := by
  induction l with
  | nil => rfl
  | cons x rest ih =>
    obtain ⟨hx, hrest⟩ := List.pairwise_cons.1 h
    unfold insertArmed
    split
    · rw [List.filter_cons, ih hrest, List.cons_append, List.filter_cons]
    · next hgt =>
      by_cases hk : e.remaining fps now = k
      · have hnone : (x :: rest).filter (fun y => y.remaining fps now == k) = [] := by
          refine List.filter_eq_nil_iff.2 fun y hy => ?_
          have hle : x.remaining fps now ≤ y.remaining fps now := by
            obtain rfl | hy := List.mem_cons.1 hy
            · exact Nat.le_refl _
            · exact hx y hy
          simp only [beq_iff_eq]
          omega
        rw [List.filter_append, hnone, List.filter_cons_of_pos (by simpa using hk), hnone]
        simp [hk]
      · rw [List.filter_append, List.filter_cons_of_neg (by simpa using hk)]
        simp [hk]

theorem insertArmed_split (fps now : Nat) (e : ArmedCue) (l : List ArmedCue) :
    ∃ before after, l = before ++ after ∧ insertArmed fps now e l = before ++ e :: after ∧
      (∀ x ∈ before, x.remaining fps now ≤ e.remaining fps now) ∧
      (∀ x, after.head? = some x → e.remaining fps now < x.remaining fps now) := by
  induction l with
  | nil => exact ⟨[], [], rfl, rfl, by simp, by simp⟩
  | cons x rest ih =>
    by_cases hle : x.remaining fps now ≤ e.remaining fps now
    · obtain ⟨before, after, hl, hinsert, hbefore, hafter⟩ := ih
      refine ⟨x :: before, after, by rw [hl]; rfl, by rw [insertArmed, if_pos hle, hinsert]; rfl, ?_, hafter⟩
      exact fun y hy => (List.mem_cons.1 hy).elim (fun h => h ▸ hle) (hbefore y)
    · exact ⟨[], x :: rest, rfl, by rw [insertArmed, if_neg hle]; rfl, by simp,
        fun y hy => by cases hy; exact Nat.not_le.1 hle⟩

/-- Inserting entry by entry keeps the order, the entries, and the order among equals. -/
theorem foldl_insertArmed {fps now : Nat} (list : List ArmedCue) {acc : List ArmedCue} (h : ArmedInOrder fps now acc) :
    let l := list.foldl (fun acc e => insertArmed fps now e acc) acc
    ArmedInOrder fps now l ∧ l.Perm (acc ++ list) ∧ ∀ k, l.filter (fun e => e.remaining fps now == k) =
      (acc ++ list).filter (fun e => e.remaining fps now == k) := by
  induction list generalizing acc with
  | nil => exact ⟨h, by simp, by simp⟩
  | cons e rest ih =>
    obtain ⟨horder, hperm, hstable⟩ := ih (insertArmed_inOrder e h)
    refine ⟨horder, hperm.trans ?_, fun k => (hstable k).trans ?_⟩
    · exact ((insertArmed_perm fps now e acc).append_right rest).trans List.perm_middle.symm
    · rw [List.filter_append, insertArmed_filter e h, ← List.filter_append, List.append_assoc, List.singleton_append]

theorem reorder_inOrder (fps now : Nat) (l : List ArmedCue) : ArmedInOrder fps now (reorder fps now l) :=
  (foldl_insertArmed l (acc := []) .nil).1

theorem reorder_perm (fps now : Nat) (l : List ArmedCue) : (reorder fps now l).Perm l :=
  (foldl_insertArmed l (acc := []) .nil).2.1

theorem reorder_reordered (fps now : Nat) (s : State) :
    Reordered fps now s (s.withSched { s.sched with armed := reorder fps now s.sched.armed }) :=
  ⟨reorder_inOrder fps now _, (foldl_insertArmed s.sched.armed (acc := []) .nil).2.2, rfl⟩

/-- A reordered list holds the entries it held. -/
theorem Reordered.perm {fps now : Nat} {s t : State} (h : Reordered fps now s t) : t.sched.armed.Perm s.sched.armed := by
  refine List.perm_iff_count.2 fun e => ?_
  have hcount := congrArg (List.count e) (h.stable (e.remaining fps now))
  rwa [List.count_filter (by simp), List.count_filter (by simp)] at hcount

/-! ## What leaves the armed list alone -/

section Armed

variable (ax : AxisSettings) (s : State)

@[simp] theorem interlockStop_armed : (interlockStop s).sched.armed = s.sched.armed := by simp [interlockStop]

@[simp] theorem completeRelease_armed : (completeRelease ax s).sched.armed = s.sched.armed := by
  unfold completeRelease
  dsimp only
  split <;> simp

@[simp] theorem completeIfZero_armed : (completeIfZero ax s).sched.armed = s.sched.armed := by
  unfold completeIfZero
  split <;> simp

@[simp] theorem goCue_armed (f : Firing) : (goCue ax f s).sched.armed = s.sched.armed := by
  have hput : ∀ target (u : State), (putPending ax f target u).sched.armed = u.sched.armed := fun target u => by
    unfold putPending
    dsimp only
    split <;> simp
  obtain ⟨why, hrefused⟩ | ⟨honce, target, hnow⟩ | ⟨-, target, hpending⟩ := goCue_cases ax f s
  · simp [hrefused]
  · rw [hnow, goNow_reached ax f target honce, reached_sched]
  · rw [hpending]
    unfold goPending
    split
    · simp [hput]
    · simp [hput]

@[simp] theorem haltMove_armed : (haltMove s).sched.armed = s.sched.armed := by
  unfold haltMove
  split <;> simp

@[simp] theorem storeCue_armed (cue : CueId) (i : Nat) : (storeCue cue i s).sched.armed = s.sched.armed := by
  unfold storeCue
  split
  · simp
  · split <;> simp

@[simp] theorem clearCue_armed (cue : CueId) : (clearCue cue s).sched.armed = s.sched.armed := by
  unfold clearCue
  split
  · split <;> simp
  all_goals simp

@[simp] theorem raise_armed (c : FaultCause) : (raise c s).sched.armed = s.sched.armed := by
  obtain ⟨-, heq⟩ | ⟨-, heq⟩ | ⟨-, -, heq⟩ := raise_cases c s <;> simp [heq, faultEntry_sched]

@[simp] theorem takeover_armed : (takeover ax s).sched.armed = s.sched.armed := by
  unfold takeover
  dsimp only
  split <;> simp

@[simp] theorem arrive_armed : (arrive s).sched.armed = s.sched.armed := by
  unfold arrive
  split <;> simp

/-- The transitions of an expiry post reports alone (R27). -/
@[simp] theorem stageMove_armed : (stageMove ax s).sched.armed = s.sched.armed := by
  unfold stageMove
  split
  · unfold stageHold
    split
    · simp
    · split <;> simp
  · unfold stageJog
    split
    · simp
    · split <;> simp
  · unfold stagePlay
    split
    · simp
    split
    · simp
    split
    · simp
    split <;> simp
  · unfold stageBlend
    split
    · simp
    split
    · simp
    split <;> simp
  · simp
  · simp
  · unfold stageParked
    split <;> simp
  · unfold stageParking
    split
    · simp
    · dsimp only
      split <;> simp
  · unfold stageReleasing
    dsimp only
    split <;> simp
  · rfl
  · rfl

@[simp] theorem periodExpiry_armed : (periodExpiry s).sched.armed = s.sched.armed := by
  unfold periodExpiry
  split
  · simp
  · split
    · simp [axisPeriod]
    · rfl

@[simp] theorem sampleInputs_armed (low high amp : Bool) (first : InputLine) :
    (sampleInputs low high amp first s).sched.armed = s.sched.armed := by
  refine foldl_keeps (fun t => t.sched.armed) _ (fun t line => ?_) _ s
  rw [sampleInput_eq]
  split <;> simp

@[simp] theorem positionRead_armed (idle : Bool) (data : BitVec 24) (error : Bool) :
    (positionRead idle data error s).sched.armed = s.sched.armed := by
  have hcompare : ∀ u : State, (compareFollowing u).sched.armed = u.sched.armed := fun u => by
    unfold compareFollowing
    split
    · dsimp only
      generalize (if followingExceeded _ _ _ = true then _ else 0) = run
      split <;> simp
    · simp
  unfold positionRead
  dsimp only
  split
  · simp [hcompare]
  · split <;> simp

@[simp] theorem windowEnds_armed (frameFirst : Bool) : (windowEnds frameFirst s).sched.armed = s.sched.armed := by
  have hleave : ∀ u : State, (leaveStart u).sched.armed = u.sched.armed := fun u => by
    unfold leaveStart
    split
    · exact (foldl_keeps (fun t => t.sched.armed) _ (fun t c => by simp) _ _).trans (by simp)
    · rfl
  unfold windowEnds
  dsimp only
  split <;> simp [hleave]

end Armed

/-! ## Firings one after another (R121) -/

/-- What a firing leaves of the armed list: a HALT empties it, a DISARM takes its source's cues, and nothing else touches
it (R124). -/
theorem fire_armed (ax : AxisSettings) (f : Firing) (s : State) : (fire ax f s).sched.armed.Sublist s.sched.armed := by
  unfold fire
  split
  · simp
  · simp [haltCue]
  · simp
  · simp
  · simp [disarmCue, List.filter_sublist]

/-- A cue that fires late sets LATE first (R119, R127). -/
theorem fireMarked_eq (ax : AxisSettings) (f : Firing) (s : State) :
    fireMarked ax f s = fire ax f (s.withFlags (if f.late then s.flags ||| 0x10 else s.flags)) := by
  unfold fireMarked
  split <;> rfl

theorem fireArmed_firesInOrder {ax : AxisSettings} {due : ArmedCue → Prop} {dueNow late : ArmedCue → Bool}
    (hdue : ∀ e, dueNow e = true ↔ due e) (n : Nat) {s : State} (hn : s.sched.armed.length ≤ n) :
    FiresInOrder ax due late s (fireArmed ax dueNow late n s) := by
  induction n generalizing s with
  | zero => exact .done s (by simp [List.eq_nil_of_length_eq_zero (Nat.le_zero.1 hn)])
  | succ n ih =>
    unfold fireArmed
    split
    · next hnone => exact .done s fun e he hd => List.find?_eq_none.1 hnone e he ((hdue e).2 hd)
    · next e hfound =>
      obtain ⟨hd, before, after, harmed, hbefore⟩ := List.find?_eq_some_iff_append.1 hfound
      have hbefore : ∀ x ∈ before, ¬dueNow x = true := fun x hx => by simpa using hbefore x hx
      have herased : s.sched.armed.eraseP dueNow = before ++ after := by
        rw [harmed, List.eraseP_append_right _ hbefore, List.eraseP_cons_of_pos hd]
      refine .next s _ before e after harmed (fun x hx hdx => hbefore x hx ((hdue x).2 hdx)) ((hdue e).1 hd) ?_
      rw [herased, fireMarked_eq]
      refine ih ?_
      refine Nat.le_trans (fire_armed ax _ _).length_le ?_
      rw [harmed] at hn
      simp only [List.length_append, List.length_cons] at hn
      simp only [State.withFlags_sched, State.withSched_sched, List.length_append]
      omega

/-- Every due armed cue fires, in list order (R121). -/
theorem fireAll_firesInOrder {ax : AxisSettings} {due : ArmedCue → Prop} {dueNow late : ArmedCue → Bool}
    (hdue : ∀ e, dueNow e = true ↔ due e) (s : State) : FiresInOrder ax due late s (fireAll ax dueNow late s) :=
  fireArmed_firesInOrder hdue _ (Nat.le_refl _)

/-- After the firings no entry is due, those left standing as they stood; the clock and the record stand (R121). -/
theorem FiresInOrder.leaves {ax : AxisSettings} {due : ArmedCue → Prop} {late : ArmedCue → Bool} {s t : State}
    (h : FiresInOrder ax due late s t) : t.sched.armed.Sublist s.sched.armed ∧ (∀ e ∈ t.sched.armed, ¬due e) ∧
      t.clock = s.clock ∧ t.record = s.record := by
  induction h with
  | done s hnone => exact ⟨.refl _, hnone, rfl, rfl⟩
  | next s t before e after harmed _ _ _ ih =>
    obtain ⟨hsub, hnone, hclock, hrecord⟩ := ih
    refine ⟨hsub.trans ((fire_armed ax _ _).trans ?_), hnone, by rw [hclock]; simp, by rw [hrecord]; simp⟩
    rw [harmed]
    exact List.Sublist.append (.refl before) (List.sublist_cons_self e after)

/-! ## A load of the clock (R113, R122, R123) -/

theorem foldl_missArmed (l : List ArmedCue) (s : State) :
    l.foldl missArmed s = (s.withSched { s.sched with report := match l.getLast? with
      | some e => ⟨some e.cue, .missed, .none⟩
      | none => s.sched.report }).withFlags (if l = [] then s.flags else s.flags ||| 0x08) := by
  induction l generalizing s with
  | nil => rfl
  | cons e rest ih =>
    rw [List.foldl_cons, ih, List.getLast?_cons]
    have hmissed : missArmed s e =
        (s.withSched { s.sched with report := ⟨some e.cue, .missed, .none⟩ }).withFlags (s.flags ||| 0x08) := rfl
    rw [hmissed]
    cases rest with
    | nil => rfl
    | cons x rest =>
      obtain ⟨last, hlast⟩ : ∃ y, (x :: rest).getLast? = some y := ⟨_, List.getLast?_eq_some_getLast (by simp)⟩
      have hflags : s.flags ||| 8#8 ||| 8#8 = s.flags ||| 8#8 := by rw [BitVec.or_assoc, BitVec.or_self]
      apply State.ext <;> simp [hlast, hflags]

/-- The cues passed over leave the list, MISSED (R123). -/
theorem missPassed (passed : ArmedCue → Bool) (s : State) :
    (s.sched.armed.filter passed).foldl missArmed
        (s.withSched { s.sched with armed := s.sched.armed.filter fun e => !passed e }) =
      (s.withSched ⟨s.sched.armed.filter fun e => !passed e, match (s.sched.armed.filter passed).getLast? with
        | some e => ⟨some e.cue, .missed, .none⟩
        | none => s.sched.report⟩).withFlags (if s.sched.armed.filter passed = [] then s.flags else s.flags ||| 0x08) := by
  rw [foldl_missArmed]
  rfl

/-- What the Cue Scheduler makes of a load of the clock (R122, R123). -/
theorem loadClock_jumpTaken {ax : AxisSettings} {s : State} (hax : s.axis? = some ax) (fps : Nat) (st : Stamp) :
    JumpTaken ax fps (frameNumber fps s.clock.time) (frameNumber fps st.time)
      (s.withClock { s.clock with time := st.time, acc := st.acc }) (loadClock fps st s) := by
  generalize hold : frameNumber fps s.clock.time = old
  generalize hnew : frameNumber fps st.time = new
  generalize hs : s.withClock { s.clock with time := st.time, acc := st.acc } = s'
  have hload : loadClock fps st s = if dayDistance fps new old = 0 then s'
      else (afterJump ax fps old new s').withSched
        { (afterJump ax fps old new s').sched with armed := reorder fps new (afterJump ax fps old new s').sched.armed } := by
    have hax' : s'.axis? = some ax := by
      subst hs
      exact hax
    simp only [loadClock, hs, hax', hold, hnew]
  unfold JumpTaken
  intro d passed
  have hlate : ∀ e : ArmedCue, (decide (frameNumber fps e.start ≠ new)) = (frameNumber fps e.start != new) := fun e => by
    rw [Bool.eq_iff_iff]
    simp
  refine ⟨fun h0 => by rw [hload, if_pos h0], fun h1 h2 => ?short, fun h2 h3 => ?long, fun h3 => ?back⟩
  case short =>
    have hne : ¬dayDistance fps new old = 0 := fun h => by omega
    rw [hload, if_neg hne]
    refine ⟨afterJump ax fps old new s', ?_, reorder_reordered ..⟩
    rw [afterJump, if_pos h2]
    simp only [hlate]
    exact fireAll_firesInOrder (fun e => by simp [passed, d]) s'
  case long =>
    intro missed
    have hne : ¬dayDistance fps new old = 0 := fun h => by omega
    have hjump := missPassed (fun e => decide (0 < e.remaining fps old) && decide (e.remaining fps old ≤ d)) s'
    have hreordered := reorder_reordered fps new (afterJump ax fps old new s')
    rw [hload, if_neg hne]
    have hlong : ¬dayDistance fps new old ≤ 2 * fps := by omega
    rw [afterJump, if_neg hlong, if_pos h3] at hreordered ⊢
    rw [hjump] at hreordered ⊢
    simp only [missed, passed, d, Bool.decide_and] at hreordered ⊢
    exact hreordered
  case back =>
    have hne : ¬dayDistance fps new old = 0 := fun h => by omega
    rw [hload, if_neg hne]
    refine ⟨afterJump ax fps old new s', ?_, reorder_reordered ..⟩
    have hlong : ¬dayDistance fps new old ≤ 2 * fps := by omega
    rw [afterJump, if_neg hlong, if_neg (by omega)]
    exact fireAll_firesInOrder (fun e => by simp) s'

end Sys2Proof.Machine

/-! What every step keeps, V: the Scene Clock in range, and the armed list bounded, one per cue, still to come and in order
(O59). -/
namespace Sys2Proof.Machine

/-! ## The armed list at one frame (R120) -/

/-- The armed list of a station at frame `now`: at most 8 entries, one per cue, each with a start time in range and still
to come, in the order of their remaining times (R120). -/
structure ArmedAt (fps now : Nat) (l : List ArmedCue) : Prop where
  size : l.length ≤ 8
  once : (l.map ArmedCue.cue).Nodup
  ahead : ∀ e ∈ l, e.start.inRange fps = true ∧ 0 < e.remaining fps now
  order : ArmedInOrder fps now l

theorem ArmedAt.nil (fps now : Nat) : ArmedAt fps now [] := ⟨by simp, by simp, by simp, .nil⟩

theorem ArmedAt.sublist {fps now : Nat} {l l' : List ArmedCue} (h : ArmedAt fps now l) (hsub : l'.Sublist l) :
    ArmedAt fps now l' :=
  ⟨Nat.le_trans hsub.length_le h.size, h.once.sublist (hsub.map _), fun e he => h.ahead e (hsub.subset he), h.order.sublist hsub⟩

/-- The list at another frame, every remaining time shorter by the same amount and none at its end. -/
theorem ArmedAt.shift {fps now now' d : Nat} {l : List ArmedCue} (h : ArmedAt fps now l)
    (hshift : ∀ e ∈ l, d < e.remaining fps now ∧ e.remaining fps now' = e.remaining fps now - d) : ArmedAt fps now' l := by
  refine ⟨h.size, h.once, fun e he => ⟨(h.ahead e he).1, ?_⟩, ?_⟩
  · obtain ⟨hlt, heq⟩ := hshift e he
    omega
  · refine List.Pairwise.imp_of_mem (fun {a b} ha hb hab => ?_) h.order
    rw [(hshift a ha).2, (hshift b hb).2]
    omega

/-- The list put in order at another frame, where every entry is still to come (R123). -/
theorem ArmedAt.reordered {fps now now' : Nat} {s t : State} (h : ArmedAt fps now s.sched.armed)
    (hahead : ∀ e ∈ s.sched.armed, 0 < e.remaining fps now') (hreordered : Reordered fps now' s t) :
    ArmedAt fps now' t.sched.armed := by
  have hperm := hreordered.perm
  refine ⟨hperm.length_eq ▸ h.size, (hperm.map _).nodup_iff.2 h.once, fun e he => ?_, hreordered.order⟩
  have he := hperm.mem_iff.1 he
  exact ⟨(h.ahead e he).1, hahead e he⟩

theorem ArmedAt.insert {fps now : Nat} {l : List ArmedCue} (h : ArmedAt fps now l) {e : ArmedCue} (hroom : l.length < 8)
    (hnew : ∀ x ∈ l, x.cue ≠ e.cue) (hrange : e.start.inRange fps = true) (hahead : 0 < e.remaining fps now) :
    ArmedAt fps now (insertArmed fps now e l) := by
  have hperm := insertArmed_perm fps now e l
  refine ⟨by rw [hperm.length_eq]; exact hroom, (hperm.map _).nodup_iff.2 ?_, fun x hx => ?_, insertArmed_inOrder e h.order⟩
  · rw [List.map_cons, List.nodup_cons]
    exact ⟨fun hmem => by
      obtain ⟨x, hx, hcue⟩ := List.mem_map.1 hmem
      exact hnew x hx hcue, h.once⟩
  · obtain rfl | hx := List.mem_cons.1 (hperm.mem_iff.1 hx)
    · exact ⟨hrange, hahead⟩
    · exact h.ahead x hx

/-! ## Remaining times as the clock moves (R111, R120) -/

theorem dayDistance_spec {fps a b : Nat} (ha : a < dayFrames fps) (hb : b < dayFrames fps) :
    b + dayDistance fps a b = a ∨ b + dayDistance fps a b = a + dayFrames fps ∧ a < b := by
  rw [dayDistance_eq ha hb]
  split <;> omega

/-- A frame later, an entry that is not due has one frame less to wait. -/
theorem remaining_advance {fps now : Nat} (hfps : 0 < fps) (hnow : now < dayFrames fps) {e : ArmedCue}
    (hrange : e.start.inRange fps = true) (hahead : 0 < e.remaining fps now)
    (hdue : frameNumber fps e.start ≠ (now + 1) % dayFrames fps) :
    1 < e.remaining fps now ∧ e.remaining fps ((now + 1) % dayFrames fps) = e.remaining fps now - 1 := by
  have hstart := frameNumber_lt hrange
  have hnext : (now + 1) % dayFrames fps < dayFrames fps := Nat.mod_lt _ (dayFrames_pos hfps)
  have hcases : (now + 1) % dayFrames fps = now + 1 ∨ now + 1 = dayFrames fps ∧ (now + 1) % dayFrames fps = 0 := by
    obtain h | h := Nat.lt_or_ge (now + 1) (dayFrames fps)
    · exact .inl (Nat.mod_eq_of_lt h)
    · have heq : now + 1 = dayFrames fps := by omega
      exact .inr ⟨heq, by rw [heq, Nat.mod_self]⟩
  have hbefore := dayDistance_spec hstart hnow
  have hafter := dayDistance_spec hstart hnext
  unfold ArmedCue.remaining at *
  generalize (now + 1) % dayFrames fps = next at *
  omega

/-- After a jump forward by `d`, an entry that was not passed over waits `d` less. -/
theorem remaining_jump {fps old new : Nat} (hold : old < dayFrames fps) (hnew : new < dayFrames fps) {e : ArmedCue}
    (hrange : e.start.inRange fps = true) (hbeyond : dayDistance fps new old < e.remaining fps old) :
    e.remaining fps new = e.remaining fps old - dayDistance fps new old := by
  have hstart := frameNumber_lt hrange
  have hjump := dayDistance_spec hnew hold
  have hbefore := dayDistance_spec hstart hold
  have hafter := dayDistance_spec hstart hnew
  unfold ArmedCue.remaining at *
  omega

theorem remaining_pos_of_ne {fps now : Nat} (hnow : now < dayFrames fps) {e : ArmedCue} (hrange : e.start.inRange fps = true)
    (hne : frameNumber fps e.start ≠ now) : 0 < e.remaining fps now :=
  Nat.pos_of_ne_zero fun h => hne ((dayDistance_eq_zero_iff (frameNumber_lt hrange) hnow).1 h)

/-! ## The law of one state (R111, R112, R120) -/

/-- The Scene Clock in range, and the armed list as R120 has it at the clock's frame. -/
structure State.OnTime (s : State) : Prop where
  stopped : s.record = none → s.clock.time = ⟨0, 0, 0, 0⟩ ∧ s.clock.acc = 0
  acc : s.clock.acc < 1000
  empty : s.axis? = none → s.sched.armed = []
  range : ∀ r, s.record = some r → s.clock.time.inRange r.fps = true
  armed : ∀ r, s.record = some r → ArmedAt r.fps (frameNumber r.fps s.clock.time) s.sched.armed

theorem onTime_of_laws {s : State} (hclock : s.ClockLaw) (harmed : s.ArmedLaw) : s.OnTime := by
  refine ⟨hclock.stopped, hclock.acc, harmed.empty, fun r hr => ?_,
    fun r hr => ⟨harmed.size, harmed.once, harmed.ahead r hr, harmed.order r hr⟩⟩
  obtain ⟨hff, hss, hmm, hhh⟩ := hclock.fields r hr
  exact (timecode_inRange_iff _ _).2 ⟨by omega, by omega, by omega, hff⟩

theorem clockSourceIs_iff (s : State) (a : Nat) :
    s.clockSourceIs a = true ↔ ∃ r, s.record = some r ∧ r.clockSource = some a := by
  simp [State.clockSourceIs, Option.any_eq_true]

namespace State.OnTime

variable {s t : State}

theorem of_initial (hrecord : s.record = none) (hclock : s.clock = .initial) (hsched : s.sched = .initial) : s.OnTime := by
  refine ⟨?_, ?_, ?_, ?_, ?_⟩ <;> simp [hrecord, hclock, hsched, SceneClock.initial, CueScheduler.initial]

theorem laws (h : s.OnTime) : s.ClockLaw ∧ s.ArmedLaw := by
  have hnone : s.record = none → s.sched.armed = [] := fun hr => h.empty (axis_of_no_record hr)
  refine ⟨⟨h.stopped, fun r hr => ?_, h.acc⟩, h.empty, ?_, ?_, fun r hr => (h.armed r hr).ahead, fun r hr => (h.armed r hr).order⟩
  · obtain ⟨hhh, hmm, hss, hff⟩ := (timecode_inRange_iff _ _).1 (h.range r hr)
    exact ⟨hff, by omega, by omega, by omega⟩
  · obtain hr | ⟨r, hr⟩ := Option.eq_none_or_eq_some s.record
    · simp [hnone hr]
    · exact (h.armed r hr).size
  · obtain hr | ⟨r, hr⟩ := Option.eq_none_or_eq_some s.record
    · simp [hnone hr]
    · exact (h.armed r hr).once

/-- The clock and the record stand, and nothing new is armed. -/
theorem of_sublist (h : s.OnTime) (hrecord : t.record = s.record) (htime : t.clock.time = s.clock.time)
    (hacc : t.clock.acc = s.clock.acc) (harmed : t.sched.armed.Sublist s.sched.armed) : t.OnTime := by
  refine ⟨?_, ?_, ?_, ?_, ?_⟩
  · rw [hrecord, htime, hacc]
    exact h.stopped
  · rw [hacc]
    exact h.acc
  · rw [axis_congr hrecord]
    exact fun hax => List.eq_nil_of_sublist_nil (h.empty hax ▸ harmed)
  · rw [hrecord, htime]
    exact h.range
  · rw [hrecord, htime]
    exact fun r hr => (h.armed r hr).sublist harmed

theorem of_frame (h : s.OnTime) (hframe : t.record = s.record ∧ t.clock = s.clock ∧ t.sched.armed = s.sched.armed) :
    t.OnTime := by
  obtain ⟨hrecord, hclock, harmed⟩ := hframe
  exact h.of_sublist hrecord (by rw [hclock]) (by rw [hclock]) (harmed ▸ .refl _)

theorem fire (h : s.OnTime) (ax : AxisSettings) (f : Firing) : (fire ax f s).OnTime :=
  h.of_sublist (by simp) (by simp) (by simp) (fire_armed ax f s)

theorem fireMarked (h : s.OnTime) (ax : AxisSettings) (f : Firing) : (fireMarked ax f s).OnTime := by
  rw [fireMarked_eq]
  exact (h.of_frame (by simp)).fire ax f

/-- The clock counts, and what is due fires (R112, R121). -/
theorem clockExpiry (h : s.OnTime) (hstart : s.StartLaw) : (clockExpiry s).OnTime := by
  unfold Machine.clockExpiry
  obtain hr | ⟨r, hr⟩ := Option.eq_none_or_eq_some s.record
  · simpa only [hr] using h
  simp only [hr]
  have hacc := h.acc
  have hrange := h.range r hr
  have harmed := h.armed r hr
  have hall : ∀ r', s.record = some r' → r' = r := fun r' hr' => Option.some.inj (hr'.symm.trans hr)
  have hfps : 0 < r.fps ∧ r.fps ≤ 1000 := by
    obtain hf | hf | hf := (hstart.record r hr).fps <;> omega
  by_cases hadvances : 1000 ≤ s.clock.acc + r.fps
  · have htick : s.clock.tick r.fps =
        { s.clock with acc := s.clock.acc + r.fps - 1000, time := nextFrame r.fps s.clock.time } := by
      rw [SceneClock.tick, if_neg (by omega)]
    obtain ⟨hnext, hnumber⟩ := nextFrame_inRange hfps.1 hrange
    rw [htick, if_pos (by simpa [SceneClock.advances] using hadvances)]
    have hset : ∀ u : State, u.record = s.record → u.clock.acc = s.clock.acc + r.fps - 1000 →
        u.clock.time = nextFrame r.fps s.clock.time → u.sched.armed.Sublist s.sched.armed →
        (∀ e ∈ u.sched.armed, frameNumber r.fps e.start ≠ frameNumber r.fps (nextFrame r.fps s.clock.time)) → u.OnTime := by
      intro u hrec hua hut hsub hdue
      refine ⟨fun hnone => ?_, by omega, fun hax => ?_, fun r' hr' => ?_, fun r' hr' => ?_⟩
      · simp [hrec, hr] at hnone
      · exact List.eq_nil_of_sublist_nil (h.empty (axis_congr hrec ▸ hax) ▸ hsub)
      · rw [hall r' (hrec ▸ hr'), hut]
        exact hnext
      · rw [hall r' (hrec ▸ hr'), hut, hnumber]
        refine (harmed.sublist hsub).shift (d := 1) fun e he => ?_
        obtain ⟨herange, hahead⟩ := harmed.ahead e (hsub.subset he)
        exact remaining_advance hfps.1 (frameNumber_lt hrange) herange hahead (hnumber ▸ hdue e he)
    unfold fireDue
    split
    · next hax =>
      have hempty : s.sched.armed = [] := h.empty hax
      exact hset _ rfl rfl rfl (.refl _) (by simp [hempty])
    · next ax hax =>
      obtain ⟨hsub, hdue, hclock, hrecord⟩ := (fireAll_firesInOrder (ax := ax) (late := fun _ => false)
        (due := fun e => frameNumber r.fps e.start = frameNumber r.fps (nextFrame r.fps s.clock.time)) (fun e => beq_iff_eq)
        (s.withClock { s.clock with acc := s.clock.acc + r.fps - 1000, time := nextFrame r.fps s.clock.time })).leaves
      simp only [State.withClock_clock]
      refine hset _ hrecord ?_ ?_ hsub hdue
      · rw [hclock, State.withClock_clock]
      · rw [hclock, State.withClock_clock]
  · have htick : s.clock.tick r.fps = { s.clock with acc := s.clock.acc + r.fps } := by
      rw [SceneClock.tick, if_pos (by omega)]
    rw [htick, if_neg (by simpa [SceneClock.advances] using hadvances)]
    exact ⟨fun hnone => by simp [hr] at hnone, by simpa using hadvances, h.empty, h.range, h.armed⟩

/-- The clock is set to a time in range, the list as it then stands at that frame. -/
theorem of_set (h : s.OnTime) {r : Record} (hr : s.record = some r) {st : Stamp} (hst : st.inRange r.fps = true)
    (hrecord : t.record = s.record) (htime : t.clock.time = st.time) (hacc : t.clock.acc = st.acc)
    (hempty : s.sched.armed = [] → t.sched.armed = []) (harmed : ArmedAt r.fps (frameNumber r.fps st.time) t.sched.armed) :
    t.OnTime := by
  have hall : ∀ r', t.record = some r' → r' = r := fun r' hr' => Option.some.inj (hr'.symm.trans (hrecord.trans hr))
  simp only [Stamp.inRange, Bool.and_eq_true, decide_eq_true_eq] at hst
  obtain ⟨htimeRange, haccRange⟩ := hst
  refine ⟨fun hnone => ?_, by omega, fun hax => hempty (h.empty (axis_congr hrecord ▸ hax)), fun r' hr' => ?_, fun r' hr' => ?_⟩
  · rw [hrecord, hr] at hnone
    exact absurd hnone (by simp)
  · rw [hall r' hr', htime]
    exact htimeRange
  · rw [hall r' hr', htime]
    exact harmed

/-- A load of the clock: firings, cues missed, and the list in order at the new frame (R113, R122, R123). -/
theorem loadClock (h : s.OnTime) {r : Record} (hr : s.record = some r) {st : Stamp} (hst : st.inRange r.fps = true) :
    (loadClock r.fps st s).OnTime := by
  have hrange : st.time.inRange r.fps = true := by simp_all [Stamp.inRange]
  have hold := frameNumber_lt (h.range r hr)
  have hnew := frameNumber_lt hrange
  have harmed := h.armed r hr
  obtain hax | ⟨ax, hax⟩ := Option.eq_none_or_eq_some s.axis?
  · rw [loadClock_of_no_axis hax]
    exact h.of_set hr hst rfl rfl rfl id (by rw [State.withClock_sched, h.empty hax]; exact .nil _ _)
  obtain ⟨hstands, hshort, hlong, hback⟩ := loadClock_jumpTaken hax r.fps st
  generalize hs' : s.withClock { s.clock with time := st.time, acc := st.acc } = s' at *
  generalize Machine.loadClock r.fps st s = t at *
  have hsched : s'.sched = s.sched := by rw [← hs']; rfl
  have hclock : s'.clock = { s.clock with time := st.time, acc := st.acc } := by rw [← hs']; rfl
  have hrecord : s'.record = s.record := by rw [← hs']; rfl
  /- Reordered from a state whose list is part of the old one, every entry still to come. -/
  have hreorder : ∀ u : State, u.record = s.record → u.clock = s'.clock → u.sched.armed.Sublist s.sched.armed →
      (∀ e ∈ u.sched.armed, 0 < e.remaining r.fps (frameNumber r.fps st.time)) →
      Reordered r.fps (frameNumber r.fps st.time) u t → t.OnTime := by
    intro u hurec huclock hsub hahead hreordered
    have hothers := hreordered.others
    have htclock : t.clock = u.clock := by simpa using congrArg State.clock hothers
    have htrecord : t.record = u.record := by simpa using congrArg State.record hothers
    refine h.of_set hr hst (htrecord.trans hurec) ?_ ?_ (fun hnil => ?_)
      ((harmed.sublist hsub).reordered hahead hreordered)
    · rw [htclock, huclock, hclock]
    · rw [htclock, huclock, hclock]
    · rw [hnil] at hsub
      have hperm := hreordered.perm
      rw [List.eq_nil_of_sublist_nil hsub] at hperm
      exact hperm.eq_nil
  have hdone : ∀ e ∈ s.sched.armed, e.start.inRange r.fps = true := fun e he => (harmed.ahead e he).1
  obtain h0 | h1 := Nat.eq_zero_or_pos (dayDistance r.fps (frameNumber r.fps st.time) (frameNumber r.fps s.clock.time))
  · have hsame := (dayDistance_eq_zero_iff hnew hold).1 h0
    rw [hstands h0]
    exact h.of_set hr hst hrecord (by rw [hclock]) (by rw [hclock]) (by rw [hsched]; exact id)
      (by rw [hsched, hsame]; exact harmed)
  obtain h2 | h2 := (Nat.lt_or_ge (2 * r.fps) (dayDistance r.fps (frameNumber r.fps st.time) (frameNumber r.fps s.clock.time))).symm
  · obtain ⟨u, hfires, hreordered⟩ := hshort h1 h2
    obtain ⟨hsub, hdue, huclock, hurec⟩ := hfires.leaves
    rw [hsched] at hsub
    refine hreorder u (hurec.trans hrecord) huclock hsub (fun e he => ?_) hreordered
    have hahead := (harmed.ahead e (hsub.subset he)).2
    have hbeyond := not_and.1 (hdue e he) hahead
    rw [remaining_jump hold hnew (hdone e (hsub.subset he)) (Nat.not_le.1 hbeyond)]
    omega
  obtain h3 | h3 := (Nat.lt_or_ge (43200 * r.fps) (dayDistance r.fps (frameNumber r.fps st.time) (frameNumber r.fps s.clock.time))).symm
  · have hreordered := hlong h2 h3
    dsimp only at hreordered
    refine hreorder _ ?_ ?_ ?_ (fun e he => ?_) hreordered
    · exact hrecord
    · rfl
    · simp only [State.withFlags_sched, State.withSched_sched, hsched]
      exact List.filter_sublist
    simp only [State.withFlags_sched, State.withSched_sched, hsched] at he
    obtain ⟨he, hnot⟩ := List.mem_filter.1 he
    have hahead := (harmed.ahead e he).2
    have hnot : e.remaining r.fps (frameNumber r.fps s.clock.time) = 0 ∨
        dayDistance r.fps (frameNumber r.fps st.time) (frameNumber r.fps s.clock.time) <
          e.remaining r.fps (frameNumber r.fps s.clock.time) := by simpa using hnot
    rw [remaining_jump hold hnew (hdone e he) (by omega)]
    omega
  · obtain ⟨u, hfires, hreordered⟩ := hback h3
    obtain ⟨hsub, hdue, huclock, hurec⟩ := hfires.leaves
    rw [hsched] at hsub
    exact hreorder u (hurec.trans hrecord) huclock hsub
      (fun e he => remaining_pos_of_ne hnew (hdone e (hsub.subset he)) (hdue e he)) hreordered

theorem compareStamp (h : s.OnTime) {r : Record} (hr : s.record = some r) (st : Stamp) : (compareStamp r.fps st s).OnTime := by
  unfold Machine.compareStamp
  split
  · next hst =>
    have hsynced : (s.withClock { s.clock with synced := true }).OnTime := h.of_sublist rfl rfl rfl (.refl _)
    dsimp only
    split
    · exact hsynced
    · exact hsynced.loadClock hr hst
  · exact h

theorem handStamp (h : s.OnTime) (e : PeerEntry) : (handStamp e s).OnTime := by
  unfold Machine.handStamp
  split
  · next st hsource _ =>
    obtain ⟨r, hr, -⟩ := (clockSourceIs_iff s _).1 hsource
    have hfps : s.fps = r.fps := by simp only [State.fps, hr]
    rw [hfps]
    exact h.compareStamp hr st
  · exact h

theorem handAccepted (h : s.OnTime) (clockFirst : Bool) (e : PeerEntry) : (handAccepted clockFirst e s).OnTime := by
  have hblocks : ∀ u : State, u.OnTime → (handAcceptance e u).OnTime := fun u hu => hu.of_frame (by simp)
  unfold Machine.handAccepted
  split
  · exact hblocks _ (h.handStamp e)
  · exact (hblocks _ h).handStamp e

/-- A change of freshness may clear the synced flag; the clock goes on (R114). -/
theorem handChange (h : s.OnTime) (e : PeerEntry) : (handChange e s).OnTime := by
  have hclock : ∀ u : State, u.OnTime → (clockChanged e u).OnTime := fun u hu => by
    unfold clockChanged
    split
    · exact hu.of_sublist rfl rfl rfl (.refl _)
    · exact hu
  unfold Machine.handChange
  refine hclock _ ?_
  split
  · exact h
  · dsimp only
    split
    · exact h.of_frame (by simp)
    · exact h.of_frame (by simp)

theorem ageingExpiry (h : s.OnTime) (order : List Nat) : (ageingExpiry order s).OnTime := by
  unfold Machine.ageingExpiry
  split
  · exact h
  · refine List.foldlRecOn _ _ (h.of_frame (by simp)) fun t ht a _ => ?_
    unfold ageChange
    split
    · exact ht
    · split
      · exact ht
      · unfold changeFreshness
        refine handChange ?_ _
        split
        · exact ht.of_frame (by simp)
        · exact ht.of_frame (by simp)

/-- A cue taken fires, is armed in its place, or is reported (R117 to R120). -/
theorem takeCue (h : s.OnTime) {r : Record} (hr : s.record = some r) {ax : AxisSettings} (hax : s.axis? = some ax)
    (source : Nat) (c : CueContents) : (takeCue r ax source c s).OnTime := by
  unfold Machine.takeCue
  split
  · next kind entry _ _ _ =>
    dsimp only
    split
    · generalize hu : noteTaken entry ⟨source, c.number⟩ s = u
      have hsub : u.sched.armed.Sublist s.sched.armed := by
        rw [← hu]
        exact List.filter_sublist
      have hnew : ∀ x ∈ u.sched.armed, x.cue ≠ ⟨source, c.number⟩ := fun x hx => by
        rw [← hu] at hx
        simpa using (List.mem_filter.1 hx).2
      have hnoted : u.OnTime := h.of_sublist (by simp [← hu]) (by simp [← hu]) (by simp [← hu]) hsub
      have hrec : u.record = some r := by simpa [← hu] using hr
      have haxu : u.axis? = some ax := by simpa [← hu] using hax
      split
      · exact hnoted.fireMarked ax _
      · unfold scheduleCue
        dsimp only
        split
        · exact hnoted.of_frame (by simp)
        next hrange =>
        split
        · exact hnoted.of_frame (by simp)
        split
        · exact hnoted.fireMarked ax _
        next hne =>
        split
        · exact hnoted.fireMarked ax _
        split
        · unfold armCue
          split
          · exact hnoted.of_frame (by simp)
          · next hroom =>
            have harmed := (hnoted.armed r hrec).insert (e := ⟨⟨source, c.number⟩, kind, c.preset, c.duration, c.fade, c.start⟩)
              (Nat.not_le.1 hroom) hnew (by simpa using hrange) (Nat.pos_of_ne_zero hne)
            refine ⟨hnoted.stopped, hnoted.acc, fun hnone => ?_, hnoted.range, fun r' hr' => ?_⟩
            · have hnone : u.axis? = none := hnone
              simp [haxu] at hnone
            · obtain rfl : r' = r := Option.some.inj (hr'.symm.trans hrec)
              exact harmed
        · split
          · exact hnoted.of_frame (by simp)
          · exact hnoted.of_frame (by simp)
    · exact h
  · exact h

theorem takeOldest (h : s.OnTime) (clockFirst : Bool) : (takeOldest clockFirst s).OnTime := by
  have hperiodic : ∀ (u : State) kind c r, u.OnTime → (takePeriodic clockFirst kind c r u).OnTime := fun u kind c r hu => by
    unfold takePeriodic
    split
    · exact hu
    · split
      · exact (hu.of_frame (t := u.withPeers _) (by simp)).handAccepted clockFirst _
      · exact hu
  have hannounce : ∀ (u : State) r, u.OnTime → (takeAnnounce r u).OnTime := fun u r hu => by
    have hentry : (announceEntry r u).OnTime := by
      unfold announceEntry
      split
      · exact hu
      · dsimp only
        split
        · exact hu.of_frame (by simp)
        · exact (hu.of_frame (t := u.withPeers _) (by simp)).handChange _
    unfold takeAnnounce
    dsimp only
    split
    · exact hentry
    · exact hentry.of_frame (by simp)
  unfold Machine.takeOldest
  split
  · exact h
  · next r rest _ =>
    have hwith : ((s.withLink { s.link with ring := rest }).withIntake (some r)).OnTime := h.of_frame (by simp)
    have hhanded : (handOn clockFirst r ((s.withLink { s.link with ring := rest }).withIntake (some r))).OnTime := by
      unfold handOn takeCueFrame
      split
      · exact hwith
      · split
        · exact hperiodic _ _ _ _ hwith
        · exact hperiodic _ _ _ _ hwith
        · exact hannounce _ _ hwith
        · split
          · next hrec hax => exact hwith.takeCue hrec hax _ _
          · exact hwith
    exact hhanded.of_frame (by simp)

/-- A record found good leaves the clock at 0 and nothing armed (R111). -/
theorem recordGood (h : s.OnTime) {r : Record} (hgood : r.Good) (hnone : s.record = none) : (recordGood r s).OnTime := by
  obtain ⟨htime, hacc⟩ := h.stopped hnone
  have hempty := h.empty (axis_of_no_record hnone)
  have hfps : 0 < r.fps := by obtain hf | hf | hf := hgood.fps <;> omega
  have hframe : (Machine.recordGood r s).record = some r ∧ (Machine.recordGood r s).clock = s.clock ∧
      (Machine.recordGood r s).sched = s.sched := by
    cases hr : r.settings with
    | axis ax => simp [recordGood_axis hr, takeRecordAxis, takeRecordBoth]
    | hand cals => simp [recordGood_hand hr, takeRecordHand, takeRecordBoth, openWindow]
  obtain ⟨hrecord, hclock, hsched⟩ := hframe
  refine ⟨fun hn => by simp [hrecord] at hn, by rw [hclock]; exact h.acc, fun _ => by rw [hsched, hempty], fun r' hr' => ?_,
    fun r' _ => by rw [hsched, hempty]; exact .nil _ _⟩
  obtain rfl : r' = r := Option.some.inj (hr'.symm.trans hrecord)
  rw [hclock, htime]
  exact (timecode_inRange_iff _ _).2 ⟨by decide, by decide, by decide, hfps⟩

theorem panelByte (h : s.OnTime) (hbyte : PanelByte s t) : t.OnTime := by
  cases hbyte with
  | panel p _ => exact h.of_frame ⟨rfl, rfl, rfl⟩
  | cue c p _ _ _ => exact h.of_frame (by simp)
  | clock r time p hax hr hrange _ =>
    refine h.of_set (st := ⟨time, 0⟩) hr (by simp [Stamp.inRange, hrange]) rfl rfl rfl id ?_
    have hempty : (((s.withClock { s.clock with time := time, acc := 0 }).withPanel p).sched.armed) = [] := h.empty hax
    rw [hempty]
    exact .nil _ _

/-- Every effect keeps the clock and the armed list. -/
theorem of_effect (h : s.OnTime) (hstart : s.StartLaw) (heffect : Effect s t) : t.OnTime := by
  cases heffect with
  | idle => exact h
  | starts released m => exact .of_initial rfl rfl rfl
  | resets condition => exact h.of_frame ⟨rfl, rfl, rfl⟩
  | reads bytes hphase =>
    obtain ⟨x, -, heq⟩ | ⟨r, x, hgood, heq⟩ := recordRead_cases bytes s
    · exact heq ▸ h.of_frame ⟨rfl, rfl, rfl⟩
    · exact heq ▸ recordGood (s := s.withStart x) (h.of_frame ⟨rfl, rfl, rfl⟩) hgood (hstart.loading hphase)
  | unreadable _ => exact h.of_frame ⟨rfl, rfl, rfl⟩
  | page page _ => exact h.of_frame (by simp)
  | pageLost _ => exact h.of_frame (by simp)
  | announces => exact h.of_frame (by simp)
  | opens frameFirst _ => exact h.of_frame (by simp)
  | period => exact h.of_frame (by simp)
  | inputs low high amp first _ => exact h.of_frame (by simp)
  | position idle data error _ => exact h.of_frame (by simp)
  | pulse => exact h.of_frame ⟨rfl, rfl, rfl⟩
  | clock => exact h.clockExpiry hstart
  | intake b => exact h.takeOldest b
  | ageing order => exact h.ageingExpiry order
  | sent b => exact h.of_frame (by simp)
  | programmed => exact h.of_frame (by simp)
  | notProgrammed => exact h.of_frame (by simp)
  | hand readings closed => exact h.of_frame (by simp)
  | link t hl =>
    obtain ⟨-, hrecord, -, -, -, -, -, -, -, hclock, hsched, -⟩ := hl.frame
    exact h.of_frame ⟨hrecord, hclock, by rw [hsched]⟩
  | panel t hp => exact hp.keeps (P := State.OnTime) (fun _ _ hbyte hu => hu.panelByte hbyte) h

end State.OnTime

/-- Settles O59. -/
theorem everyStepKeepsClockAndArmedList : Obligations.EveryStepKeepsClockAndArmedList := by
  intro s t hstep hstart hclock harmed
  have h : t.StartLaw ∧ t.OnTime := step_keeps (P := fun u => u.StartLaw ∧ u.OnTime)
    (fun u q hu => ⟨hu.1.of_frame rfl rfl id, hu.2.of_frame ⟨rfl, rfl, rfl⟩⟩)
    (fun u v he hu => ⟨he.keeps_startLaw hu.1, hu.2.of_effect hu.1 he⟩) hstep ⟨hstart, onTime_of_laws hclock harmed⟩
  exact h.2.laws

end Sys2Proof.Machine

/-! What every step keeps, VI: the transmit queue and the receive ring, the peer list, the roster and the recent cue list, the
write-back list and the writer, and the memory's canonical form (O60). -/
namespace Sys2Proof.Machine

/-! ## The transmit queue and the ring (R147, R154, R155, R163) -/

/-- The queue's slots by kind and number, the slots drawn, and the ring's room. -/
structure LinkController.Slots (l : LinkController) : Prop where
  periodic : ∀ f, l.periodic = some f → f.isPeriodic = true
  cueFrames : ∀ f ∈ l.cueSlots, ∃ c, f.contents = .cue c
  cues : l.cueSlots.length ≤ 4
  drawn : l.drawn ≤ 1023
  ring : l.ring.length + (if l.reception then 1 else 0) ≤ 8

/-- The law of the Link Controller, with the bound of the attempts in and outside a jam. -/
structure LinkController.Sound (l : LinkController) : Prop where
  slots : l.Slots
  idle : l.current = none → l.periodic = none ∧ l.cueSlots = []
  attempts : l.attempts ≤ 16
  below : l.phase ≠ .jam → l.attempts ≤ 15

theorem linkLaw_iff (s : State) : s.LinkLaw ↔ s.link.Sound :=
  ⟨fun h => ⟨⟨h.periodic, h.cueFrames, h.cues, h.drawn, h.ring⟩, h.idle, h.attempts, h.below⟩,
    fun h => ⟨h.slots.periodic, h.slots.cueFrames, h.idle, h.slots.cues, h.attempts, h.below, h.slots.drawn, h.slots.ring⟩⟩

theorem LinkController.Slots.ring_le {l : LinkController} (h : l.Slots) : l.ring.length ≤ 8 := by
  have := h.ring
  split at this <;> omega

/-- The law in any phase, where the attempts are few. -/
theorem LinkController.Sound.of_few {l : LinkController} (hslots : l.Slots)
    (hidle : l.current = none → l.periodic = none ∧ l.cueSlots = []) (h : l.attempts ≤ 15) : l.Sound :=
  ⟨hslots, hidle, by omega, fun _ => h⟩

theorem LinkController.Sound.restarted (cause : StartCause) (carrier : Bool) : (LinkController.restarted cause carrier).Sound := by
  refine .of_few ⟨?_, ?_, ?_, ?_, ?_⟩ ?_ ?_ <;> simp [LinkController.restarted, LinkController.initial]

section Queue

variable {s : State}

theorem beginAttempt_sound (hslots : s.link.Slots) (hidle : s.link.current = none → s.link.periodic = none ∧ s.link.cueSlots = [])
    (h : s.link.attempts ≤ 15) : (beginAttempt s).link.Sound := by
  obtain hf | ⟨f, hf⟩ := Option.eq_none_or_eq_some s.link.current
  · rw [beginAttempt_none hf]
    exact .of_few hslots hidle h
  · rw [beginAttempt_some hf]
    exact .of_few ⟨hslots.periodic, hslots.cueFrames, hslots.cues, hslots.drawn, by simpa using hslots.ring_le⟩ (by simp) h

theorem enterWait_sound (hslots : s.link.Slots) (hidle : s.link.current = none → s.link.periodic = none ∧ s.link.cueSlots = [])
    (h : s.link.attempts ≤ 15) : (enterWait s).link.Sound := by
  have hwait : LinkController.Slots { s.link with phase := .wait, backoff := 0 } :=
    ⟨hslots.periodic, hslots.cueFrames, hslots.cues, hslots.drawn, hslots.ring⟩
  unfold enterWait
  dsimp only
  split
  · exact beginAttempt_sound hwait hidle h
  · exact .of_few hwait hidle h

theorem makeCurrent_sound (hslots : s.link.Slots) (f : Frame) : (makeCurrent f s).link.Sound :=
  enterWait_sound ⟨hslots.periodic, hslots.cueFrames, hslots.cues, hslots.drawn, hslots.ring⟩ (by simp) (Nat.zero_le _)

theorem dropCurrent_sound (hslots : s.link.Slots) : (dropCurrent s).link.Sound := by
  obtain hcues | ⟨f, rest, hcues⟩ : s.link.cueSlots = [] ∨ ∃ f rest, s.link.cueSlots = f :: rest := by
    cases s.link.cueSlots <;> simp
  · obtain hperiodic | ⟨f, hperiodic⟩ := Option.eq_none_or_eq_some s.link.periodic
    · have hdrop : dropCurrent s =
          s.withLink { s.link with current := none, phase := .wait, attempts := 0, round := 1 } := by
        simp only [dropCurrent, chooseFrame, State.withLink_link, hcues, hperiodic]
      rw [hdrop]
      exact .of_few ⟨hslots.periodic, hslots.cueFrames, hslots.cues, hslots.drawn, hslots.ring⟩
        (fun _ => ⟨hperiodic, hcues⟩) (Nat.zero_le _)
    · have hdrop : dropCurrent s = makeCurrent f
          (s.withLink { s.link with current := none, phase := .wait, attempts := 0, round := 1, periodic := none }) := by
        simp only [dropCurrent, chooseFrame, State.withLink_link, hcues, hperiodic, State.withLink_withLink]
      rw [hdrop]
      refine makeCurrent_sound ?_ f
      exact ⟨by simp, hslots.cueFrames, hslots.cues, hslots.drawn, hslots.ring⟩
  · have hdrop : dropCurrent s = makeCurrent f
        (s.withLink { s.link with current := none, phase := .wait, attempts := 0, round := 1, cueSlots := rest }) := by
      simp only [dropCurrent, chooseFrame, State.withLink_link, hcues, State.withLink_withLink]
    have hcount := hslots.cues
    have hkinds := hslots.cueFrames
    rw [hcues] at hcount hkinds
    rw [List.length_cons] at hcount
    rw [hdrop]
    refine makeCurrent_sound ?_ f
    exact ⟨hslots.periodic, fun g hg => hkinds g (List.mem_cons_of_mem f hg), show rest.length ≤ 4 by omega, hslots.drawn,
      hslots.ring⟩

theorem enqueuePeriodic_sound (h : s.link.Sound) {f : Frame} (hf : f.isPeriodic = true) : (enqueuePeriodic f s).link.Sound := by
  have hslots := h.slots
  unfold enqueuePeriodic
  obtain hc | ⟨c, hc⟩ := Option.eq_none_or_eq_some s.link.current
  · obtain ⟨-, hcues⟩ := h.idle hc
    simp only [hc, chooseFrame, State.withLink_link, hcues]
    refine makeCurrent_sound ?_ f
    exact ⟨by simp, by simp, Nat.zero_le _, hslots.drawn, hslots.ring⟩
  · simp only [hc]
    split
    · exact ⟨⟨hslots.periodic, hslots.cueFrames, hslots.cues, hslots.drawn, hslots.ring⟩, by simp, h.attempts, h.below⟩
    · exact ⟨⟨fun g hg => by cases hg; exact hf, hslots.cueFrames, hslots.cues, hslots.drawn, hslots.ring⟩,
        by simp, h.attempts, h.below⟩

theorem enqueueCue_sound (h : s.link.Sound) (hroom : s.link.cueRoom = true) {f : Frame} {c : CueContents}
    (hf : f.contents = .cue c) : (enqueueCue f s).link.Sound := by
  have hslots := h.slots
  unfold enqueueCue
  obtain hc | ⟨g, hc⟩ := Option.eq_none_or_eq_some s.link.current
  · simp only [hc]
    exact makeCurrent_sound hslots f
  · simp only [hc]
    have hlt : s.link.cueSlots.length < 4 := by
      simp only [LinkController.cueRoom, hc, Option.isNone_some, Bool.false_or, decide_eq_true_eq] at hroom
      exact hroom
    refine ⟨⟨hslots.periodic, fun x hx => ?_, ?_, hslots.drawn, hslots.ring⟩, by simp, h.attempts, h.below⟩
    · obtain hx | hx := List.mem_append.1 hx
      · exact hslots.cueFrames x hx
      · exact ⟨c, by rw [List.mem_singleton.1 hx, hf]⟩
    · have hlength : (s.link.cueSlots ++ [f]).length = s.link.cueSlots.length + 1 := by simp
      exact hlength ▸ hlt

theorem buildPeriodic_sound (h : s.link.Sound) : (buildPeriodic s.periodicContents s).link.Sound := by
  have hslots := h.slots
  unfold buildPeriodic
  dsimp only
  refine enqueuePeriodic_sound ?_ ((isPeriodic_iff _).2 ?_)
  · exact ⟨⟨hslots.periodic, hslots.cueFrames, hslots.cues, hslots.drawn, hslots.ring⟩, h.idle, h.attempts, h.below⟩
  intro c
  simp only [State.periodicContents]
  split <;> simp

theorem buildAnnounce_sound (h : s.link.Sound) : (buildAnnounce s).link.Sound := by
  obtain hr | ⟨r, hr⟩ := Option.eq_none_or_eq_some s.record
  · simpa only [buildAnnounce, hr] using h
  · rw [buildAnnounce_eq hr]
    exact enqueuePeriodic_sound h ((isPeriodic_iff _).2 fun c => by simp [announceFrame])

theorem openWindow_sound (h : s.link.Sound) : (openWindow s).link.Sound := buildAnnounce_sound (by simpa using h)

end Queue

theorem drawBackoff_le (reg : BitVec 17) (n : Nat) : drawBackoff reg n ≤ 1023 := by
  have hpow : 2 ^ min n 10 ≤ 2 ^ 10 := Nat.pow_le_pow_right (by decide) (Nat.min_le_right _ _)
  have hlt : reg.toNat % 2 ^ min n 10 < 2 ^ min n 10 := Nat.mod_lt _ (Nat.two_pow_pos _)
  unfold drawBackoff
  omega

/-- The jam's end backs off, has a second round, or drops the frame (R154, R155). -/
theorem jamEnds_sound {s : State} (h : s.link.Sound) : (jamEnds s).link.Sound := by
  have hslots := h.slots
  obtain hf | ⟨f, hf⟩ := Option.eq_none_or_eq_some s.link.current
  · have hends : jamEnds s = s.withLink { s.link.carrierOff with wire := [] } := by
      simp only [jamEnds, moveNewer, State.withLink_link, LinkController.carrierOff, hf]
    rw [hends]
    exact ⟨⟨hslots.periodic, hslots.cueFrames, hslots.cues, hslots.drawn, hslots.ring⟩, h.idle, h.attempts, h.below⟩
  have hends : jamEnds s = if 16 ≤ s.link.attempts then
        attemptLimit ((newerOf f s.link.periodic).getD f) (moveNewer (s.withLink { s.link.carrierOff with wire := [] }))
      else startBackoff (moveNewer (s.withLink { s.link.carrierOff with wire := [] })) := by
    rw [jamEnds, moveNewer_eq (s := s.withLink { s.link.carrierOff with wire := [] }) (f := f) hf]
    rfl
  have hu : ∃ l : LinkController, moveNewer (s.withLink { s.link.carrierOff with wire := [] }) = s.withLink l ∧ l.Slots ∧
      l.current.isSome = true ∧ l.line ≠ .free ∧ l.attempts = s.link.attempts := by
    rw [moveNewer_eq (s := s.withLink { s.link.carrierOff with wire := [] }) (f := f) hf]
    refine ⟨_, rfl, ⟨fun g hg => ?_, hslots.cueFrames, hslots.cues, hslots.drawn, hslots.ring⟩, rfl, ?_, rfl⟩
    · refine hslots.periodic g ?_
      dsimp only at hg
      split at hg
      · simp at hg
      · exact hg
    · simp [LinkController.carrierOff]
  obtain ⟨l, hl, hlslots, hcurrent, hline, hattempts⟩ := hu
  have hsome : l.current ≠ none := Option.isSome_iff_ne_none.1 hcurrent
  rw [hends, hl]
  split
  · unfold attemptLimit
    split
    · split
      · exact enterWait_sound ⟨hlslots.periodic, hlslots.cueFrames, hlslots.cues, hlslots.drawn, hlslots.ring⟩
          (fun hn => absurd hn hsome) (Nat.zero_le _)
      · exact dropCurrent_sound (by simpa using hlslots)
    all_goals exact dropCurrent_sound hlslots
  · have hfew : l.attempts ≤ 15 := by omega
    unfold startBackoff
    split
    · exact enterWait_sound hlslots (fun hn => absurd hn hsome) hfew
    · exact .of_few ⟨hlslots.periodic, hlslots.cueFrames, hlslots.cues, hlslots.drawn, hlslots.ring⟩
        (fun hn => absurd hn hsome) hfew

theorem completeAttempt_sound {s : State} (h : s.link.Sound) : (completeAttempt s).link.Sound := by
  have hslots := h.slots
  unfold completeAttempt
  split
  · exact h
  · next f _ =>
    refine dropCurrent_sound ?_
    have hoff : LinkController.Slots { s.link.carrierOff with wire := [] } :=
      ⟨hslots.periodic, hslots.cueFrames, hslots.cues, hslots.drawn, hslots.ring⟩
    unfold completed
    split
    · refine ⟨fun g hg => ?_, hslots.cueFrames, hslots.cues, hslots.drawn, hslots.ring⟩
      obtain ⟨g', hg', rfl⟩ := Option.map_eq_some_iff.1 hg
      exact hslots.periodic g' hg'
    · exact hoff
    · exact hoff
    · exact hoff

/-- Every effect of the crane link keeps the law. -/
theorem LinkEffect.keeps_sound {s t : State} (heffect : LinkEffect s t) (h : s.link.Sound) : t.link.Sound := by
  have hslots := h.slots
  cases heffect with
  | periodCount | bitTime | carrier present | carrierOn | carrierOff | lateGap =>
    exact ⟨⟨hslots.periodic, hslots.cueFrames, hslots.cues, hslots.drawn, hslots.ring⟩, h.idle, h.attempts, h.below⟩
  | gapEnds =>
    unfold Machine.gapEnds
    dsimp only
    generalize (if s.link.carrier = true then LineCondition.busy else .free) = line
    split
    · next hphase =>
      exact beginAttempt_sound ⟨hslots.periodic, hslots.cueFrames, hslots.cues, hslots.drawn, hslots.ring⟩ h.idle
        (h.below (by rw [show s.link.phase = .wait from hphase]; simp))
    · exact ⟨⟨hslots.periodic, hslots.cueFrames, hslots.cues, hslots.drawn, hslots.ring⟩, h.idle, h.attempts, h.below⟩
  | periodic => exact buildPeriodic_sound h
  | collide hphase =>
    have hfew := h.below (by rw [hphase]; simp)
    exact ⟨⟨hslots.periodic, hslots.cueFrames, hslots.cues, drawBackoff_le _ _, hslots.ring⟩, h.idle,
      show s.link.attempts + 1 ≤ 16 by omega, fun hne => absurd rfl hne⟩
  | jamEnds _ => exact jamEnds_sound h
  | backoffEnds hphase => exact enterWait_sound hslots h.idle (h.below (by rw [hphase]; simp))
  | completes => exact completeAttempt_sound h
  | reserves hfree =>
    unfold reserveRoom
    split
    · next hroom =>
      exact ⟨⟨hslots.periodic, hslots.cueFrames, hslots.cues, hslots.drawn, hroom⟩, h.idle, h.attempts, h.below⟩
    · split
      · simpa using h
      · exact h
  | receipt bytes whole hreception =>
    have hring : s.link.ring.length + 1 ≤ 8 := by simpa [hreception] using hslots.ring
    have hends : ∀ ring : List RingRecord, ring.length ≤ 8 → LinkController.Sound { s.link with reception := false, ring := ring } :=
      fun ring hr => ⟨⟨hslots.periodic, hslots.cueFrames, hslots.cues, hslots.drawn, by simpa using hr⟩, h.idle, h.attempts, h.below⟩
    unfold endReceipt
    dsimp only
    split
    · split
      · exact hends _ (by simpa using hring)
      · exact hends _ (by omega)
    · exact hends _ (by omega)

/-- Every effect keeps the law of the Link Controller. -/
theorem Effect.keeps_sound {s t : State} (heffect : Effect s t) (h : s.link.Sound) : t.link.Sound := by
  have hslots := h.slots
  have hsame : ∀ t : State, t.link = s.link → t.link.Sound := fun t ht => ht ▸ h
  have htaken : ∀ (r : Record) (u : State), u.link.Sound → (takeRecordBoth r u).link.Sound := fun r u hu =>
    ⟨⟨hu.slots.periodic, hu.slots.cueFrames, hu.slots.cues, hu.slots.drawn, hu.slots.ring⟩, hu.idle, hu.attempts, hu.below⟩
  have hloaded : ∀ (body : PresetBody) (u : State), u.link.Sound → (loadEntry body u).link.Sound := fun body u hu => by
    unfold loadEntry
    dsimp only
    split
    · exact openWindow_sound (by simpa using hu)
    · exact hu
  have hopens : ∀ u : State, u.link.Sound → (leaveStart u).link.Sound := fun u hu => by simpa using hu
  cases heffect with
  | idle => exact h
  | starts released m =>
    have hlink : (beginStart released m s).link = .restarted (beginStart released m s).start.cause
        (interruptCommit (supplyUnder (worst s.resetHold released) m) s).foreignCarrier := rfl
    rw [hlink]
    exact .restarted _ _
  | resets condition =>
    exact ⟨⟨hslots.periodic, hslots.cueFrames, hslots.cues, hslots.drawn, hslots.ring⟩, h.idle, h.attempts, h.below⟩
  | reads bytes _ =>
    obtain ⟨x, -, heq⟩ | ⟨r, x, -, heq⟩ := recordRead_cases bytes s
    · rw [heq]
      exact h
    · rw [heq]
      cases hr : r.settings with
      | axis ax =>
        rw [recordGood_axis hr]
        exact htaken r _ h
      | hand cals =>
        rw [recordGood_hand hr]
        exact openWindow_sound (htaken r (s.withStart x) h)
  | unreadable _ => exact h
  | page page _ => exact hloaded _ _ (by cases page <;> simpa [deliver] using h)
  | pageLost _ => exact hloaded _ _ h
  | announces => exact buildAnnounce_sound h
  | opens frameFirst _ =>
    have hrun : LinkController.Sound { s.link with periodTimer := true } :=
      ⟨⟨hslots.periodic, hslots.cueFrames, hslots.cues, hslots.drawn, hslots.ring⟩, h.idle, h.attempts, h.below⟩
    unfold windowEnds
    dsimp only
    split
    · exact hopens _ (buildPeriodic_sound hrun)
    · exact buildPeriodic_sound (hopens _ hrun)
  | period => exact hsame _ (by simp)
  | inputs low high amp first _ => exact hsame _ (by simp)
  | position idle data error _ => exact hsame _ (by simp)
  | pulse => exact h
  | clock => exact hsame _ (by simp)
  | intake b =>
    unfold takeOldest
    split
    · exact h
    · next r rest hring =>
      have hshorter := hslots.ring
      rw [hring, List.length_cons] at hshorter
      have hlink : ∀ u : State, ((handOn b r u).withIntake none).link = u.link := fun u => by simp
      rw [hlink]
      exact ⟨⟨hslots.periodic, hslots.cueFrames, hslots.cues, hslots.drawn,
        show rest.length + (if s.link.reception then 1 else 0) ≤ 8 by omega⟩, h.idle, h.attempts, h.below⟩
  | ageing order => exact hsame _ (by simp)
  | sent b => exact hsame _ (by simp)
  | programmed => exact hsame _ (by simp)
  | notProgrammed => exact hsame _ (by simp)
  | hand readings closed => exact hsame _ (by simp)
  | link t hl => exact hl.keeps_sound h
  | panel t hp =>
    refine hp.keeps (P := fun u => u.link.Sound) (fun u v hbyte hu => ?_) h
    cases hbyte with
    | panel p _ => exact hu
    | cue c p _ hroom _ => exact enqueueCue_sound hu hroom rfl
    | clock r time p _ _ _ _ => exact hu

end Sys2Proof.Machine

/-! What every step keeps, VII: the recent cue list, the peer list and the roster, and the memory's canonical form (O60). -/
namespace Sys2Proof.Machine

/-! ## The peer list and the roster (R130, R137) -/

/-- The addresses of the entries, in the list's order. -/
def State.addresses (s : State) : List Nat := s.peers.entries.map PeerEntry.address

theorem addresses_congr {s t : State} (h : t.peers = s.peers) : t.addresses = s.addresses := by
  rw [State.addresses, State.addresses, h]

theorem PeerTable.put_addresses (p : PeerTable) (e : PeerEntry) :
    (p.put e).entries.map PeerEntry.address = p.entries.map PeerEntry.address := by
  rw [PeerTable.put, List.map_map]
  refine List.map_congr_left fun x _ => ?_
  dsimp only [Function.comp]
  split
  · next h => exact (beq_iff_eq.1 h).symm
  · rfl

theorem addresses_of_put {s t : State} {e : PeerEntry} (h : t.peers = s.peers.put e) : t.addresses = s.addresses := by
  rw [State.addresses, h]
  exact s.peers.put_addresses e

theorem PeerEntry.older_address (e : PeerEntry) : e.older.address = e.address := by
  unfold PeerEntry.older
  split <;> rfl

section Addresses

variable {s : State}

theorem takeCue_addresses (r : Record) (ax : AxisSettings) (source : Nat) (c : CueContents) :
    (takeCue r ax source c s).addresses = s.addresses := by
  unfold takeCue
  split
  · split
    · dsimp only
      split
      · exact addresses_of_put (by simp; rfl)
      · exact addresses_of_put (by simp; rfl)
    · rfl
  · rfl

theorem takePeriodic_addresses (clockFirst : Bool) (kind : PeerKind) (c : PeerContents) (r : RingRecord) :
    (takePeriodic clockFirst kind c r s).addresses = s.addresses := by
  unfold takePeriodic
  split
  · rfl
  · split
    · exact addresses_of_put (by simp; rfl)
    · rfl

theorem announceEntry_addresses (r : RingRecord) : (announceEntry r s).addresses = s.addresses := by
  unfold announceEntry
  split
  · rfl
  · dsimp only
    split
    · exact s.peers.put_addresses _
    · exact addresses_of_put (by simp; rfl)

theorem takeAnnounce_addresses (r : RingRecord) : (takeAnnounce r s).addresses = s.addresses := by
  unfold takeAnnounce
  dsimp only
  split <;> exact announceEntry_addresses r

theorem handOn_addresses (clockFirst : Bool) (r : RingRecord) : (handOn clockFirst r s).addresses = s.addresses := by
  unfold handOn
  split
  · rfl
  · split
    · exact takePeriodic_addresses ..
    · exact takePeriodic_addresses ..
    · exact takeAnnounce_addresses r
    · unfold takeCueFrame
      split
      · exact takeCue_addresses ..
      · rfl

theorem ageChange_addresses (r : Record) (address : Nat) : (ageChange r s address).addresses = s.addresses := by
  unfold ageChange changeFreshness
  split
  · rfl
  · split
    · rfl
    · next e _ _ f _ =>
      refine addresses_of_put (e := { e with freshness := f }) ?_
      split <;> simp

theorem ageingExpiry_addresses (order : List Nat) : (ageingExpiry order s).addresses = s.addresses := by
  unfold ageingExpiry
  split
  · rfl
  · next r _ =>
    refine List.foldlRecOn (motive := fun t : State => t.addresses = s.addresses) _ _ ?_ fun t ht a _ =>
      (ageChange_addresses r a).trans ht
    simp [State.addresses, PeerEntry.older_address]

/-- The roster changes in hand role alone, by the item an ANNOUNCE writes (R137). -/
theorem handOn_roster (clockFirst : Bool) (r : RingRecord) :
    (handOn clockFirst r s).peers.roster = s.peers.roster ∨
    ∃ item, (handOn clockFirst r s).peers.roster = insertRoster item s.peers.roster := by
  have hput : ∀ (e : PeerEntry), (s.peers.put e).roster = s.peers.roster := fun e => rfl
  have hentry : (announceEntry r s).peers.roster = s.peers.roster := by
    unfold announceEntry
    split
    · rfl
    · dsimp only
      split <;> simp [hput]
  have hperiodic : ∀ kind c, (takePeriodic clockFirst kind c r s).peers.roster = s.peers.roster := fun kind c => by
    unfold takePeriodic
    split
    · rfl
    · split
      · simp [hput]
      · rfl
  have hcue : ∀ rec ax source c, (takeCue rec ax source c s).peers.roster = s.peers.roster := fun rec ax source c => by
    unfold takeCue
    split
    · split
      · dsimp only
        split <;> simp [noteTaken, hput]
      · rfl
    · rfl
  unfold handOn
  split
  · exact .inl rfl
  · split
    · exact .inl (hperiodic _ _)
    · exact .inl (hperiodic _ _)
    · unfold takeAnnounce
      dsimp only
      split
      · exact .inl hentry
      · exact .inr ⟨_, by rw [← hentry]; rfl⟩
    · unfold takeCueFrame
      split
      · exact .inl (hcue _ _ _ _)
      · exact .inl rfl

theorem ageingExpiry_roster (order : List Nat) : (ageingExpiry order s).peers.roster = s.peers.roster := by
  unfold ageingExpiry
  split
  · rfl
  · next r _ =>
    refine List.foldlRecOn (motive := fun t : State => t.peers.roster = s.peers.roster) _ _ rfl fun t ht a _ => ?_
    unfold ageChange changeFreshness
    split
    · exact ht
    · split
      · exact ht
      · rw [(handChange_frame _ _).2.2.2.2.2.2.2.2.2.1, ← ht]
        split <;> simp [PeerTable.put]

end Addresses

theorem mem_insertRoster_address {item : RosterItem} {l : List RosterItem} {a : Nat}
    (h : a ∈ (insertRoster item l).map RosterItem.address) : a = item.address ∨ a ∈ l.map RosterItem.address := by
  induction l with
  | nil => simpa [insertRoster] using h
  | cons x rest ih =>
    unfold insertRoster at h
    split at h
    · simpa using h
    · split at h
      · simp only [List.map_cons, List.mem_cons] at h ⊢
        exact h.imp_right .inr
      · simp only [List.map_cons, List.mem_cons] at h ⊢
        exact h.elim (fun hx => .inr (.inl hx)) fun hrest => (ih hrest).imp_right .inr

/-- An item written keeps the roster in address order (R137). -/
theorem insertRoster_ordered (item : RosterItem) {l : List RosterItem} (h : (l.map RosterItem.address).Pairwise (· < ·)) :
    ((insertRoster item l).map RosterItem.address).Pairwise (· < ·) := by
  induction l with
  | nil => simp [insertRoster]
  | cons x rest ih =>
    obtain ⟨hhead, hrest⟩ := List.pairwise_cons.1 (List.map_cons ▸ h)
    unfold insertRoster
    split
    · next hlt =>
      refine List.pairwise_cons.2 ⟨fun a ha => ?_, h⟩
      obtain rfl | ha := List.mem_cons.1 (List.map_cons ▸ ha)
      · exact hlt
      · exact Nat.lt_trans hlt (hhead a ha)
    · split
      · next heq => exact List.pairwise_cons.2 ⟨heq ▸ hhead, hrest⟩
      · next hlt hne =>
        refine List.pairwise_cons.2 ⟨fun a ha => ?_, ih hrest⟩
        obtain rfl | ha := mem_insertRoster_address ha
        · exact show x.address < item.address by omega
        · exact hhead a ha

/-! ## The recent cue list (R174) -/

theorem length_addRecent {l : List RecentCue} (h : l.length ≤ 8) (n : Nat) : (addRecent n l).length ≤ 8 := by
  unfold addRecent Config.recentMax
  split <;> simp <;> omega

theorem completed_recent (f : Frame) (s : State) : (completed f s).panel.recent.length = s.panel.recent.length := by
  unfold completed
  split <;> simp [setOutcome]

theorem attemptLimit_recent (f : Frame) (s : State) : (attemptLimit f s).panel.recent.length = s.panel.recent.length := by
  unfold attemptLimit
  split
  · split <;> simp [setOutcome]
  all_goals simp

/-- The crane link changes outcomes in the recent cue list, and no item's place. -/
theorem LinkEffect.recent {s t : State} (h : LinkEffect s t) : t.panel.recent.length = s.panel.recent.length := by
  cases h with
  | jamEnds _ =>
    unfold Machine.jamEnds
    dsimp only
    split
    · simp
    · split
      · rw [attemptLimit_recent]
        simp
      · simp
  | completes =>
    unfold completeAttempt
    split
    · rfl
    · simp [completed_recent]
  | _ => simp

/-! ## The law of the lists (R130, R137, R174) -/

theorem State.ListLaw.of_frame {s t : State} (h : s.ListLaw) (hrecent : t.panel.recent.length ≤ 8)
    (haddresses : t.addresses = s.addresses) (hroster : t.peers.roster = s.peers.roster) : t.ListLaw := by
  have hlength : t.peers.entries.length = s.peers.entries.length := by
    simpa [State.addresses] using congrArg List.length haddresses
  have hdistinct := h.distinct
  exact ⟨hrecent, hlength ▸ h.peers, show t.addresses.Nodup from haddresses ▸ hdistinct, hroster ▸ h.roster⟩

theorem State.ListLaw.of_same {s t : State} (h : s.ListLaw) (hpanel : t.panel = s.panel) (hpeers : t.peers = s.peers) : t.ListLaw :=
  h.of_frame (by rw [hpanel]; exact h.recent) (addresses_congr hpeers) (by rw [hpeers])

theorem State.ListLaw.of_initial {s : State} (hpanel : s.panel = .initial) (hpeers : s.peers = .initial) : s.ListLaw := by
  refine ⟨?_, ?_, ?_, ?_⟩ <;> simp [hpanel, hpeers, PanelLine.initial, PeerTable.initial]

theorem create_addresses (l : List PeerSpec) : (l.map PeerEntry.create).map PeerEntry.address = l.map PeerSpec.address := by
  simp [PeerEntry.create]

theorem State.ListLaw.after_record {s : State} (h : s.ListLaw) {r : Record} (hgood : r.Good) : (recordGood r s).ListLaw := by
  obtain ⟨hsize, hdistinct⟩ := hgood.peers
  have htaken : (takeRecordBoth r s).ListLaw :=
    ⟨h.recent, by simpa [takeRecordBoth] using hsize, (create_addresses r.peers).symm ▸ hdistinct, h.roster⟩
  cases hr : r.settings with
  | axis ax =>
    rw [recordGood_axis hr]
    exact htaken.of_same rfl rfl
  | hand cals =>
    rw [recordGood_hand hr]
    exact htaken.of_same (by simp [takeRecordHand, openWindow]) (by simp [takeRecordHand, openWindow])

/-- Every effect keeps the law of the lists. -/
theorem Effect.keeps_listLaw {s t : State} (heffect : Effect s t) (h : s.ListLaw) : t.ListLaw := by
  cases heffect with
  | idle => exact h
  | starts released m => exact .of_initial rfl rfl
  | resets condition => exact h.of_same rfl rfl
  | reads bytes _ =>
    obtain ⟨x, -, heq⟩ | ⟨r, x, hgood, heq⟩ := recordRead_cases bytes s
    · rw [heq]
      exact h.of_same rfl rfl
    · rw [heq]
      exact (h.of_same (t := s.withStart x) rfl rfl).after_record hgood
  | unreadable _ => exact h.of_same rfl rfl
  | page page _ => exact h.of_same (by simp) (by simp)
  | pageLost _ => exact h.of_same (by simp) (by simp)
  | announces => exact h.of_same (by simp) (by simp)
  | opens frameFirst _ => exact h.of_same (by simp) (by simp)
  | period => exact h.of_same (by simp) (by simp)
  | inputs low high amp first _ => exact h.of_same (by simp) (by simp)
  | position idle data error _ => exact h.of_same (by simp) (by simp)
  | pulse => exact h.of_same rfl rfl
  | clock => exact h.of_same (by simp) (by simp)
  | intake b =>
    unfold takeOldest
    split
    · exact h
    · next r rest _ =>
      have hstart : ((s.withLink { s.link with ring := rest }).withIntake (some r)).ListLaw := h.of_same rfl rfl
      generalize (s.withLink { s.link with ring := rest }).withIntake (some r) = u at hstart ⊢
      have hhanded : (handOn b r u).ListLaw := by
        have hpanel : (handOn b r u).panel = u.panel := by simp
        obtain hsame | ⟨item, hitem⟩ := handOn_roster (s := u) b r
        · exact hstart.of_frame (hpanel ▸ hstart.recent) (handOn_addresses b r) hsame
        · obtain ⟨hrecent, hpeers, hdistinct, -⟩ := hstart.of_frame (t := (handOn b r u).withPeers
            { (handOn b r u).peers with roster := u.peers.roster }) (hpanel ▸ hstart.recent) (handOn_addresses b r) rfl
          exact ⟨hrecent, hpeers, hdistinct, hitem ▸ insertRoster_ordered item hstart.roster⟩
      exact hhanded.of_same rfl rfl
  | ageing order => exact h.of_frame (by simpa using h.recent) (ageingExpiry_addresses order) (ageingExpiry_roster order)
  | sent b => exact h.of_same (by simp) (by simp)
  | programmed => exact h.of_same (by simp) (by simp)
  | notProgrammed => exact h.of_same (by simp) (by simp)
  | hand readings closed => exact h.of_same (by simp) (by simp)
  | link t hl =>
    obtain ⟨-, -, -, -, -, -, -, -, -, -, -, hpeers, -⟩ := hl.frame
    exact h.of_frame (hl.recent ▸ h.recent) (addresses_congr hpeers) (by rw [hpeers])
  | panel t hp =>
    refine hp.keeps (P := State.ListLaw) (fun u v hbyte hu => ?_) h
    have hpeers : v.peers = u.peers := by
      obtain ⟨-, -, -, -, -, -, -, -, -, -, hpeers, -⟩ := hbyte.frame
      exact hpeers
    refine hu.of_frame ?_ (addresses_congr hpeers) (by rw [hpeers])
    cases hbyte with
    | panel p hrecent => exact (hrecent ▸ hu.recent :)
    | cue c p _ _ hrecent => exact (hrecent ▸ length_addRecent hu.recent c.number :)
    | clock r time p _ _ _ hrecent => exact (hrecent ▸ hu.recent :)

/-! ## The memory's canonical form (R98, log 19) -/

theorem interruptCommit_wf {s : State} (h : s.MemoryLaw) (m : MemorySupply) : (interruptCommit m s).MemoryLaw := by
  unfold interruptCommit State.MemoryLaw
  split
  · exact h
  · split
    · exact Memory.setCommit_wf (Memory.setPage_wf h _ _) none
    · exact Memory.setCommit_wf (Memory.setPage_wf h _ _) none
    · exact Memory.setCommit_wf (Memory.tearPage_wf h _) none

theorem memoryLaw_congr {s t : State} (h : s.MemoryLaw) (hmemory : t.memory = s.memory) : t.MemoryLaw := by
  rw [State.MemoryLaw, hmemory]
  exact h

theorem attemptFailed_memory (f : InFlight) (s : State) : (attemptFailed f s).memory = s.memory := by simp

/-- Every effect keeps the memory's image canonical. -/
theorem Effect.keeps_memoryLaw {s t : State} (heffect : Effect s t) (h : s.MemoryLaw) : t.MemoryLaw := by
  cases heffect with
  | idle => exact h
  | starts released m => exact memoryLaw_congr (interruptCommit_wf h _) rfl
  | resets condition => exact h
  | reads bytes _ => exact memoryLaw_congr h (by simp)
  | unreadable _ => exact h
  | page page _ =>
    cases page with
    | held => exact memoryLaw_congr h (by unfold pageRead deliver; simp)
    | written p =>
      refine memoryLaw_congr (s := s.setPage s.start.nextPage p.toList) (Memory.setPage_wf h _ _) ?_
      unfold pageRead deliver
      simp
  | pageLost _ => exact memoryLaw_congr h (by simp)
  | announces => exact memoryLaw_congr h (by simp)
  | opens frameFirst _ => exact memoryLaw_congr h (by simp)
  | period => exact memoryLaw_congr h (by simp)
  | inputs low high amp first _ => exact memoryLaw_congr h (by simp)
  | position idle data error _ => exact memoryLaw_congr h (by simp)
  | pulse => exact h
  | clock => exact memoryLaw_congr h (by simp)
  | intake b => exact memoryLaw_congr h (by simp)
  | ageing order => exact memoryLaw_congr h (by simp)
  | sent b =>
    unfold sendingEnd
    split
    · split
      · exact Memory.setCommit_wf h _
      · exact memoryLaw_congr h (attemptFailed_memory ..)
    · exact h
  | programmed =>
    unfold programmingDone
    split
    · exact memoryLaw_congr (Memory.setCommit_wf (Memory.setPage_wf h _ _) none) rfl
    · exact h
  | notProgrammed =>
    unfold programmingFailed
    split
    · exact memoryLaw_congr (Memory.setCommit_wf (Memory.tearPage_wf h _) none) (attemptFailed_memory ..)
    · exact h
  | hand readings closed => exact memoryLaw_congr h (by simp)
  | link t hl =>
    obtain ⟨-, -, -, -, -, -, -, -, hmemory, -⟩ := hl.frame
    exact memoryLaw_congr h hmemory
  | panel t hp =>
    obtain ⟨-, -, -, -, -, -, -, -, hmemory, -⟩ := hp.frame
    exact memoryLaw_congr h hmemory

end Sys2Proof.Machine

/-! What every step keeps, VIII: the write-back list and the writer, and the statement O60 assembled. -/
namespace Sys2Proof.Machine

/-! ## The table, the list and the record in flight (R97, R103, R104) -/

/-- The table's size, the write-back list's entries and the record in flight, whether or not the writer has to start. -/
structure PresetStore.Listed (t : PresetStore) : Prop where
  size : t.table.length = 64
  once : t.writeBack.Nodup
  known : ∀ i ∈ t.writeBack, i < 64
  attempts : ∀ f, t.inFlight = some f → f.index < 64 ∧ 1 ≤ f.attempt ∧ f.attempt ≤ 3
  waiting : ∀ i, i < 64 → ((t.entry i).save = .waiting ↔ i ∈ t.writeBack)

/-- The writer idles on an empty list alone. -/
structure PresetStore.Sound (t : PresetStore) : Prop where
  listed : t.Listed
  idle : t.inFlight = none → t.writeBack = []

theorem storeLaw_iff (s : State) : s.StoreLaw ↔
    s.presets.Sound ∧ (s.blend.move = .start → s.presets.writeBack = [] ∧ s.presets.inFlight = none) :=
  ⟨fun h => ⟨⟨⟨h.size, h.once, h.known, h.attempts, h.waiting⟩, h.idle⟩, h.start⟩,
    fun ⟨⟨hl, hi⟩, hs⟩ => ⟨hl.size, hl.once, hl.known, hi, hl.attempts, hl.waiting, hs⟩⟩

namespace PresetStore

variable {t : PresetStore}

theorem entry_setSave_same {i : Nat} (h : i < t.table.length) (v : SaveState) : ((t.setSave i v).entry i).save = v := by
  rw [setSave, entry_setEntry_same h]

theorem entry_setSave_ne {i j : Nat} (h : j ≠ i) (v : SaveState) : (t.setSave i v).entry j = t.entry j :=
  entry_setEntry_ne t h _

theorem length_setEntry (t : PresetStore) (i : Nat) (e : PresetEntry) : (t.setEntry i e).table.length = t.table.length :=
  List.length_set

/-- An attempt from the entry as it stands leaves table and list (R104, R107). -/
theorem Listed.attempt (h : t.Listed) {i n : Nat} (hi : i < 64) (hn : 1 ≤ n ∧ n ≤ 3) : (t.attempt i n).Listed :=
  ⟨h.size, h.once, h.known, fun f hf => by cases hf; exact ⟨hi, hn⟩, h.waiting⟩

/-- A writer that has to start leaves the writer idle on an empty list alone (R104). -/
theorem Listed.startWriter (h : t.Listed) : t.startWriter.Sound := by
  obtain hf | ⟨f, hf⟩ := Option.eq_none_or_eq_some t.inFlight
  · obtain hl | ⟨i, rest, hl⟩ : t.writeBack = [] ∨ ∃ i rest, t.writeBack = i :: rest := by cases t.writeBack <;> simp
    · have hstays : t.startWriter = t := by simp only [PresetStore.startWriter, hf, hl]
      rw [hstays]
      exact ⟨h, fun _ => hl⟩
    · have honce := h.once
      have hknown := h.known
      have hwaiting := h.waiting
      rw [hl] at honce hknown hwaiting
      obtain ⟨hnew, hrest⟩ := List.nodup_cons.1 honce
      have hi : i < 64 := hknown i (List.mem_cons_self ..)
      rw [startWriter_idle hf hl]
      refine ⟨⟨(length_setEntry _ _ _).trans h.size, hrest, fun j hj => hknown j (List.mem_cons_of_mem i hj),
        fun f hf => by cases hf; exact ⟨hi, Nat.le_refl 1, Nat.le_succ_of_le (Nat.le_succ 1)⟩, fun j hj => ?_⟩, fun hn => by cases hn⟩
      by_cases hji : j = i
      · subst hji
        have hsave : ((({ t with writeBack := rest }.setSave j .writing).attempt j 1).entry j).save = .writing :=
          entry_setSave_same (by simpa [h.size] using hj) _
        rw [hsave]
        exact ⟨fun hc => SaveState.noConfusion hc, fun hmem => absurd hmem hnew⟩
      · have hentry : (({ t with writeBack := rest }.setSave i .writing).attempt i 1).entry j = t.entry j :=
          entry_setSave_ne hji _
        rw [hentry, hwaiting j hj, List.mem_cons]
        exact ⟨fun hm => hm.resolve_left hji, .inr⟩
  · rw [startWriter_busy (by simp [hf])]
    exact ⟨h, fun hn => by simp [hf] at hn⟩

/-- A captured entry waits on the list (R101, R105). -/
theorem Listed.capture (h : t.Listed) {i : Nat} (hi : i < 64) (target : Int) (time : Timecode) (cue : CueId) :
    (t.capture i target time cue).Listed := by
  have hmem : ∀ j, j ∈ (t.capture i target time cue).writeBack ↔ j = i ∨ j ∈ t.writeBack := fun j => by
    rw [capture_writeBack]
    split <;> grind
  refine ⟨(capture_table_length ..).trans h.size, ?_, fun j hj => ?_, h.attempts, fun j hj => ?_⟩
  · rw [capture_writeBack]
    split
    · exact h.once
    · next hnew => exact List.nodup_append.2 ⟨h.once, by simp, fun a ha b hb hab => hnew (List.mem_singleton.1 hb ▸ hab ▸ ha)⟩
  · obtain rfl | hj := (hmem j).1 hj
    · exact hi
    · exact h.known j hj
  · rw [hmem]
    by_cases hji : j = i
    · subst hji
      rw [capture_entry_same target time cue (by rw [h.size]; exact hj)]
      simp
    · rw [capture_entry_ne target time cue hji, h.waiting j hj]
      simp [hji]

/-- The record in flight ends, its entry WAITING where it was re-stored meanwhile, and the writer goes on (R106, R107). -/
theorem Listed.finish (h : t.Listed) (f : InFlight) {v : SaveState} (hv : v ≠ .waiting) : (t.finish f v).Sound := by
  unfold PresetStore.finish
  dsimp only
  refine startWriter ⟨(length_setEntry _ _ _).trans h.size, h.once, h.known, (fun _ hf => by cases hf), fun j hj => ?_⟩
  refine Iff.trans ?_ (h.waiting j hj)
  by_cases hji : j = f.index
  · subst hji
    have hsave : ∀ w : SaveState, (({ t.setSave f.index w with inFlight := none } : PresetStore).entry f.index).save = w :=
      fun w => entry_setSave_same (by simpa [h.size] using hj) w
    rw [hsave, h.waiting _ hj]
    split <;> simp_all
  · have hentry : ∀ w : SaveState, ({ t.setSave f.index w with inFlight := none } : PresetStore).entry j = t.entry j :=
      fun w => entry_setSave_ne hji w
    rw [hentry]

/-- A loaded entry is SAVED; while START lasts no entry waits (R99). -/
theorem Listed.loaded (h : t.Listed) (hl : t.writeBack = []) (i : Nat) (body : PresetBody) :
    (t.setEntry i ⟨body, .saved⟩).Listed := by
  refine ⟨(length_setEntry _ _ _).trans h.size, h.once, h.known, h.attempts, fun j hj => ?_⟩
  have hnone := (not_congr (h.waiting j hj)).2 (by simp [hl])
  have hempty : (t.setEntry i ⟨body, .saved⟩).writeBack = [] := hl
  rw [hempty]
  by_cases hji : j = i
  · subst hji
    rw [entry_setEntry_same (by rwa [h.size])]
    simp
  · rw [entry_setEntry_ne t hji]
    simpa using hnone

end PresetStore

/-! ## The law of the writer (R97, R103, R104) -/

namespace State.StoreLaw

variable {s t : State}

theorem of_frame (h : s.StoreLaw) (hpresets : t.presets = s.presets) (hmove : t.blend.move = .start → s.blend.move = .start) :
    t.StoreLaw := by
  rw [storeLaw_iff] at h ⊢
  rw [hpresets]
  exact ⟨h.1, fun hm => h.2 (hmove hm)⟩

theorem of_blend (h : s.StoreLaw) (hpresets : t.presets = s.presets) (hblend : t.blend = s.blend) : t.StoreLaw :=
  h.of_frame hpresets (by rw [hblend]; exact id)

/-- The store at a start (R97). -/
theorem of_initial (h : s.presets = .initial) : s.StoreLaw := by
  have hentry : ∀ i, i < 64 → (PresetStore.initial.entry i).save = .saved := by decide
  refine (storeLaw_iff s).2 ?_
  rw [h]
  exact ⟨⟨⟨by decide, List.nodup_nil, by simp [PresetStore.initial], by simp [PresetStore.initial],
    fun i hi => by rw [hentry i hi]; simp [PresetStore.initial]⟩, fun _ => rfl⟩, fun _ => ⟨rfl, rfl⟩⟩

/-- The store of a station that is not in START. -/
theorem of_sound (h : t.presets.Sound) (hmove : t.blend.move ≠ .start) : t.StoreLaw :=
  (storeLaw_iff t).2 ⟨h, fun hm => absurd hm hmove⟩

theorem sound (h : s.StoreLaw) : s.presets.Sound := ((storeLaw_iff s).1 h).1

/-- The writer works outside START alone (R97). -/
theorem move_of_inFlight (h : s.StoreLaw) {f : InFlight} (hf : s.presets.inFlight = some f) : s.blend.move ≠ .start := fun hm => by
  simp [(h.start hm).2] at hf

theorem attemptFailed (h : s.StoreLaw) {f : InFlight} (hf : s.presets.inFlight = some f) {u : State}
    (hpresets : u.presets = s.presets) (hblend : u.blend = s.blend) : (attemptFailed f u).StoreLaw := by
  have hmove := h.move_of_inFlight hf
  obtain ⟨hindex, hfirst, -⟩ := h.attempts f hf
  unfold Machine.attemptFailed
  split
  · next hagain =>
    have hlast : f.attempt < 3 := hagain
    refine of_sound ⟨hpresets ▸ h.sound.listed.attempt hindex ⟨by omega, by omega⟩, fun hn => by cases hn⟩ ?_
    simpa [hblend] using hmove
  · exact of_sound (hpresets ▸ h.sound.listed.finish f (by simp)) (by simpa [hblend] using hmove)

theorem storeCue (h : s.StoreLaw) (cue : CueId) (i : Nat) : (storeCue cue i s).StoreLaw := by
  by_cases hmove : s.blend.move = .start ∨ s.blend.move = .fault
  · rw [storeCue_notReady cue i hmove]
    exact h.of_blend rfl rfl
  · obtain ⟨hstart, hfault⟩ := not_or.1 hmove
    obtain hi | hi := Nat.lt_or_ge i 64
    · rw [storeCue_taken cue hstart hfault hi]
      exact of_sound (h.sound.listed.capture hi _ _ _).startWriter hstart
    · rw [storeCue_invalidPreset cue hstart hfault hi]
      exact h.of_blend rfl rfl

theorem clearCue (h : s.StoreLaw) (cue : CueId) : (clearCue cue s).StoreLaw := by
  by_cases hfault : s.blend.move = .fault
  · by_cases haccept : s.drive.acceptsClear = true
    · rw [clearCue_accepted cue hfault haccept]
      exact h.of_frame (by simp) (by simp)
    · rw [clearCue_refused cue hfault (by simpa using haccept)]
      exact h.of_blend rfl rfl
  · rw [clearCue_elsewhere cue hfault]
    exact h.of_blend rfl rfl

/-- No firing enters START. -/
theorem fire (h : s.StoreLaw) (ax : AxisSettings) (f : Firing) : (fire ax f s).StoreLaw := by
  have hmove : ∀ {u : State}, u.presets = s.presets → (s.blend.move ≠ .start → u.blend.move ≠ .start) → u.StoreLaw :=
    fun hp hm => h.of_frame hp (Decidable.not_imp_not.1 hm)
  unfold Machine.fire
  split
  · exact hmove (by simp) fun hm => notStartLaw.goCue hm f
  · exact hmove (by simp) fun hm => by simpa [haltCue] using notStartLaw.haltMove hm
  · exact h.storeCue _ _
  · exact h.clearCue _
  · exact h.of_blend (by simp) (by simp)

end State.StoreLaw

theorem storeFiringLaw : FiringLaw State.StoreLaw where
  congr _ _ hframe h := by
    obtain ⟨-, -, hblend, -, -, hpresets⟩ := hframe
    exact h.of_blend hpresets hblend
  fires ax f _ _ h := h.fire ax f

/-- No period expiry enters START. -/
theorem periodExpiry_notStart {s : State} (h : s.blend.move ≠ .start) : (periodExpiry s).blend.move ≠ .start := by
  unfold periodExpiry
  split
  · exact h
  · split
    · next ax _ =>
      have hstages : (stagesToC ax s).blend.move ≠ .start := by simpa using h
      rw [axisPeriod, handOver_blend]
      simpa [handC] using notStartLaw.stageMove hstages
    · exact h

/-- No raised cause enters START. -/
theorem raise_notStart {s : State} (h : s.blend.move ≠ .start) (c : FaultCause) : (raise c s).blend.move ≠ .start := by
  obtain ⟨-, heq⟩ | ⟨-, heq⟩ | ⟨-, -, heq⟩ := raise_cases c s
  · rwa [heq]
  · rwa [heq]
  · simp [heq, faultEntry_blend]

theorem sampleInputs_notStart (low high amp : Bool) (first : InputLine) {s : State} (h : s.blend.move ≠ .start) :
    (sampleInputs low high amp first s).blend.move ≠ .start := by
  refine List.foldlRecOn (motive := fun t : State => t.blend.move ≠ .start) _ _ h fun t ht line _ => ?_
  rw [sampleInput_eq]
  split
  · exact raise_notStart (by simpa using ht) _
  · simpa using ht

theorem positionRead_notStart (idle : Bool) (data : BitVec 24) (error : Bool) {s : State} (h : s.blend.move ≠ .start) :
    (positionRead idle data error s).blend.move ≠ .start := by
  unfold positionRead
  split
  · unfold compareFollowing
    split
    · dsimp only
      generalize (if followingExceeded _ _ _ = true then _ else 0) = run
      split
      · exact raise_notStart (by simpa using h) _
      · simpa using h
    · simpa using h
  · dsimp only
    split
    · exact raise_notStart (by simpa using h) _
    · simpa using h

/-- Every effect keeps the law of the writer, beside the law of the start phases. -/
theorem Effect.keeps_storeLaw {s t : State} (heffect : Effect s t) (hstart : s.StartLaw) (h : s.StoreLaw) : t.StoreLaw := by
  have hstays : ∀ {u : State}, u.presets = s.presets → (s.blend.move ≠ .start → u.blend.move ≠ .start) → u.StoreLaw :=
    fun hp hm => h.of_frame hp (Decidable.not_imp_not.1 hm)
  have hloaded : ∀ (u : State) (body : PresetBody), s.start.phase = .loadingPresets → u.presets = s.presets →
      u.blend = s.blend → (loadEntry body u).StoreLaw := fun u body hphase hpresets hblend => by
    have hmove : s.blend.move = .start := hstart.running (by simp [hphase])
    obtain ⟨hlist, hflight⟩ := h.start hmove
    have hpresets' : (loadEntry body u).presets = u.presets.setEntry u.start.nextPage ⟨body, .saved⟩ := by
      unfold loadEntry
      dsimp only
      split <;> simp [openWindow]
    refine (storeLaw_iff _).2 ⟨?_, fun _ => ?_⟩
    · rw [hpresets', hpresets]
      exact ⟨h.sound.listed.loaded hlist _ _, fun _ => hlist⟩
    · rw [hpresets', hpresets]
      exact ⟨hlist, hflight⟩
  cases heffect with
  | idle => exact h
  | starts released m => exact .of_initial rfl
  | resets condition => exact h.of_blend rfl rfl
  | reads bytes hphase =>
    have hmove : s.blend.move = .start := hstart.running (by simp [hphase])
    exact h.of_frame (by simp) fun _ => hmove
  | unreadable _ => exact h.of_blend rfl rfl
  | page page hphase =>
    refine hloaded (deliver page s) _ hphase ?_ ?_ <;> cases page <;> simp [deliver]
  | pageLost hphase => exact hloaded s _ hphase rfl rfl
  | announces => exact h.of_blend (by simp) (by simp)
  | opens frameFirst hphase =>
    have hmove : s.blend.move = .start := hstart.running (by simp [hphase])
    exact h.of_frame (by simp) fun _ => hmove
  | period => exact hstays (by simp) periodExpiry_notStart
  | inputs low high amp first _ => exact hstays (by simp) (sampleInputs_notStart low high amp first)
  | position idle data error _ => exact hstays (by simp) (positionRead_notStart idle data error)
  | pulse => exact h.of_blend rfl rfl
  | clock => exact storeFiringLaw.clockExpiry h
  | intake b => exact storeFiringLaw.takeOldest b h
  | ageing order => exact storeFiringLaw.ageing order h
  | sent b =>
    unfold sendingEnd
    split
    · next i n page hf =>
      split
      · obtain ⟨hindex, hattempt⟩ := h.attempts _ hf
        have hlisted := h.sound.listed
        refine .of_sound ⟨⟨hlisted.size, hlisted.once, hlisted.known, fun g hg => ?_, hlisted.waiting⟩, fun hn => by cases hn⟩
          (h.move_of_inFlight hf)
        cases hg
        exact ⟨hindex, hattempt⟩
      · exact h.attemptFailed hf rfl rfl
    · exact h
  | programmed =>
    unfold programmingDone
    split
    · next hf => exact .of_sound (h.sound.listed.finish _ (by simp)) (h.move_of_inFlight hf)
    · exact h
  | notProgrammed =>
    unfold programmingFailed
    split
    · next hf => exact h.attemptFailed hf (by simp) (by simp)
    · exact h
  | hand readings closed => exact h.of_blend (by simp) (by simp)
  | link t hl =>
    obtain ⟨-, -, -, hblend, -, -, -, hpresets, -⟩ := hl.frame
    exact h.of_blend hpresets hblend
  | panel t hp =>
    obtain ⟨-, -, -, hblend, -, -, -, hpresets, -⟩ := hp.frame
    exact h.of_blend hpresets hblend

/-! ## The statement O60 -/

/-- What every effect keeps beside the law of the start phases, and what does not read the queue, every step keeps. -/
theorem step_keeps_started {Q : State → Prop} (hqueue : ∀ s q, Q s → Q (s.withPending q))
    (heffect : ∀ s t, Effect s t → s.StartLaw → Q s → Q t) {s t : State} (h : step s = .next t) (hstart : s.StartLaw)
    (hs : Q s) : Q t :=
  (step_keeps (P := fun u => u.StartLaw ∧ Q u) (fun u q hu => ⟨hu.1.of_frame rfl rfl id, hqueue u q hu.2⟩)
    (fun u v he hu => ⟨he.keeps_startLaw hu.1, heffect u v he hu.1 hu.2⟩) h ⟨hstart, hs⟩).2

/-- Settles O60. -/
theorem everyStepKeepsListsAndMemory : Obligations.EveryStepKeepsListsAndMemory := by
  intro s t hstep hstart
  refine ⟨fun h => ?_, step_keeps (fun u q hu => hu.of_same rfl rfl) (fun u v he hu => he.keeps_listLaw hu) hstep,
    step_keeps_started (fun u q hu => hu.of_blend rfl rfl) (fun u v he hs hu => he.keeps_storeLaw hs hu) hstep hstart,
    step_keeps (fun u q hu => hu) (fun u v he hu => he.keeps_memoryLaw hu) hstep⟩
  rw [linkLaw_iff] at h ⊢
  exact step_keeps (P := fun u => u.link.Sound) (fun u q hu => hu) (fun u v he hu => he.keeps_sound hu) hstep h

end Sys2Proof.Machine

/-! The Scene Clock's expiry and the take of a cue (spec/07_scene_clock_and_armed_cues.md), with the statements O40 and O41
assembled from them. -/
namespace Sys2Proof.Machine

/-! ## The expiry of the clock's timer (R112, R121) -/

theorem exec_sceneClockExpiry {s : State} (hrun : s.resetHold = none) : exec .sceneClockExpiry s = .next (clockExpiry s) :=
  whenRunning_running hrun _

/-- FRAME_ADVANCE is the expiry that advances the frame (R121, log 3). -/
theorem exec_frameAdvance {s : State} {r : Record} (hrun : s.resetHold = none) (hr : s.record = some r)
    (h : 1000 ≤ s.clock.acc + r.fps) : exec .frameAdvance s = .next (clockExpiry s) :=
  whenDue_due hrun (by simp [State.advanceDue, hr, SceneClock.advances, h]) _

theorem tick_within {fps : Nat} {c : SceneClock} (h : c.acc + fps < 1000) : c.tick fps = { c with acc := c.acc + fps } :=
  if_pos h

theorem tick_advances {fps : Nat} {c : SceneClock} (h : 1000 ≤ c.acc + fps) :
    c.tick fps = { c with acc := c.acc + fps - 1000, time := nextFrame fps c.time } := if_neg (Nat.not_lt.2 h)

theorem clockExpiry_within {s : State} {r : Record} (hr : s.record = some r) (h : s.clock.acc + r.fps < 1000) :
    clockExpiry s = s.withClock { s.clock with acc := s.clock.acc + r.fps } := by
  have hstays : s.clock.advances r.fps = false := by simpa [SceneClock.advances] using h
  simp only [clockExpiry, hr, tick_within h, hstays, Bool.false_eq_true, if_false]

theorem clockExpiry_alone {s : State} {r : Record} (hr : s.record = some r) (h : 1000 ≤ s.clock.acc + r.fps)
    (hax : s.axis? = none) : clockExpiry s = s.withClock (s.clock.tick r.fps) := by
  have hadvances : s.clock.advances r.fps = true := by simpa [SceneClock.advances] using h
  simp only [clockExpiry, hr, hadvances, if_true, fireDue, State.withClock_axis_settings, hax]

/-- In axis role a frame advance fires what is due, in list order (R121). -/
theorem clockExpiry_firesInOrder {s : State} {r : Record} {ax : AxisSettings} (hr : s.record = some r)
    (h : 1000 ≤ s.clock.acc + r.fps) (hax : s.axis? = some ax) :
    FiresInOrder ax (fun e => frameNumber r.fps e.start = frameNumber r.fps (s.clock.tick r.fps).time) (fun _ => false)
      (s.withClock (s.clock.tick r.fps)) (clockExpiry s) := by
  have hadvances : s.clock.advances r.fps = true := by simpa [SceneClock.advances] using h
  simp only [clockExpiry, hr, hadvances, if_true, fireDue, State.withClock_axis_settings, hax]
  exact fireAll_firesInOrder (fun e => by simp) _

/-! ## The first of the firings (R121) -/

section FiresInOrder

variable {ax : AxisSettings} {due : ArmedCue → Prop} {s t : State}

theorem FiresInOrder.eq_of_none {late : ArmedCue → Bool} (h : FiresInOrder ax due late s t)
    (hnone : ∀ e ∈ s.sched.armed, ¬due e) : t = s := by
  cases h with
  | done _ _ => rfl
  | next _ _ before e after harmed _ hdue _ => exact absurd hdue (hnone e (by simp [harmed]))

/-- A head of the list that is due fires first. -/
theorem FiresInOrder.head (h : FiresInOrder ax due (fun _ => false) s t) {e : ArmedCue} {rest : List ArmedCue}
    (harmed : s.sched.armed = e :: rest) (hdue : due e) :
    FiresInOrder ax due (fun _ => false) (fire ax ⟨e.cue, e.kind, e.preset, e.duration, e.fade, false⟩
      (s.withSched { s.sched with armed := rest })) t := by
  cases h with
  | done _ hnone => exact absurd hdue (hnone e (by simp [harmed]))
  | next _ _ before x after hsplit hbefore _ hnext =>
    cases before with
    | nil =>
      obtain ⟨rfl, rfl⟩ : e = x ∧ rest = after := by simpa using harmed.symm.trans hsplit
      exact hnext
    | cons y before =>
      have hy : e = y := by
        rw [harmed, List.cons_append] at hsplit
        exact (List.cons.inj hsplit).1
      exact absurd (hy ▸ hdue) (hbefore y (List.mem_cons_self ..))

end FiresInOrder

/-- Settles O40: the expiry within a frame and at its end, with no firing, one, several, and a HALT first. -/
theorem clockCountsFramesAndFires : Obligations.ClockCountsFramesAndFires := by
  intro s r hrun hr hgood hclock c
  obtain ⟨hff, hss, hmm, hhh⟩ := hclock.fields r hr
  have hrange : s.clock.time.inRange r.fps = true := (timecode_inRange_iff _ _).2 ⟨by omega, by omega, by omega, hff⟩
  have hfps : 0 < r.fps := by have := hgood.fps; omega
  refine ⟨fun hwithin => by rw [exec_sceneClockExpiry hrun, clockExpiry_within hr hwithin], fun hadvances => ?_⟩
  have hc : c = { s.clock with acc := s.clock.acc + r.fps - 1000, time := nextFrame r.fps s.clock.time } :=
    tick_advances hadvances
  obtain ⟨hnextRange, hnextFrame⟩ := nextFrame_inRange hfps hrange
  have hfires := fun ax (hax : s.axis? = some ax) => clockExpiry_firesInOrder hr hadvances hax
  rw [exec_frameAdvance hrun hr hadvances, exec_sceneClockExpiry hrun]
  refine ⟨by rw [hc], by rw [hc], by rw [hc]; exact hnextRange, by rw [hc]; exact hnextFrame, rfl, fun hnone => ?_,
    fun hax => by rw [clockExpiry_alone hr hadvances hax], fun ax hax => ?_, fun ax e rest hax harmed hkind hdue => ?_,
    fun ax e rest hax harmed hdue hrest => ?_⟩
  · obtain hax | ⟨ax, hax⟩ := Option.eq_none_or_eq_some s.axis?
    · rw [clockExpiry_alone hr hadvances hax]
    · rw [(hfires ax hax).eq_of_none hnone]
  · obtain ⟨hsub, hleft, -, -⟩ := (hfires ax hax).leaves
    exact ⟨_, rfl, hfires ax hax, hsub, hleft⟩
  · have hhead := (hfires ax hax).head harmed hdue
    rw [fire_halt ax hkind] at hhead
    have hend := hhead.eq_of_none (by simp)
    refine ⟨_, rfl, ?_, ?_⟩
    · rw [hend, haltCue_sched]
    · rw [hend, haltCue_stick]
  · have hhead := (hfires ax hax).head harmed hdue
    have hend := hhead.eq_of_none fun x hx => hrest x ((fire_armed ax _ _).subset hx)
    rw [hend]
    rfl

/-! ## A CUE frame at the Intake (R117 to R120, R128) -/

theorem exec_intakeTake {s : State} (hrun : s.resetHold = none) (clockFirst : Bool) :
    exec (.intakeTake clockFirst) s = .next (takeOldest clockFirst s) := whenRunning_running hrun _

theorem takeOldest_some {s : State} {rec : RingRecord} {rest : List RingRecord} (h : s.link.ring = rec :: rest)
    (clockFirst : Bool) : takeOldest clockFirst s =
      (handOn clockFirst rec ((s.withLink { s.link with ring := rest }).withIntake (some rec))).withIntake none := by
  simp only [takeOldest, h]

theorem cueWindow_iff (last : Option Nat) (n : Nat) : cueWindow last n = true ↔ ∀ l, last = some l → newer l n := by
  cases last with
  | none => simp [cueWindow]
  | some l =>
    simp only [cueWindow, newer, Bool.and_eq_true, decide_eq_true_eq, Option.some.injEq, forall_eq']
    omega

theorem cueKindOf_eq_none_iff (n : Nat) : cueKindOf n = none ↔ 4 < n := by
  unfold cueKindOf
  split
  case h_6 h0 h1 h2 h3 h4 =>
    have : n ≠ 0 ∧ n ≠ 1 ∧ n ≠ 2 ∧ n ≠ 3 ∧ n ≠ 4 := ⟨h0, h1, h2, h3, h4⟩
    simp only [true_iff]
    omega
  all_goals simp

theorem handOn_cue {s : State} {rec : RingRecord} {r : Record} (hr : s.record = some r) (hkind : rec.kind = .cue)
    (clockFirst : Bool) : handOn clockFirst rec s =
      match s.axis? with
      | none => s
      | some ax => takeCue r ax rec.source (readCueContents rec.payload) s := by
  obtain hax | ⟨ax, hax⟩ := Option.eq_none_or_eq_some s.axis? <;>
    simp only [handOn, hr, hkind, hax, Option.isNone_some, Bool.false_eq_true, if_false, takeCueFrame]

section TakeCue

variable {s : State} {r : Record} {ax : AxisSettings} {source : Nat} {c : CueContents}

/-- A CUE frame that is not for this station, or is not new, changes nothing (R117). -/
theorem takeCue_ignored (h : c.scope.getLsbD r.address = false ∨ 4 < c.kind ∨ s.peers.find source = none ∨
    ∃ e l, s.peers.find source = some e ∧ e.lastCue = some l ∧ ¬newer l c.number) : takeCue r ax source c s = s := by
  unfold takeCue
  split
  · next kind e hscope hkind hfind =>
    refine if_neg fun hwindow => ?_
    obtain h | h | h | ⟨e', l, hfind', hlast, hold⟩ := h
    · simp [hscope] at h
    · simp [(cueKindOf_eq_none_iff _).2 h] at hkind
    · simp [h] at hfind
    · rw [hfind] at hfind'
      cases hfind'
      exact hold ((cueWindow_iff _ _).1 hwindow l hlast)
  · rfl

/-- A CUE frame taken: noted, and fired at once or scheduled (R117, R118). -/
theorem takeCue_taken {e : PeerEntry} {kind : CueKind} (hscope : c.scope.getLsbD r.address = true)
    (hkind : cueKindOf c.kind = some kind) (hfind : s.peers.find source = some e)
    (hnew : ∀ l, e.lastCue = some l → newer l c.number) :
    takeCue r ax source c s =
      if c.timed = 0 then fire ax ⟨⟨source, c.number⟩, kind, c.preset, c.duration, c.fade, false⟩
        (noteTaken e ⟨source, c.number⟩ s)
      else scheduleCue ax r.fps ⟨⟨source, c.number⟩, kind, c.preset, c.duration, c.fade, c.start⟩
        (noteTaken e ⟨source, c.number⟩ s) := by
  simp only [takeCue, hscope, hkind, hfind, (cueWindow_iff _ _).2 hnew, if_true]
  rfl

end TakeCue

section ScheduleCue

variable {ax : AxisSettings} {fps : Nat} {e : ArmedCue} {u : State}

theorem scheduleCue_outOfRange (h : e.start.inRange fps = false) : scheduleCue ax fps e u = post e.cue .refused .tooFar u := by
  simp [scheduleCue, h]

theorem scheduleCue_unsynced (h : e.start.inRange fps = true) (hsynced : u.clock.synced = false) :
    scheduleCue ax fps e u = post e.cue .refused .unsynced u := by
  simp [scheduleCue, h, hsynced]

/-- A start time in range, on a synced clock, is taken by its distance (R119). -/
theorem scheduleCue_synced (h : e.start.inRange fps = true) (hsynced : u.clock.synced = true) :
    scheduleCue ax fps e u =
      if dayDistance fps (frameNumber fps e.start) (frameNumber fps u.clock.time) = 0 then fireMarked ax (e.firing false) u
      else if dayDistance fps (frameNumber fps u.clock.time) (frameNumber fps e.start) ≤ 2 then fireMarked ax (e.firing true) u
      else if dayDistance fps (frameNumber fps e.start) (frameNumber fps u.clock.time) ≤ 3600 * fps then
        armCue fps (frameNumber fps u.clock.time) e u
      else if dayDistance fps (frameNumber fps e.start) (frameNumber fps u.clock.time) ≤ 43200 * fps then
        post e.cue .refused .tooFar u
      else setFlag .missed (post e.cue .missed .none u) := by
  simp [scheduleCue, h, hsynced]

end ScheduleCue

/-- Forward and backward distances of two frames add up to a day (R111). -/
theorem dayDistance_add {fps : Nat} (hfps : 0 < fps) {a b : Nat} (h : dayDistance fps a b ≠ 0) :
    dayDistance fps a b + dayDistance fps b a = dayFrames fps := by
  have hday := dayFrames_pos hfps
  unfold dayDistance at *
  generalize dayFrames fps = day at *
  have hpos := Int.emod_nonneg ((a : Int) - b) (show (day : Int) ≠ 0 by omega)
  have hlt := Int.emod_lt_of_pos ((a : Int) - b) (show (0 : Int) < day by omega)
  have hback : ((b : Int) - a) % day = day - ((a : Int) - b) % day := by
    rw [← Int.neg_sub (a : Int) b, Int.neg_emod, if_neg (fun hdvd => h ?_), Int.natAbs_natCast]
    rw [Int.emod_eq_zero_of_dvd hdvd]
    rfl
  rw [hback]
  omega

/-- Settles O41: the conditions under which a CUE frame is taken, and every class of its start time. -/
theorem cuesAreTakenOnce : Obligations.CuesAreTakenOnce := by
  intro s r rec rest clockFirst hrun hr hgood hring hkind c base
  have hexec : exec (.intakeTake clockFirst) s = .next ((match s.axis? with
      | none => base
      | some ax => takeCue r ax rec.source c base).withIntake none) := by
    rw [exec_intakeTake hrun, takeOldest_some hring, handOn_cue (s := base) hr hkind]
    rfl
  constructor
  · intro hignored
    rw [hexec]
    obtain hax | ⟨ax, hax⟩ := Option.eq_none_or_eq_some s.axis?
    · simp only [hax]
    · simp only [hax]
      rw [takeCue_ignored (s := base) (hignored.resolve_left (by simp [hax]))]
  intro ax e kind hax hscope hcue hfind hnew cue kept taken fired reported ends
  have hfps : 0 < r.fps := by have := hgood.fps; omega
  have hnoted : noteTaken e cue.cue base = taken := by
    have hkept : ∀ x : ArmedCue, (x.cue != cue.cue) = decide (x.cue ≠ cue.cue) := fun x => by
      rw [Bool.eq_iff_iff, bne_iff_ne, decide_eq_true_eq]
    simp only [noteTaken, hkept]
    rfl
  have htaken := takeCue_taken (s := base) (r := r) (ax := ax) (c := c) hscope hcue hfind hnew
  rw [show noteTaken e _ base = taken from hnoted] at htaken
  have hends : ∀ u, takeCue r ax rec.source c base = u → ends u := fun u hu => by
    show exec _ s = _
    rw [hexec]
    simp only [hax, hu]
  have hscheduled : ∀ u, c.timed ≠ 0 → scheduleCue ax r.fps cue taken = u → ends u := fun u htimed hu =>
    hends u (by rw [htaken, if_neg htimed, hu])
  have hsynced : taken.clock.synced = s.clock.synced := rfl
  refine ⟨fun htimed => hends _ (by rw [htaken, if_pos htimed]),
    fun htimed hrange => hscheduled _ htimed (scheduleCue_outOfRange hrange),
    fun htimed hrange hnot => hscheduled _ htimed (scheduleCue_unsynced hrange hnot), ?_⟩
  intro htimed hrange hsync now ahead behind
  have hclasses := scheduleCue_synced (ax := ax) (u := taken) (e := cue) hrange hsync
  rw [show dayDistance r.fps (frameNumber r.fps cue.start) (frameNumber r.fps taken.clock.time) = ahead from rfl,
    show dayDistance r.fps (frameNumber r.fps taken.clock.time) (frameNumber r.fps cue.start) = behind from rfl] at hclasses
  have hdayPos : 86400 * r.fps = dayFrames r.fps := rfl
  have hadd : ahead ≠ 0 → ahead + behind = dayFrames r.fps := dayDistance_add hfps
  have hzero : behind ≠ 0 → behind + ahead = dayFrames r.fps := dayDistance_add hfps
  refine ⟨fun h0 => hscheduled _ htimed ?_, fun hbehind => hscheduled _ htimed ?_, fun h1 hle => ⟨fun hfull => hscheduled _ htimed ?_,
    fun hroom => ?_⟩, fun hgt hle => hscheduled _ htimed ?_, fun hgt hbehind => hscheduled _ htimed ?_⟩
  · rw [hclasses, if_pos h0]
    rfl
  · rw [hclasses, if_neg (by omega), if_pos (by omega)]
    rfl
  · rw [hclasses, if_neg (by omega), if_neg (by omega), if_pos hle]
    exact if_pos hfull
  · obtain ⟨before, after, hsplit, hinsert, hbefore, hafter⟩ := insertArmed_split r.fps now cue kept
    refine ⟨before, after, hsplit, hscheduled _ htimed ?_, hbefore, hafter⟩
    rw [hclasses, if_neg (by omega), if_neg (by omega), if_pos hle, ← hinsert]
    exact if_neg (Nat.not_le.2 hroom)
  · rw [hclasses, if_neg (by omega), if_neg (by omega), if_neg (by omega), if_pos hle]
    rfl
  · rw [hclasses, if_neg (by omega), if_neg (by omega), if_neg (by omega), if_neg (by omega)]
    rfl

end Sys2Proof.Machine

/-! The Intake and the Peer Table (spec/08_intake_and_the_peer_table.md): the entries of the table, what an acceptance, a
stamp, and a change of freshness hand on, and the statement O42 assembled from them. -/
namespace Sys2Proof.Machine

/-! ## The entries (R130) -/

namespace PeerTable

variable {p : PeerTable} {a : Nat} {e x : PeerEntry}

theorem find_address (h : p.find a = some e) : e.address = a := by simpa using List.find?_some h

theorem find_mem (h : p.find a = some e) : e ∈ p.entries := List.mem_of_find?_eq_some h

theorem find_put_same (h : p.find a = some x) (ha : e.address = a) : (p.put e).find a = some e := by
  have hcomp : (fun y : PeerEntry => (if (y.address == e.address) = true then e else y).address == a) =
      fun y => y.address == a := funext fun y => by grind
  unfold find put at *
  rw [List.find?_map]
  simp only [Function.comp_def, hcomp, h, Option.map_some]
  have hx : x.address = a := by simpa using List.find?_some h
  simp [hx, ha]

theorem find_put_ne (ha : a ≠ e.address) : (p.put e).find a = p.find a := by
  have hcomp : (fun y : PeerEntry => (if (y.address == e.address) = true then e else y).address == a) =
      fun y => y.address == a := funext fun y => by grind
  unfold find put
  rw [List.find?_map]
  simp only [Function.comp_def, hcomp]
  obtain h | ⟨x, h⟩ := Option.eq_none_or_eq_some (p.entries.find? fun y => y.address == a)
  · simp [h]
  · have hx : x.address = a := by simpa using List.find?_some h
    simp [h, hx, ha]

end PeerTable

/-! ## An acceptance handed on (R8, R12, R48, R133) -/

theorem stickEvent_stick (ax : AxisSettings) (address : Nat) (s : State) :
    (stickEvent ax address s).stick = if ax.maps address
      then ⟨jogDemand ax s.peers, s.stick.latch && decide (jogDemand ax s.peers ≠ 0)⟩ else s.stick := by
  have hlatch : (jogDemand ax s.peers != 0) = decide (jogDemand ax s.peers ≠ 0) := by
      rw [Bool.eq_iff_iff, bne_iff_ne, decide_eq_true_eq]
  unfold stickEvent
  split
  · simp [recompute, hlatch]
  · rfl

theorem couplingAccepted_congr (ax : AxisSettings) (e : PeerEntry) {s t : State} (h : t.coupling = s.coupling) :
    (couplingAccepted ax e t).coupling = (couplingAccepted ax e s).coupling := by
  obtain hp | ⟨p, hp⟩ := Option.eq_none_or_eq_some e.state?
  · rw [couplingAccepted_of_none hp, couplingAccepted_of_none hp, h]
  · rw [couplingAccepted_of_state hp, couplingAccepted_of_state hp, h]

theorem handAcceptance_none {s : State} (h : s.axis? = none) (e : PeerEntry) : handAcceptance e s = s := by
  simp only [handAcceptance, h]

theorem handAcceptance_heard {s : State} {ax : AxisSettings} (h : s.axis? = some ax) (e : PeerEntry) :
    AcceptanceHeard ax e s (handAcceptance e s) := by
  have hhanded : handAcceptance e s = couplingAccepted ax e (stickEvent ax e.address s) := by simp only [handAcceptance, h]
  rw [hhanded]
  refine ⟨?_, couplingAccepted_congr ax e (by simp), ?_⟩
  · rw [← stickEvent_stick]
    simp
  · apply State.ext <;> simp

/-! ## A stamp handed on (R113, R133) -/

theorem positionDistance_eq (fps : Nat) (st : Stamp) (c : SceneClock) (hfps : 0 < fps) :
    ((positionDistance fps (positionOf fps st.time st.acc) (positionOf fps c.time c.acc) : Nat) : Int) =
      stampDistance fps st c := by
  have hday : ((dayFrames fps : Int) * 1000) = 86400000 * fps := by
    unfold dayFrames
    omega
  have hmin : ∀ a b : Nat, ((min a b : Nat) : Int) = min (a : Int) b := fun a b => by omega
  have hposition : ∀ (t : Timecode) (acc : Nat), ((positionOf fps t acc : Nat) : Int) = frameNumber fps t * 1000 + acc :=
    fun t acc => by
      unfold positionOf
      omega
  unfold positionDistance stampDistance
  dsimp only
  rw [hmin, hday, Int.toNat_of_nonneg (Int.emod_nonneg _ (by omega)), Int.toNat_of_nonneg (Int.emod_nonneg _ (by omega)),
    hposition, hposition]

/-- What the Scene Clock makes of an accepted entry's stamp (R113, R114). -/
theorem handStamp_heard {s : State} {r : Record} (hr : s.record = some r) (e : PeerEntry) :
    StampHeard r e s (handStamp e s) := by
  have hsource : s.clockSourceIs e.address = (r.clockSource == some e.address) := by simp [State.clockSourceIs, hr]
  have hhanded : ∀ st, r.clockSource = some e.address → e.stamp = some st → handStamp e s = compareStamp r.fps st s :=
    fun st hclock hst => by simp [handStamp, hsource, hclock, hst, State.fps, hr]
  have hcompare : ∀ st, r.clockSource = some e.address → e.stamp = some st → st.time.inRange r.fps = true → st.acc ≤ 999 →
      handStamp e s = if stampDistance r.fps st s.clock ≤ 2 * r.fps then s.withClock { s.clock with synced := true }
        else loadClock r.fps st (s.withClock { s.clock with synced := true }) := fun st hclock hst hrange hacc => by
    have hin : st.inRange r.fps = true := by simp [Stamp.inRange, hrange, hacc]
    have hfps : 0 < r.fps := by
      obtain ⟨-, -, -, hff⟩ := (timecode_inRange_iff _ _).1 hrange
      omega
    rw [hhanded st hclock hst, compareStamp, if_pos hin, ← positionDistance_eq _ _ _ hfps]
    dsimp only
    norm_cast
  refine ⟨fun hforeign => ?_, fun st hclock hst hout => ?_, fun st hclock hst hrange hacc hnear => ?_,
    fun st hclock hst hrange hacc hfar hax => ?_, fun st ax hclock hst hrange hacc hfar hax => ?_⟩
  · have hnot : s.clockSourceIs e.address = false := by simpa [hsource] using hforeign
    simp only [handStamp, hnot]
  · rw [hhanded st hclock hst, compareStamp, if_neg]
    simpa [Stamp.inRange] using hout
  · rw [hcompare st hclock hst hrange hacc, if_pos hnear]
  · rw [hcompare st hclock hst hrange hacc, if_neg (by omega)]
    exact loadClock_of_no_axis (s := s.withClock { s.clock with synced := true }) hax r.fps st
  · rw [hcompare st hclock hst hrange hacc, if_neg (by omega)]
    exact loadClock_jumpTaken (s := s.withClock { s.clock with synced := true }) hax r.fps st

/-! ## A change of freshness handed on (R51 to R53, R58, R139) -/

/-- The Stick Shaper's and the Coupling Unit's part of a change of freshness. -/
def hearChange (ax : AxisSettings) (e : PeerEntry) (s : State) : State :=
  couplingChanged ax e (if e.kind = .stick then stickEvent ax e.address s else s)

theorem handChange_axis {s : State} {ax : AxisSettings} (h : s.axis? = some ax) (e : PeerEntry) :
    handChange e s = clockChanged e (hearChange ax e s) := by simp only [handChange, h, hearChange]

theorem handChange_none {s : State} (h : s.axis? = none) (e : PeerEntry) : handChange e s = clockChanged e s := by
  simp only [handChange, h]

/-- A guard partner's event sets the guard's own three items and leaves the rest of the Coupling Unit. -/
theorem CouplingUnit.guardEvent_frame (ax : AxisSettings) (e : PeerEntry) (c : CouplingUnit) :
    ∃ mode lhi, c.guardEvent ax e = { c with guardCondition := some e.freshness, guardMode := mode, lhiEff := lhi } := by
  unfold CouplingUnit.guardEvent
  split <;> exact ⟨_, _, rfl⟩

theorem hearChange_heard (ax : AxisSettings) (e : PeerEntry) (s : State) : ChangeHeard ax e s (hearChange ax e s) := by
  have hstick : (hearChange ax e s).stick = (if e.kind = .stick then stickEvent ax e.address s else s).stick := by
    simp [hearChange]
  have hcoupling : (hearChange ax e s).coupling =
      let c := if ax.follow = some e.address then { s.coupling with followCondition := some e.freshness } else s.coupling
      if ax.guard = some e.address then c.guardEvent ax e else c := by
    have hu : (if e.kind = .stick then stickEvent ax e.address s else s).coupling = s.coupling := by split <;> simp
    simp only [hearChange, couplingChanged, State.withCoupling_coupling, hu]
  refine ⟨?_, ?_, ?_, fun hg => ?_, fun hg => ?_, fun hg hsafe => ?_, fun p hg hfresh hp => ?_, ?_⟩
  · rw [hstick]
    by_cases hk : e.kind = .stick
    · simp [hk, stickEvent_stick]
    · simp [hk]
  · rw [hcoupling]
    obtain ⟨mode, lhi, hguard⟩ := CouplingUnit.guardEvent_frame ax e
      (if ax.follow = some e.address then { s.coupling with followCondition := some e.freshness } else s.coupling)
    simp only [hguard]
    split <;> split <;> exact ⟨rfl, rfl, rfl⟩
  · rw [hcoupling]
    obtain ⟨mode, lhi, hguard⟩ := CouplingUnit.guardEvent_frame ax e
      (if ax.follow = some e.address then { s.coupling with followCondition := some e.freshness } else s.coupling)
    simp only [hguard]
    split <;> split <;> rfl
  · rw [hcoupling]
    simp only [hg, if_false]
    split <;> exact ⟨rfl, rfl, rfl⟩
  · rw [hcoupling]
    simp only [hg, if_true, CouplingUnit.guardEvent]
    split <;> rfl
  · rw [hcoupling]
    simp only [hg, if_true, CouplingUnit.guardEvent_safe hsafe]
    exact ⟨trivial, rfl⟩
  · rw [hcoupling]
    simp only [hg, if_true, CouplingUnit.guardEvent_inForce hfresh hp, ← guardLimit_eq]
    exact ⟨trivial, trivial⟩
  · unfold hearChange
    split <;> apply State.ext <;> simp

/-- What a change does to Stick Shaper and Coupling Unit reads those and the Peer Table alone. -/
theorem hearChange_congr (ax : AxisSettings) (e : PeerEntry) {s t : State} (hstick : t.stick = s.stick)
    (hcoupling : t.coupling = s.coupling) (hpeers : t.peers = s.peers) :
    (hearChange ax e t).stick = (hearChange ax e s).stick ∧ (hearChange ax e t).coupling = (hearChange ax e s).coupling := by
  have hheard : ∀ u : State, (if e.kind = .stick then stickEvent ax e.address u else u).coupling = u.coupling := fun u => by
    split <;> simp
  simp only [hearChange, couplingChanged, State.withCoupling_coupling, State.withCoupling_stick, hheard, hcoupling, and_true]
  split <;> simp [stickEvent_stick, hstick, hpeers]

/-! ## Sequence acceptance and the roster (R132, R137) -/

theorem PeerEntry.accepts_iff (e : PeerEntry) (seq : Nat) : e.accepts seq = true ↔
    e.freshness = .silent ∨ e.freshness = .stale ∨ ∀ l, e.lastSequence = some l → newer l seq := by
  unfold PeerEntry.accepts newer
  cases hl : e.lastSequence with
  | none => simp
  | some l =>
    cases hf : e.freshness <;> simp
    all_goals omega

/-- A roster in address order holds, after an item is written, that item and the others of other addresses (R137). -/
theorem mem_insertRoster {item : RosterItem} {l : List RosterItem} (h : (l.map RosterItem.address).Pairwise (· < ·))
    (i : RosterItem) : i ∈ insertRoster item l ↔ i = item ∨ (i ∈ l ∧ i.address ≠ item.address) := by
  induction l with
  | nil => simp [insertRoster]
  | cons x rest ih =>
    obtain ⟨hhead, hrest⟩ := List.pairwise_cons.1 (List.map_cons ▸ h)
    have habove : ∀ y ∈ rest, x.address < y.address := fun y hy => hhead _ (List.mem_map_of_mem hy)
    unfold insertRoster
    split
    · next hlt =>
      have hother : ∀ y ∈ x :: rest, y.address ≠ item.address := fun y hy => by
        obtain rfl | hy := List.mem_cons.1 hy
        · omega
        · have := habove y hy
          omega
      rw [List.mem_cons]
      exact or_congr_right ⟨fun hi => ⟨hi, hother i hi⟩, fun hi => hi.1⟩
    · split
      · next heq =>
        rw [List.mem_cons, List.mem_cons]
        refine or_congr_right ⟨fun hi => ⟨.inr hi, ?_⟩, fun ⟨hi, hne⟩ => hi.resolve_left fun hix => hne (by rw [hix, heq])⟩
        have := habove i hi
        omega
      · next hne =>
        rw [List.mem_cons, ih hrest, List.mem_cons]
        have hx : i = x → i.address ≠ item.address := fun hix => by rw [hix]; omega
        constructor
        · rintro (hix | hitem | ⟨hi, hother⟩)
          · exact .inr ⟨.inl hix, hx hix⟩
          · exact .inl hitem
          · exact .inr ⟨.inr hi, hother⟩
        · rintro (hitem | ⟨hix | hi, hother⟩)
          · exact .inr (.inl hitem)
          · exact .inl hix
          · exact .inr (.inr ⟨hi, hother⟩)

/-! ## The take of a STICK, STATE or ANNOUNCE frame (R129, R132, R133, R136, R137) -/

section Take

variable {s : State} {r : Record} {rec : RingRecord} (hr : s.record = some r)
include hr

theorem handOn_stick (h : rec.kind = .stick) (clockFirst : Bool) :
    handOn clockFirst rec s = takePeriodic clockFirst .stick (.stick (readStick rec.payload)) rec s := by
  simp [handOn, hr, h]

theorem handOn_state (h : rec.kind = .state) (clockFirst : Bool) :
    handOn clockFirst rec s = takePeriodic clockFirst .state (.state (readState rec.payload)) rec s := by
  simp [handOn, hr, h]

theorem handOn_announce (h : rec.kind = .announce) (clockFirst : Bool) : handOn clockFirst rec s = takeAnnounce rec s := by
  simp [handOn, hr, h]

end Take

/-- A frame of the kind expected and newer than the last is accepted (R132, R133). -/
theorem handOn_accepted {s : State} {r : Record} {rec : RingRecord} (hr : s.record = some r) {e : PeerEntry}
    (hfind : s.peers.find rec.source = some e) (hkind : rec.kind = e.kind.frameKind) (hnew : e.accepts rec.sequence = true)
    (clockFirst : Bool) : handOn clockFirst rec s =
      let heard := e.accepted rec (match e.kind with
        | .stick => .stick (readStick rec.payload)
        | .state => .state (readState rec.payload))
      handAccepted clockFirst heard (s.withPeers (s.peers.put heard)) := by
  cases hk : e.kind <;> rw [hk] at hkind
  · rw [handOn_stick hr hkind]
    simp [takePeriodic, hfind, hk, hnew]
  · rw [handOn_state hr hkind]
    simp [takePeriodic, hfind, hk, hnew]

/-- A STICK or STATE frame of no entry, of another kind, or not new, is discarded (R129, R132). -/
theorem handOn_discarded {s : State} {r : Record} {rec : RingRecord} (hr : s.record = some r)
    (hkind : rec.kind = .stick ∨ rec.kind = .state)
    (h : s.peers.find rec.source = none ∨ ∃ e, s.peers.find rec.source = some e ∧
      (rec.kind ≠ e.kind.frameKind ∨ ¬e.accepts rec.sequence = true)) (clockFirst : Bool) :
    handOn clockFirst rec s = s := by
  have htake : ∀ (kind : PeerKind) (c : PeerContents), rec.kind = kind.frameKind → takePeriodic clockFirst kind c rec s = s :=
    fun kind c hframe => by
    unfold takePeriodic
    split
    · rfl
    · next e hfind =>
      refine if_neg fun ⟨hek, hnew⟩ => ?_
      obtain hnone | ⟨e', hfind', hother⟩ := h
      · simp [hfind] at hnone
      · rw [hfind] at hfind'
        cases hfind'
        exact hother.elim (fun hne => hne (hek ▸ hframe)) fun hold => hold hnew
  obtain hk | hk := hkind
  · rw [handOn_stick hr hk]
    exact htake .stick _ hk
  · rw [handOn_state hr hk]
    exact htake .state _ hk

/-! ## An ANNOUNCE (R136, R137, R139) -/

section Announce

variable {s : State} {rec : RingRecord}

theorem announceEntry_unknown (hfind : s.peers.find rec.source = none) : announceEntry rec s = s := by
  simp only [announceEntry, hfind]

/-- The entry is FRESH already, or the station has no blocks that depend on it. -/
theorem announceEntry_unheard {e : PeerEntry} (hfind : s.peers.find rec.source = some e)
    (h : e.freshness = .fresh ∨ s.axis? = none) :
    announceEntry rec s = s.withPeers (s.peers.put (e.announced rec.arrival)) := by
  have hclock : ∀ u : State, clockChanged (e.announced rec.arrival) u = u := fun u => by simp [clockChanged, PeerEntry.announced]
  simp only [announceEntry, hfind]
  split
  · rfl
  · next hne => rw [handChange_none (by simpa using h.resolve_left hne), hclock]

/-- The change to FRESH is handed to Stick Shaper and Coupling Unit (R139). -/
theorem announceEntry_heard {e : PeerEntry} {ax : AxisSettings} (hfind : s.peers.find rec.source = some e)
    (hfresh : e.freshness ≠ .fresh) (hax : s.axis? = some ax) : announceEntry rec s =
      hearChange ax (e.announced rec.arrival) (s.withPeers (s.peers.put (e.announced rec.arrival))) := by
  have hclock : ∀ u : State, clockChanged (e.announced rec.arrival) u = u := fun u => by simp [clockChanged, PeerEntry.announced]
  simp only [announceEntry, hfind, if_neg hfresh]
  rw [handChange_axis (by simpa using hax), hclock]

@[simp] theorem hearChange_peers (ax : AxisSettings) (e : PeerEntry) : (hearChange ax e s).peers = s.peers := by
  unfold hearChange
  split <;> simp

@[simp] theorem hearChange_clock (ax : AxisSettings) (e : PeerEntry) : (hearChange ax e s).clock = s.clock := by
  unfold hearChange
  split <;> simp

theorem announceEntry_cases (rec : RingRecord) (s : State) :
    (s.peers.find rec.source = none ∧ announceEntry rec s = s) ∨
    (∃ e, s.peers.find rec.source = some e ∧ announceEntry rec s = s.withPeers (s.peers.put (e.announced rec.arrival))) ∨
    (∃ e ax, s.peers.find rec.source = some e ∧ announceEntry rec s =
      hearChange ax (e.announced rec.arrival) (s.withPeers (s.peers.put (e.announced rec.arrival)))) := by
  obtain hfind | ⟨e, hfind⟩ := Option.eq_none_or_eq_some (s.peers.find rec.source)
  · exact .inl ⟨hfind, announceEntry_unknown hfind⟩
  · by_cases h : e.freshness = .fresh ∨ s.axis? = none
    · exact .inr (.inl ⟨e, hfind, announceEntry_unheard hfind h⟩)
    · obtain ⟨hfresh, hax⟩ := not_or.1 h
      obtain ⟨ax, hax⟩ := Option.ne_none_iff_exists'.1 hax
      exact .inr (.inr ⟨e, ax, hfind, announceEntry_heard hfind hfresh hax⟩)

theorem announceEntry_clock : (announceEntry rec s).clock = s.clock := by
  obtain ⟨-, heq⟩ | ⟨e, -, heq⟩ | ⟨e, ax, -, heq⟩ := announceEntry_cases rec s <;> simp [heq]

theorem announceEntry_peers {e : PeerEntry} (hfind : s.peers.find rec.source = some e) :
    (announceEntry rec s).peers = s.peers.put (e.announced rec.arrival) := by
  obtain ⟨hnone, -⟩ | ⟨e', hsome, heq⟩ | ⟨e', ax, hsome, heq⟩ := announceEntry_cases rec s
  · simp [hfind] at hnone
  all_goals
    rw [hfind] at hsome
    cases hsome
    simp [heq]

/-- No other address's entry changes. -/
theorem announceEntry_find_ne {a : Nat} (ha : a ≠ rec.source) : (announceEntry rec s).peers.find a = s.peers.find a := by
  obtain hfind | ⟨e, hfind⟩ := Option.eq_none_or_eq_some (s.peers.find rec.source)
  · rw [announceEntry_unknown hfind]
  · have haddress : (e.announced rec.arrival).address = rec.source := PeerTable.find_address (p := s.peers) (e := e) hfind
    rw [announceEntry_peers hfind]
    exact PeerTable.find_put_ne (by rwa [haddress])

theorem announceEntry_roster : (announceEntry rec s).peers.roster = s.peers.roster := by
  obtain ⟨-, heq⟩ | ⟨e, -, heq⟩ | ⟨e, ax, -, heq⟩ := announceEntry_cases rec s <;> simp [heq, PeerTable.put]

/-- An ANNOUNCE acts on the entry, and in hand role on the roster besides (R136, R137). -/
theorem takeAnnounce_eq (rec : RingRecord) (s : State) : ∃ roster,
    takeAnnounce rec s = (announceEntry rec s).withPeers ⟨(announceEntry rec s).peers.entries, roster⟩ ∧
    (s.hand? = none → roster = s.peers.roster) ∧
    (s.hand?.isSome = true → roster = insertRoster ⟨rec.source, readAnnounce rec.payload, rec.arrival⟩ s.peers.roster) := by
  have hhand : (announceEntry rec s).hand? = s.hand? := by simp
  obtain hnone | ⟨x, hsome⟩ := Option.eq_none_or_eq_some s.hand?
  · exact ⟨(announceEntry rec s).peers.roster, by simp only [takeAnnounce, hhand, hnone]; rfl,
      fun _ => announceEntry_roster, by simp [hnone]⟩
  · exact ⟨_, by simp only [takeAnnounce, hhand, hsome]; rfl, by simp [hsome], fun _ => by rw [announceEntry_roster]⟩

end Announce

/-- Settles O42: the acceptance in both orders of clock and blocks, the discarded frame, and the ANNOUNCE. -/
theorem intakeUpdatesItsEntry : Obligations.IntakeUpdatesItsEntry := by
  intro s r rec rest clockFirst hrun hr hring base
  have hexec : exec (.intakeTake clockFirst) s = .next ((handOn clockFirst rec base).withIntake none) := by
    rw [exec_intakeTake hrun, takeOldest_some hring]
  refine ⟨?accepted, fun hkind hdiscarded => ?discarded, fun hkind => ?announced⟩
  case accepted =>
    intro e hfind hkind hnew heard put blocks
    have haddress : heard.address = rec.source := PeerTable.find_address (e := e) hfind
    have hhanded : handOn clockFirst rec base = handAccepted clockFirst heard put :=
      handOn_accepted (s := base) hr hfind hkind ((e.accepts_iff _).2 hnew) clockFirst
    have hblocks : ∀ u : State, u.axis? = s.axis? → blocks u (handAcceptance heard u) := fun u hu =>
      ⟨fun hax => handAcceptance_none (hu.trans hax) heard, fun ax hax => handAcceptance_heard (hu.trans hax) heard⟩
    refine ⟨PeerTable.find_put_same hfind haddress, fun a ha => PeerTable.find_put_ne (by rwa [haddress]), ?_⟩
    cases clockFirst with
    | false => exact ⟨handAcceptance heard put, handStamp heard (handAcceptance heard put), by rw [hexec, hhanded]; rfl,
        fun _ => ⟨hblocks put rfl, handStamp_heard (by simpa [put, base] using hr) heard⟩, fun h => by cases h⟩
    | true => exact ⟨handStamp heard put, handAcceptance heard (handStamp heard put), by rw [hexec, hhanded]; rfl,
        fun h => Bool.noConfusion h, fun _ => ⟨handStamp_heard (s := put) hr heard, hblocks _ (by simp [put, base])⟩⟩
  case discarded =>
    rw [hexec, handOn_discarded (s := base) hr hkind (hdiscarded.imp id fun ⟨e, hfind, hother⟩ => ⟨e, hfind, hother.imp id ?_⟩)]
    rintro ⟨hfresh, l, hl, hold⟩ haccepts
    obtain h | h | h := (e.accepts_iff _).1 haccepts
    · simp [h] at hfresh
    · simp [h] at hfresh
    · exact hold (h l hl)
  case announced =>
    rw [hexec, handOn_announce (s := base) hr hkind]
    obtain ⟨roster, heq, hsame, hhand⟩ := takeAnnounce_eq rec base
    rw [heq]
    generalize ht : ((announceEntry rec base).withPeers ⟨(announceEntry rec base).peers.entries, roster⟩).withIntake none = t
    have hentries : t.peers.entries = (announceEntry rec base).peers.entries := by rw [← ht]; rfl
    have hfinds : ∀ a, t.peers.find a = (announceEntry rec base).peers.find a := fun a => by rw [← ht]; rfl
    have hroster : t.peers.roster = roster := by rw [← ht]; rfl
    have hblocks : t.stick = (announceEntry rec base).stick ∧ t.coupling = (announceEntry rec base).coupling := by
      rw [← ht]
      exact ⟨rfl, rfl⟩
    obtain ⟨hstick, hcoupling⟩ := hblocks
    refine ⟨t, rfl, ?_⟩
    rw [hroster, hentries, hstick, hcoupling, hfinds]
    refine ⟨fun a ha => (hfinds a).trans (announceEntry_find_ne (s := base) ha), fun hfind => ?_, ?_, hsame,
      fun hsome hlaw i => ?_, ?_⟩
    · rw [announceEntry_unknown (s := base) hfind]
      exact ⟨rfl, rfl, rfl⟩
    · intro e hfind heard
      have haddress : heard.address = rec.source := PeerTable.find_address (e := e) hfind
      rw [announceEntry_peers (s := base) hfind]
      refine ⟨rfl, PeerTable.find_put_same hfind haddress, fun hsame => ?_, fun ax hfresh hax => ?_⟩
      · rw [announceEntry_unheard (s := base) hfind hsame]
        exact ⟨rfl, rfl⟩
      · obtain ⟨hstick, hcoupling⟩ := hearChange_congr ax heard (s := s.withPeers (s.peers.put heard))
          (t := base.withPeers (base.peers.put heard)) rfl rfl rfl
        rw [announceEntry_heard (s := base) hfind hfresh hax]
        exact ⟨_, hearChange_heard ax heard _, hstick, hcoupling⟩
    · rw [hhand hsome]
      exact mem_insertRoster hlaw.roster i
    · rw [← ht]
      apply State.ext <;> simp [announceEntry_clock, base]

end Sys2Proof.Machine

/-! The ageing of the Peer Table (spec/08_intake_and_the_peer_table.md section 8.6): the order of the visits, the changes of
one expiry, what each is handed on to, and the statement O43 assembled from them. -/
namespace Sys2Proof.Machine

/-! ## The order of the visits (log 13) -/

theorem visitOrder_cons (a : Nat) (order l : List Nat) : visitOrder (a :: order) l =
    if a ∈ visitOrder order l then a :: (visitOrder order l).erase a else visitOrder order l := rfl

theorem visitOrder_perm (order l : List Nat) : (visitOrder order l).Perm l := by
  induction order with
  | nil => exact .refl _
  | cons a order ih =>
    rw [visitOrder_cons]
    split
    · next ha => exact (List.perm_cons_erase ha).symm.trans ih
    · exact ih

/-- Addresses of the list, named once each, are visited first. -/
theorem visitOrder_of_prefix {order l : List Nat} (hnodup : order.Nodup) (hsub : ∀ a ∈ order, a ∈ l) :
    order <+: visitOrder order l := by
  induction order with
  | nil => exact List.nil_prefix
  | cons a order ih =>
    obtain ⟨hnew, hnodup⟩ := List.nodup_cons.1 hnodup
    obtain ⟨rest, hrest⟩ := ih hnodup fun b hb => hsub b (List.mem_cons_of_mem a hb)
    have ha : a ∈ visitOrder order l := (visitOrder_perm order l).mem_iff.2 (hsub a (List.mem_cons_self ..))
    rw [visitOrder_cons, if_pos ha, ← hrest, List.erase_append_right _ hnew]
    exact ⟨rest.erase a, rfl⟩

theorem visitOrder_eq {order l : List Nat} (hperm : order.Perm l) (hnodup : l.Nodup) : visitOrder order l = order := by
  have hprefix := visitOrder_of_prefix (hperm.nodup_iff.2 hnodup) fun a ha => hperm.mem_iff.1 ha
  exact (hprefix.eq_of_length (hperm.length_eq.trans (visitOrder_perm order l).length_eq.symm)).symm

/-! ## Lists told apart by a key -/

theorem nodup_of_map {α β : Type} (f : α → β) {l : List α} (h : (l.map f).Nodup) : l.Nodup :=
  (List.pairwise_map.1 h).imp fun hne heq => hne (congrArg f heq)

theorem eq_of_nodup_map {α β : Type} {f : α → β} {l : List α} (h : (l.map f).Nodup) {x y : α} (hx : x ∈ l) (hy : y ∈ l)
    (heq : f x = f y) : x = y := by
  induction l with
  | nil => cases hx
  | cons a l ih =>
    obtain ⟨hnew, hrest⟩ := List.nodup_cons.1 h
    obtain rfl | hxl := List.mem_cons.1 hx
    · obtain rfl | hyl := List.mem_cons.1 hy
      · rfl
      · exact absurd (heq ▸ List.mem_map_of_mem hyl) hnew
    · obtain rfl | hyl := List.mem_cons.1 hy
      · exact absurd (heq ▸ List.mem_map_of_mem hxl) hnew
      · exact ih hrest hxl hyl

theorem filterMap_eq_of_mem {α β : Type} {f g : α → Option β} {l : List α} (h : ∀ a ∈ l, f a = g a) :
    l.filterMap f = l.filterMap g := by
  induction l with
  | nil => rfl
  | cons a l ih =>
    rw [List.filterMap_cons, List.filterMap_cons, h a List.mem_cons_self, ih fun b hb => h b (List.mem_cons_of_mem a hb)]

/-! ## The change of one entry (R138) -/

/-- An entry as it stands after its change of freshness, if its age calls for one. -/
def PeerEntry.turned (r : Record) (e : PeerEntry) : PeerEntry := { e with freshness := (e.nextFreshness r).getD e.freshness }

/-- One change of freshness: the entry changes and is handed on (R138 to R140). -/
def takeChange (s : State) (e : PeerEntry) : State :=
  handChange e (if e.freshness = .stale then staleFlag e (s.withPeers (s.peers.put e)) else s.withPeers (s.peers.put e))

/-- The change of an address's entry, if its age calls for one. -/
def PeerTable.change (r : Record) (p : PeerTable) (a : Nat) : Option PeerEntry :=
  (p.find a).bind fun e => (e.nextFreshness r).map fun f => { e with freshness := f }

/-- The changes of one expiry, in the order of the visits. -/
def PeerTable.changes (r : Record) (p : PeerTable) (l : List Nat) : List PeerEntry := l.filterMap (p.change r)

theorem PeerTable.change_eq_some_iff {r : Record} {p : PeerTable} {a : Nat} {x : PeerEntry} : p.change r a = some x ↔
    ∃ e f, p.find a = some e ∧ e.nextFreshness r = some f ∧ x = { e with freshness := f } := by
  simp only [change, Option.bind_eq_some_iff, Option.map_eq_some_iff]
  grind

theorem PeerTable.change_address {r : Record} {p : PeerTable} {a : Nat} {x : PeerEntry} (h : p.change r a = some x) :
    x.address = a := by
  obtain ⟨e, f, hfind, -, rfl⟩ := change_eq_some_iff.1 h
  exact find_address (e := e) hfind

theorem ageChange_eq (r : Record) (s : State) (a : Nat) :
    ageChange r s a = match s.peers.change r a with
      | none => s
      | some x => takeChange s x := by
  unfold ageChange PeerTable.change
  obtain hfind | ⟨e, hfind⟩ := Option.eq_none_or_eq_some (s.peers.find a)
  · simp only [hfind, Option.bind_none]
  · obtain hnext | ⟨f, hnext⟩ := Option.eq_none_or_eq_some (e.nextFreshness r)
    · simp only [hfind, hnext, Option.bind_some, Option.map_none]
    · simp only [hfind, hnext, Option.bind_some, Option.map_some]
      rfl

@[simp] theorem takeChange_peers (s : State) (e : PeerEntry) : (takeChange s e).peers = s.peers.put e := by
  unfold takeChange
  split <;> simp

@[simp] theorem takeChange_axis (s : State) (e : PeerEntry) : (takeChange s e).axis? = s.axis? := by
  unfold takeChange
  split <;> simp

@[simp] theorem takeChange_record (s : State) (e : PeerEntry) : (takeChange s e).record = s.record := by
  unfold takeChange
  split <;> simp

theorem PeerTable.changes_put {r : Record} {p : PeerTable} {e : PeerEntry} {l : List Nat} (h : e.address ∉ l) :
    (p.put e).changes r l = p.changes r l :=
  filterMap_eq_of_mem fun a ha => by rw [change, change, find_put_ne (fun heq : a = e.address => h (heq ▸ ha))]

/-- The visits come down to the changes. -/
theorem foldl_ageChange (r : Record) {l : List Nat} (hnodup : l.Nodup) (s : State) :
    l.foldl (ageChange r) s = (s.peers.changes r l).foldl takeChange s := by
  induction l generalizing s with
  | nil => rfl
  | cons a l ih =>
    obtain ⟨hnew, hnodup⟩ := List.nodup_cons.1 hnodup
    rw [List.foldl_cons, ih hnodup, ageChange_eq]
    obtain hchange | ⟨x, hchange⟩ := Option.eq_none_or_eq_some (s.peers.change r a)
    · rw [PeerTable.changes, PeerTable.changes, List.filterMap_cons_none hchange, hchange]
    · simp only [hchange]
      rw [takeChange_peers, PeerTable.changes_put (by rwa [PeerTable.change_address hchange]), PeerTable.changes,
        PeerTable.changes, List.filterMap_cons_some hchange]
      rfl

/-! ## What the changes of an expiry leave (R138 to R140, R114) -/

section Changes

/-- SOURCE_LOST and PARTNER_LOST of one entry (R140). -/
theorem takeChange_flags {s : State} {ax : AxisSettings} (hax : s.axis? = some ax) (e : PeerEntry) :
    (takeChange s e).flags = s.flags ||| (if decide (e.freshness = .stale ∧ e.kind = .stick) then 0x80 else 0) |||
      (if decide (e.freshness = .stale ∧ (ax.follow = some e.address ∨ ax.guard = some e.address)) then 0x40 else 0) := by
  unfold takeChange
  by_cases hstale : e.freshness = .stale
  · simp only [hstale, if_true, handChange_frame, staleFlag, State.withPeers_axis_settings, hax, true_and]
    by_cases hk : e.kind = .stick <;> by_cases hp : ax.follow = some e.address ∨ ax.guard = some e.address <;>
      simp [hk, hp, setFlag] <;> rfl
  · simp [hstale]

theorem takeChange_flags_none {s : State} (hax : s.axis? = none) (e : PeerEntry) :
    (takeChange s e).flags = s.flags ∧ (takeChange s e).stick = s.stick ∧ (takeChange s e).coupling = s.coupling := by
  unfold takeChange
  have hflag : staleFlag e (s.withPeers (s.peers.put e)) = s.withPeers (s.peers.put e) := by
    simp only [staleFlag, State.withPeers_axis_settings, hax]
  rw [hflag, ite_self, handChange_none (by simpa using hax)]
  simp

theorem takeChange_clock {s : State} {r : Record} (hr : s.record = some r) (e : PeerEntry) :
    (takeChange s e).clock = { s.clock with
      synced := s.clock.synced && !decide (e.freshness = .stale ∧ r.clockSource = some e.address) } := by
  have hsource : ∀ u : State, u.record = some r → (clockChanged e u).clock = { u.clock with
      synced := u.clock.synced && !decide (e.freshness = .stale ∧ r.clockSource = some e.address) } := fun u hu => by
    have hsource : u.clockSourceIs e.address = true ↔ r.clockSource = some e.address := by simp [State.clockSourceIs, hu]
    unfold clockChanged
    by_cases h : e.freshness = .stale ∧ r.clockSource = some e.address
    · rw [if_pos ⟨h.1, hsource.2 h.2⟩]
      simp [h]
    · rw [if_neg fun hu => h ⟨hu.1, hsource.1 hu.2⟩]
      simp [h]
  have hhanded : ∀ u : State, u.record = some r → (handChange e u).clock = { u.clock with
      synced := u.clock.synced && !decide (e.freshness = .stale ∧ r.clockSource = some e.address) } := fun u hu => by
    obtain hax | ⟨ax, hax⟩ := Option.eq_none_or_eq_some u.axis?
    · rw [handChange_none hax, hsource u hu]
    · rw [handChange_axis hax, hsource _ (by unfold hearChange; split <;> simpa using hu), hearChange_clock]
  unfold takeChange
  split
  · rw [hhanded _ (by simpa using hr)]
    simp
  · rw [hhanded _ (by simpa using hr)]
    simp

/-- From `s` to `t` nothing changed but the Peer Table and the blocks that changes of freshness are handed to. -/
def PeersAlone (s t : State) : Prop :=
  ((((t.withPeers s.peers).withStick s.stick).withCoupling s.coupling).withClock s.clock).withFlags s.flags = s

theorem PeersAlone.refl (s : State) : PeersAlone s s := by
  unfold PeersAlone
  rfl

theorem PeersAlone.trans {s t u : State} (h : PeersAlone s t) (h' : PeersAlone t u) : PeersAlone s u := by
  unfold PeersAlone at *
  calc
    _ = ((((((((((u.withPeers t.peers).withStick t.stick).withCoupling t.coupling).withClock t.clock).withFlags
          t.flags).withPeers s.peers).withStick s.stick).withCoupling s.coupling).withClock s.clock).withFlags s.flags) := rfl
    _ = s := by rw [h', h]

theorem takeChange_alone (s : State) (e : PeerEntry) : PeersAlone s (takeChange s e) := by
  unfold takeChange PeersAlone
  split <;> apply State.ext <;> simp

variable (es : List PeerEntry)

theorem foldl_takeChange_none {s : State} (hax : s.axis? = none) :
    (es.foldl takeChange s).flags = s.flags ∧ (es.foldl takeChange s).stick = s.stick ∧
    (es.foldl takeChange s).coupling = s.coupling := by
  induction es generalizing s with
  | nil => exact ⟨rfl, rfl, rfl⟩
  | cons e es ih =>
    obtain ⟨hflags, hstick, hcoupling⟩ := takeChange_flags_none hax e
    obtain ⟨hflags', hstick', hcoupling'⟩ := ih (s := takeChange s e) (by simpa using hax)
    exact ⟨hflags'.trans hflags, hstick'.trans hstick, hcoupling'.trans hcoupling⟩

theorem foldl_takeChange_flags {s : State} {ax : AxisSettings} (hax : s.axis? = some ax) :
    (es.foldl takeChange s).flags =
      s.flags ||| (if es.any fun e => decide (e.freshness = .stale ∧ e.kind = .stick) then 0x80 else 0) |||
      (if es.any fun e => decide (e.freshness = .stale ∧ (ax.follow = some e.address ∨ ax.guard = some e.address))
        then 0x40 else 0) := by
  have hor : ∀ (m : FlagSet) (p q : Bool), ((if p then m else 0) ||| (if q then m else 0)) = if p || q then m else 0 :=
    fun m p q => by cases p <;> cases q <;> simp
  induction es generalizing s with
  | nil => simp
  | cons e es ih =>
    rw [List.foldl_cons, ih (by simpa using hax), takeChange_flags hax, List.any_cons, List.any_cons, ← hor, ← hor]
    ac_rfl

theorem foldl_takeChange_heard {ax : AxisSettings} {s s' : State} (hax : s.axis? = some ax) (hpeers : s.peers = s'.peers)
    (hstick : s.stick = s'.stick) (hcoupling : s.coupling = s'.coupling) :
    ∃ u, ChangesHeard ax es s' u ∧ (es.foldl takeChange s).stick = u.stick ∧ (es.foldl takeChange s).coupling = u.coupling := by
  induction es generalizing s s' with
  | nil => exact ⟨s', .nil s', hstick, hcoupling⟩
  | cons e es ih =>
    have hheard := hearChange_congr ax e (s := s'.withPeers (s'.peers.put e))
      (t := if e.freshness = .stale then staleFlag e (s.withPeers (s.peers.put e)) else s.withPeers (s.peers.put e))
      (by split <;> simp [hstick]) (by split <;> simp [hcoupling]) (by split <;> simp [hpeers])
    have htaken : takeChange s e = clockChanged e (hearChange ax e
        (if e.freshness = .stale then staleFlag e (s.withPeers (s.peers.put e)) else s.withPeers (s.peers.put e))) :=
      handChange_axis (by split <;> simpa using hax) e
    obtain ⟨u, hu, hus, huc⟩ := ih (s := takeChange s e) (s' := hearChange ax e (s'.withPeers (s'.peers.put e)))
      (by simpa using hax) (by simp [hpeers]) (by rw [htaken]; simpa using hheard.1) (by rw [htaken]; simpa using hheard.2)
    exact ⟨u, .cons e es s' _ u (hearChange_heard ax e _) hu, hus, huc⟩

theorem foldl_takeChange_clock {s : State} {r : Record} (hr : s.record = some r) :
    (es.foldl takeChange s).clock = { s.clock with synced := s.clock.synced &&
      !(es.any fun e => decide (e.freshness = .stale ∧ r.clockSource = some e.address)) } := by
  induction es generalizing s with
  | nil => simp
  | cons e es ih =>
    rw [List.foldl_cons, ih (by simpa using hr), takeChange_clock hr, List.any_cons, Bool.not_or, Bool.and_assoc]

theorem foldl_takeChange_alone (s : State) : PeersAlone s (es.foldl takeChange s) := by
  induction es generalizing s with
  | nil => exact .refl s
  | cons e es ih => exact (takeChange_alone s e).trans (ih _)

end Changes

/-! ## The entries after an expiry (R138) -/

theorem PeerTable.find_of_mem {p : PeerTable} (hnodup : (p.entries.map PeerEntry.address).Nodup) {e : PeerEntry}
    (he : e ∈ p.entries) : p.find e.address = some e := by
  obtain hnone | ⟨x, hx⟩ := Option.eq_none_or_eq_some (p.find e.address)
  · exact absurd (beq_self_eq_true e.address) (List.find?_eq_none.1 hnone e he)
  · rw [hx, eq_of_nodup_map hnodup (PeerTable.find_mem hx) he (PeerTable.find_address hx)]

theorem PeerEntry.turned_of_none {r : Record} {e : PeerEntry} (h : e.nextFreshness r = none) : e.turned r = e := by
  simp [turned, h]

theorem PeerEntry.turned_of_some {r : Record} {e : PeerEntry} {f : Freshness} (h : e.nextFreshness r = some f) :
    e.turned r = { e with freshness := f } := by simp [turned, h]

/-- A change that an age calls for is a change. -/
theorem PeerEntry.turned_freshness_ne_iff (r : Record) (e : PeerEntry) :
    (e.turned r).freshness ≠ e.freshness ↔ (e.nextFreshness r).isSome = true := by
  unfold turned nextFreshness
  split
  · split <;> simp_all
  · split <;> simp_all
  all_goals simp_all

theorem PeerTable.foldl_put_changes (r : Record) {l : List Nat} (hl : l.Nodup) {p : PeerTable}
    (hp : (p.entries.map PeerEntry.address).Nodup) :
    (p.changes r l).foldl PeerTable.put p =
      { p with entries := p.entries.map fun e => if e.address ∈ l then e.turned r else e } := by
  induction l generalizing p with
  | nil => simp [PeerTable.changes]
  | cons a l ih =>
    obtain ⟨hnew, hl⟩ := List.nodup_cons.1 hl
    have hsecond : ∀ e : PeerEntry,
        (let x := if e.address = a then e.turned r else e; if x.address ∈ l then x.turned r else x) =
          if e.address ∈ a :: l then e.turned r else e := fun e => by
      by_cases ha : e.address = a
      · have hturned : (e.turned r).address = a := ha
        simp [ha, hturned, hnew]
      · simp [ha]
    have hfirst : ∃ q : PeerTable, (p.changes r (a :: l)).foldl PeerTable.put p = (q.changes r l).foldl PeerTable.put q ∧
        q = { p with entries := p.entries.map fun e => if e.address = a then e.turned r else e } := by
      have hturned : ∀ e ∈ p.entries, ∀ x, p.find a = some x → e.address = a → e = x := fun e he x hx ha => by
        simpa [ha, hx] using (PeerTable.find_of_mem hp he).symm
      obtain hchange | ⟨x, hchange⟩ := Option.eq_none_or_eq_some (p.change r a)
      · have hmap : p.entries.map (fun e => if e.address = a then e.turned r else e) = p.entries.map id :=
          List.map_congr_left fun e he => by
            split
            · next ha =>
              refine PeerEntry.turned_of_none (Option.not_isSome_iff_eq_none.1 fun hsome => ?_)
              obtain ⟨f, hf⟩ := Option.isSome_iff_exists.1 hsome
              rw [PeerTable.change_eq_some_iff.2 ⟨e, f, ha ▸ PeerTable.find_of_mem hp he, hf, rfl⟩] at hchange
              cases hchange
            · rfl
        exact ⟨p, by rw [PeerTable.changes, List.filterMap_cons_none hchange]; rfl, by rw [hmap, List.map_id]⟩
      · have haddress := PeerTable.change_address hchange
        obtain ⟨e, f, hfind, hnext, rfl⟩ := PeerTable.change_eq_some_iff.1 hchange
        refine ⟨p.put { e with freshness := f }, ?_, ?_⟩
        · rw [PeerTable.changes_put (by rwa [haddress]), PeerTable.changes, List.filterMap_cons_some hchange]
          rfl
        · have hmap : p.entries.map (fun x => if x.address == ({ e with freshness := f } : PeerEntry).address
              then { e with freshness := f } else x) = p.entries.map (fun e => if e.address = a then e.turned r else e) :=
            List.map_congr_left fun x hx => by
              have he : e.address = a := haddress
              by_cases ha : x.address = a
              · rw [if_pos ha, if_pos (beq_iff_eq.2 (ha.trans he.symm)), hturned x hx e hfind ha, PeerEntry.turned_of_some hnext]
              · rw [if_neg ha, if_neg fun h => ha ((beq_iff_eq.1 h).trans he)]
          rw [PeerTable.put, hmap]
    obtain ⟨q, hq, hqp⟩ := hfirst
    have hqaddresses : q.entries.map PeerEntry.address = p.entries.map PeerEntry.address := by
      rw [hqp, List.map_map]
      exact List.map_congr_left fun e _ => by dsimp only [Function.comp]; split <;> rfl
    rw [hq, ih hl (hqaddresses ▸ hp), hqp]
    simp only [List.map_map, Function.comp_def]
    congr 1
    exact List.map_congr_left fun e _ => hsecond e

theorem foldl_takeChange_peers (es : List PeerEntry) (s : State) : (es.foldl takeChange s).peers = es.foldl PeerTable.put s.peers := by
  induction es generalizing s with
  | nil => rfl
  | cons e es ih => rw [List.foldl_cons, ih, takeChange_peers, List.foldl_cons]

/-- The changes of an expiry are those of the entries whose age calls for one. -/
theorem PeerTable.mem_changes {r : Record} {p : PeerTable} (hp : (p.entries.map PeerEntry.address).Nodup) {l : List Nat}
    (hl : ∀ e ∈ p.entries, e.address ∈ l) (x : PeerEntry) :
    x ∈ p.changes r l ↔ ∃ e ∈ p.entries, (e.turned r).freshness ≠ e.freshness ∧ x = e.turned r := by
  simp only [PeerTable.changes, List.mem_filterMap, change_eq_some_iff]
  constructor
  · rintro ⟨a, -, e, f, hfind, hnext, rfl⟩
    refine ⟨e, find_mem hfind, (PeerEntry.turned_freshness_ne_iff r e).2 (by simp [hnext]), ?_⟩
    rw [PeerEntry.turned_of_some hnext]
  · rintro ⟨e, he, hne, rfl⟩
    obtain ⟨f, hnext⟩ := Option.isSome_iff_exists.1 ((PeerEntry.turned_freshness_ne_iff r e).1 hne)
    exact ⟨e.address, hl e he, e, f, find_of_mem hp he, hnext, PeerEntry.turned_of_some hnext⟩

/-- The changes come in the order of the visits. -/
theorem PeerTable.changes_addresses (r : Record) (p : PeerTable) (l : List Nat) : (p.changes r l).map PeerEntry.address =
    l.filter fun a => decide (a ∈ (p.changes r l).map PeerEntry.address) := by
  have hsome : ∀ k : List Nat, (p.changes r k).map PeerEntry.address = k.filter fun a => (p.change r a).isSome := fun k => by
    induction k with
    | nil => rfl
    | cons a k ih =>
      rw [PeerTable.changes] at ih ⊢
      obtain hnone | ⟨x, hx⟩ := Option.eq_none_or_eq_some (p.change r a)
      · rw [List.filterMap_cons_none hnone, ih, List.filter_cons_of_neg (by simp [hnone])]
      · rw [List.filterMap_cons_some hx, List.map_cons, ih, List.filter_cons_of_pos (by simp [hx]), change_address hx]
  conv => lhs; rw [hsome]
  refine List.filter_congr fun a ha => ?_
  rw [hsome, Bool.eq_iff_iff]
  simp [ha]

/-- What an expiry makes of one entry, as R138 says it. -/
theorem PeerEntry.turned_older (r : Record) (e : PeerEntry) : e.older.turned r =
    if e.freshness = .silent then e
    else { e with age := min 65535 (e.age + 1), freshness :=
             if e.freshness = .fresh ∧ r.tFresh < min 65535 (e.age + 1) then .aging
             else if e.freshness = .aging ∧ r.tStale < min 65535 (e.age + 1) then .stale else e.freshness } := by
  obtain ⟨_, _, _, freshness, _, _, _, _, _⟩ := e
  cases freshness with
  | silent => rfl
  | stale => rfl
  | fresh =>
    simp only [turned, nextFreshness, older, reduceCtorEq, if_false, true_and, false_and]
    split <;> rfl
  | aging =>
    simp only [turned, nextFreshness, older, reduceCtorEq, if_false, true_and, false_and]
    split <;> rfl

/-! ## One expiry (R138 to R140, R114) -/

/-- The Peer Table with every age one expiry further (R138). -/
def PeerTable.aged (p : PeerTable) : PeerTable := { p with entries := p.entries.map PeerEntry.older }

theorem PeerTable.aged_addresses (p : PeerTable) : p.aged.entries.map PeerEntry.address = p.entries.map PeerEntry.address := by
  rw [aged, List.map_map]
  exact List.map_congr_left fun e _ => e.older_address

theorem exec_ageingExpiry {s : State} {r : Record} (hrun : s.resetHold = none) (hr : s.record = some r)
    (hnodup : (s.peers.entries.map PeerEntry.address).Nodup) (order : List Nat) :
    exec (.ageingExpiry order) s = .next ((s.peers.aged.changes r (visitOrder order (s.peers.entries.map PeerEntry.address))).foldl
      takeChange (s.withPeers s.peers.aged)) := by
  have hvisits : (visitOrder order (s.peers.entries.map PeerEntry.address)).Nodup := (visitOrder_perm _ _).nodup_iff.2 hnodup
  have haged : ageingExpiry order s =
      (visitOrder order (s.peers.entries.map PeerEntry.address)).foldl (ageChange r) (s.withPeers s.peers.aged) := by
    simp only [ageingExpiry, hr]
    rfl
  rw [foldl_ageChange r hvisits] at haged
  rw [show exec (.ageingExpiry order) s = _ from whenRunning_running hrun _, haged]
  rfl

/-- An entry's change falls due at the next expiry (R138). -/
theorem ageDue_of_turned {s : State} {r : Record} (hr : s.record = some r)
    (hnodup : (s.peers.entries.map PeerEntry.address).Nodup) {e : PeerEntry} (he : e ∈ s.peers.entries) {f : Freshness}
    (hne : e.freshness ≠ f) (hf : (e.older.turned r).freshness = f) : s.ageDue e.address f = true := by
  have hold : e.older.freshness = e.freshness := by unfold PeerEntry.older; split <;> rfl
  have hsome := (PeerEntry.turned_freshness_ne_iff r e.older).1 (by rw [hf, hold]; exact hne.symm)
  obtain ⟨f', hnext⟩ := Option.isSome_iff_exists.1 hsome
  rw [PeerEntry.turned_of_some hnext] at hf
  simp only [State.ageDue, hr, PeerTable.find_of_mem hnodup he, hnext, beq_iff_eq, Option.some.injEq]
  exact hf

/-- Settles O43: the visits come down to the changes, and those are read off block by block. -/
theorem ageingChangesFreshness : Obligations.AgeingChangesFreshness := by
  refine ⟨fun l => rfl, fun order l => ⟨visitOrder_perm order l, visitOrder_eq⟩, ?_⟩
  intro s r order hrun hr hnodup older next changed lost
  have hnext : ∀ e : PeerEntry, next e = e.older.turned r := fun e => (PeerEntry.turned_older r e).symm
  have hold : ∀ e : PeerEntry, e.older.freshness = e.freshness := fun e => by unfold PeerEntry.older; split <;> rfl
  generalize hvisits : visitOrder order (s.peers.entries.map PeerEntry.address) = visits
  generalize hes : s.peers.aged.changes r visits = es
  have hperm := visitOrder_perm order (s.peers.entries.map PeerEntry.address)
  rw [hvisits] at hperm
  have hvisitsNodup : visits.Nodup := hperm.nodup_iff.2 hnodup
  have hagedNodup : (s.peers.aged.entries.map PeerEntry.address).Nodup := by rwa [PeerTable.aged_addresses]
  have hcovers : ∀ e ∈ s.peers.aged.entries, e.address ∈ visits := fun e he => by
    rw [hperm.mem_iff, ← PeerTable.aged_addresses]
    exact List.mem_map_of_mem he
  have hmem : ∀ x, x ∈ es ↔ ∃ e ∈ s.peers.entries, (next e).freshness ≠ e.freshness ∧ x = next e := fun x => by
    rw [← hes, PeerTable.mem_changes hagedNodup hcovers]
    simp only [PeerTable.aged, List.mem_map]
    constructor
    · rintro ⟨_, ⟨e, he, rfl⟩, hchange⟩
      exact ⟨e, he, by simpa only [hnext, hold] using hchange⟩
    · rintro ⟨e, he, hchange⟩
      exact ⟨_, ⟨e, he, rfl⟩, by simpa only [hnext, hold] using hchange⟩
  have hexec := exec_ageingExpiry hrun hr hnodup order
  rw [hvisits, hes] at hexec
  have hany : ∀ (P : PeerEntry → Prop) [DecidablePred P], (∀ e, P (next e) ↔ P e) →
      (es.any fun e => decide (e.freshness = .stale ∧ P e)) = lost.any fun e => decide (P e) := fun P _ hP => by
    rw [Bool.eq_iff_iff]
    simp only [List.any_eq_true, decide_eq_true_eq, lost, List.mem_filter, hmem]
    constructor
    · rintro ⟨x, ⟨e, he, hne, rfl⟩, hstale, hx⟩
      exact ⟨e, ⟨he, fun h => hne (hstale.trans h.symm), hstale⟩, (hP e).1 hx⟩
    · rintro ⟨e, ⟨he, hne, hstale⟩, hx⟩
      exact ⟨next e, ⟨e, he, fun h => hne (h ▸ hstale), rfl⟩, hstale, (hP e).2 hx⟩
  have hkind : ∀ e, (next e).kind = e.kind := fun e => by rw [hnext]; unfold PeerEntry.turned PeerEntry.older; split <;> rfl
  have haddress : ∀ e, (next e).address = e.address := fun e => by rw [hnext]; exact e.older_address
  have hchanged : changed.map PeerEntry.address = (s.peers.entries.filter fun e =>
      decide ((next e).freshness ≠ e.freshness)).map PeerEntry.address := by
    rw [List.map_map]
    exact List.map_congr_left fun e _ => haddress e
  have hesPerm : es.Perm changed := by
    have hesNodup : es.Nodup := by
      refine nodup_of_map PeerEntry.address ?_
      rw [← hes, PeerTable.changes_addresses]
      exact hvisitsNodup.filter _
    have hchangedNodup : changed.Nodup := by
      refine nodup_of_map PeerEntry.address ?_
      rw [hchanged]
      exact hnodup.sublist (List.filter_sublist.map _)
    refine (List.perm_ext_iff_of_nodup hesNodup hchangedNodup).2 fun x => ?_
    rw [hmem]
    simp only [changed, List.mem_map, List.mem_filter, decide_eq_true_eq, and_assoc]
    exact exists_congr fun e => and_congr_right fun _ => and_congr_right fun _ => eq_comm
  have hpeers : (es.foldl takeChange (s.withPeers s.peers.aged)).peers = { s.peers with entries := s.peers.entries.map next } := by
    have hturned := PeerTable.foldl_put_changes r hvisitsNodup hagedNodup
    rw [hes] at hturned
    rw [foldl_takeChange_peers, State.withPeers_peers, hturned]
    have hentries : s.peers.aged.entries.map (fun e => if e.address ∈ visits then e.turned r else e) = s.peers.entries.map next := by
      rw [List.map_congr_left (g := PeerEntry.turned r) fun e he => if_pos (hcovers e he), PeerTable.aged, List.map_map]
      exact List.map_congr_left fun e _ => (hnext e).symm
    rw [hentries]
    rfl
  refine ⟨_, hexec, hpeers, fun hax => foldl_takeChange_none es hax, fun ax hax => ?_, fun ax hax => ?_, ?_, ?_, ?_, ?_⟩
  · rw [foldl_takeChange_flags (s := s.withPeers s.peers.aged) es hax, hany _ fun e => by rw [hkind], hany _ fun e => by rw [haddress]]
    rfl
  · obtain ⟨u, hu, hstick, hcoupling⟩ := foldl_takeChange_heard es (s := s.withPeers s.peers.aged) (s' := s.withPeers s.peers.aged) hax rfl rfl rfl
    refine ⟨es, u, hesPerm, ?_, hu, hstick, hcoupling⟩
    rw [← hes, PeerTable.changes_addresses, hes]
    exact List.filter_congr fun a _ => by rw [Bool.eq_iff_iff, decide_eq_true_eq, decide_eq_true_eq, (hesPerm.map _).mem_iff]
  · rw [foldl_takeChange_clock (s := s.withPeers s.peers.aged) es hr, hany _ fun e => by rw [haddress]]
    rfl
  · have halone := foldl_takeChange_alone es (s.withPeers s.peers.aged)
    unfold PeersAlone at halone
    exact congrArg (State.withPeers · s.peers) halone
  · intro e he hne haging
    have hdue := ageDue_of_turned hr hnodup he hne (hnext e ▸ haging)
    exact ⟨_, whenDue_due hrun hdue _, whenRunning_running hrun _⟩
  · intro e he hne hstale
    have hdue := ageDue_of_turned hr hnodup he hne (hnext e ▸ hstale)
    exact ⟨_, whenDue_due hrun hdue _, whenRunning_running hrun _⟩

end Sys2Proof.Machine

/-! The step, the start and the reset (spec/95_what_each_step_holds.md, 11_configuration_and_start.md section 11.1,
06_preset_store.md section 6.7): the statements O1 to O5 and O55. -/
namespace Sys2Proof.Machine

/-! ## The step (log 1) -/

/-- Settles O1. -/
theorem stepTakesFrontCommand : Obligations.StepTakesFrontCommand :=
  fun s => ⟨fun c rest h => by simp only [step, h], fun h => by simp only [step, h]⟩

/-- A command's answer: a next state with the queue and the reset as they stood, the same state where the part is held. -/
def Keeps (s : State) (o : Host.Outcome State Fault Refusal) : Prop :=
  ∃ t, o = .next t ∧ t.pending = s.pending ∧ t.resetHold = s.resetHold ∧ (s.resetHold.isSome = true → t = s)

theorem keeps_whenRunning {s : State} {f : State → State} (hp : (f s).pending = s.pending)
    (hr : (f s).resetHold = s.resetHold) : Keeps s (whenRunning s f) := by
  unfold whenRunning
  split
  · exact ⟨s, rfl, rfl, rfl, fun _ => rfl⟩
  · next hrun => exact ⟨f s, rfl, hp, hr, fun h => absurd h hrun⟩

theorem keeps_whenDue {s : State} {due : Bool} {f : State → State} (hp : (f s).pending = s.pending)
    (hr : (f s).resetHold = s.resetHold) : Keeps s (whenDue due s f) := by
  refine keeps_whenRunning ?_ ?_ <;> split <;> trivial

/-- What every byte on the panel line leaves (R171). -/
theorem receiveBytes_kept (bytes : List Byte) (s : State) :
    (receiveBytes bytes s).pending = s.pending ∧ (receiveBytes bytes s).resetHold = s.resetHold := by
  obtain ⟨-, -, -, -, -, -, -, -, -, -, -, -, hreset, hpending⟩ := (receiveBytes_panelEffect bytes s).frame
  exact ⟨hpending, hreset⟩

/-- Every command but START, RESET_ENTERED and the two of the carrier (R180, log 4). -/
theorem exec_keeps (c : Instr) (s : State) (hstart : ∀ r m, c ≠ .start r m) (hreset : ∀ k, c ≠ .resetEntered k)
    (hon : c ≠ .carrierStart) (hoff : c ≠ .carrierEnd) : Keeps s (exec c s) := by
  have hbytes := fun bytes => receiveBytes_kept bytes s
  have hrequest : ∀ (r : Request) (fields : List Byte), Keeps s (whenRunning s (receiveRequest r fields)) :=
    fun r fields => keeps_whenRunning (hbytes _).1 (hbytes _).2
  cases c with
  | start r m => exact absurd rfl (hstart r m)
  | resetEntered k => exact absurd rfl (hreset k)
  | carrierStart => exact absurd rfl hon
  | carrierEnd => exact absurd rfl hoff
  | badFrameAtLength b =>
    unfold exec execBadFrameAtLength
    exact keeps_whenDue (hbytes [b]).1 (hbytes [b]).2
  | panelByteReceived b =>
    unfold exec execPanelByteReceived
    exact keeps_whenRunning (hbytes [b]).1 (hbytes [b]).2
  | requestUnknownKind kind fields check => exact keeps_whenDue (hbytes _).1 (hbytes _).2
  | sendCue => exact hrequest _ _
  | setClock => exact hrequest _ _
  | readClock => exact hrequest _ _
  | readPeer => exact hrequest _ _
  | readRoster => exact hrequest _ _
  | readCue => exact hrequest _ _
  | readPreset => exact hrequest _ _
  | readSelf => exact hrequest _ _
  | periodExpiry => exact keeps_whenRunning (by simp) (by simp)
  | sceneClockExpiry => exact keeps_whenRunning (by simp) (by simp)
  | intakeTake b => exact keeps_whenRunning (by simp) (by simp)
  | ageingExpiry order => exact keeps_whenRunning (by simp) (by simp)
  | sendingEnd b => exact keeps_whenRunning (by simp) (by simp)
  | programmingAcknowledged => exact keeps_whenRunning (by simp) (by simp)
  | programmingTimeout => exact keeps_whenRunning (by simp) (by simp)
  | periodCountExpiry =>
    unfold exec execPeriodCountExpiry
    exact keeps_whenRunning rfl rfl
  | backoffRegisterShift =>
    unfold exec execBackoffRegisterShift
    exact keeps_whenRunning rfl rfl
  | handSamplerExpiry readings closed => exact keeps_whenRunning (by simp) (by simp)
  | announceBuild =>
    unfold exec execAnnounceBuild
    exact keeps_whenDue (by simp) (by simp)
  | lateGap =>
    unfold exec execLateGap
    exact keeps_whenDue rfl rfl
  | stepPulseEmitted =>
    unfold exec execStepPulseEmitted
    exact keeps_whenDue rfl rfl
  | parserTimeout => exact keeps_whenDue rfl rfl
  | replySent =>
    unfold exec execReplySent
    exact keeps_whenDue rfl rfl
  | _ => exact keeps_whenDue (by simp) (by simp)

/-- Settles O2: the commands that are neither a start nor a reset's, then those two, then the carrier in and outside reset. -/
theorem everyCommandAnswersNext : Obligations.EveryCommandAnswersNext := by
  intro c s
  have hcarrier : ∀ (present : Bool) (f : State → State), (f s).pending = s.pending → (f s).resetHold = s.resetHold →
      ∃ t, carrierChange present f s = .next t ∧ t.pending = s.pending ∧ t.resetHold = s.resetHold ∧
        (s.resetHold.isSome = true → t = s.withLink { s.link with carrier := present }) := fun present f hp hr => by
    unfold carrierChange
    split
    · exact ⟨_, rfl, rfl, rfl, fun _ => rfl⟩
    · next hrun => exact ⟨_, rfl, hp, hr, fun h => absurd h hrun⟩
  have hother : (∀ r m, c ≠ .start r m) → (∀ k, c ≠ .resetEntered k) → c ≠ .carrierStart → c ≠ .carrierEnd →
      ∃ t, exec c s = .next t ∧ t.pending = s.pending ∧
        ((∀ r m, c ≠ .start r m) → (∀ k, c ≠ .resetEntered k) → t.resetHold = s.resetHold ∧
          (s.resetHold.isSome = true → t = s)) := fun hstart hreset hon hoff => by
    obtain ⟨t, hexec, hp, hr, hheld⟩ := exec_keeps c s hstart hreset hon hoff
    exact ⟨t, hexec, hp, fun _ _ => ⟨hr, hheld⟩⟩
  cases c with
  | start r m => exact ⟨_, rfl, by simp [beginStart, startValues], fun h => absurd rfl (h r m)⟩
  | resetEntered k => exact ⟨_, rfl, rfl, fun _ h => absurd rfl (h k)⟩
  | carrierStart =>
    obtain ⟨t, hexec, hp, hr, hheld⟩ := hcarrier true (fun s => s.withLink s.link.carrierOn) rfl rfl
    exact ⟨t, hexec, hp, fun _ _ => ⟨hr, hheld⟩⟩
  | carrierEnd =>
    obtain ⟨t, hexec, hp, hr, hheld⟩ := hcarrier false (fun s => if s.link.phase.onWire then s else s.withLink s.link.carrierOff)
      (by split <;> rfl) (by split <;> rfl)
    exact ⟨t, hexec, hp, fun _ _ => ⟨hr, hheld⟩⟩
  | _ => exact hother (fun _ _ h => by cases h) (fun _ h => by cases h) (fun h => by cases h) (fun h => by cases h)

/-! ## The start and the reset (R179, R180) -/

theorem foreignCarrier_eq (s : State) : s.foreignCarrier =
    (s.link.carrier && (s.resetHold.isSome || !decide (s.link.phase = .send ∨ s.link.phase = .jam))) := by
  unfold State.foreignCarrier SendPhase.onWire
  cases s.link.phase <;> simp

/-- A start leaves no commit under way (R109). -/
theorem interruptCommit_commit (m : MemorySupply) (s : State) : (interruptCommit m s).memory.commit = none := by
  unfold interruptCommit
  split
  · assumption
  · split <;> rfl

/-- Settles O3. -/
theorem startSetsEveryBlock : Obligations.StartSetsEveryBlock := by
  intro released m s
  have hcarrier : (interruptCommit (supplyUnder (worst s.resetHold released) m) s).foreignCarrier = s.foreignCarrier := by
    simp [State.foreignCarrier]
  refine ⟨beginStart released m s, rfl, ⟨rfl, rfl, rfl, rfl, rfl, rfl, rfl⟩, rfl, rfl, rfl, rfl, rfl, rfl, rfl,
    interruptCommit_commit _ s, rfl, rfl, rfl, rfl,
    ⟨rfl, rfl, rfl, rfl, rfl, rfl, rfl, rfl, rfl, rfl, rfl, rfl, rfl, rfl, rfl⟩, ?_, rfl, rfl, rfl, rfl,
    by simp [beginStart, startValues]⟩
  rw [← foreignCarrier_eq, ← hcarrier]
  rfl

theorem severity_worst (held : Option StartCause) (k : StartCause) :
    severity (worst held k) = max (severity k) ((held.map severity).getD 0) := by
  cases held with
  | none => simp [worst]
  | some h => cases h <;> cases k <;> rfl

/-- Settles O4. -/
theorem mostSevereConditionIsTheCause : Obligations.MostSevereConditionIsTheCause := by
  have hseed : ∀ cause, seed 0 cause = BitVec.ofNat 17 (65536 + (2 - severity cause)) := fun cause => by cases cause <;> rfl
  refine ⟨fun k s => ⟨_, _, rfl, rfl, severity_worst _ _, rfl, ?_, rfl⟩, fun k m s => ⟨_, rfl, severity_worst _ _, hseed _⟩⟩
  rw [← foreignCarrier_eq]
  rfl

/-! ## A page of the memory (R98, R109) -/

namespace Memory

/-- Bytes written are read back. -/
theorem readBytes_writeBytes {cells : List Host.Cell} (h : wf cells = true) (k : Nat) (bytes : List Byte) :
    readBytes (writeBytes cells k bytes) k bytes.length = bytes := by
  have hread : ∀ (l : List Byte) (a : Nat) (c : List Host.Cell),
      (∀ i, i < l.length → read c (a + i) = l.getD i 0) → readBytes c a l.length = l := fun l => by
    induction l with
    | nil => exact fun _ _ _ => rfl
    | cons b l ih =>
      intro a c hc
      rw [List.length_cons, readBytes, ih (a + 1) c fun i hi => ?_]
      · have hhead := hc 0 (by simp)
        simp only [Nat.add_zero, List.getD_cons_zero] at hhead
        rw [hhead]
      · have htail := hc (i + 1) (by simpa using hi)
        rwa [List.getD_cons_succ, show a + (i + 1) = a + 1 + i by omega] at htail
  refine hread bytes k _ fun i hi => ?_
  rw [read_writeBytes h, if_pos ⟨by omega, by omega⟩, Nat.add_sub_cancel_left]

theorem read_writeBytes_outside {cells : List Host.Cell} (h : wf cells = true) {k a : Nat} {bytes : List Byte}
    (ha : a < k ∨ k + bytes.length ≤ a) : read (writeBytes cells k bytes) a = read cells a := by
  rw [read_writeBytes h, if_neg (by omega)]

end Memory

theorem length_tornBytes (n : Nat) : (tornBytes n).length = 16 := by simp [tornBytes]

section Page

variable {s : State} (h : s.MemoryLaw) (i : Nat)
include h

theorem readPage_setPage {page : List Byte} (hpage : page.length = 16) :
    Memory.readBytes (s.setPage i page).memory.cells (pageOffset i) 16 = page := by
  have hread := Memory.readBytes_writeBytes h (pageOffset i) page
  rw [hpage] at hread
  exact hread

theorem read_setPage_outside {page : List Byte} (hpage : page.length = 16) {a : Nat}
    (ha : a < pageOffset i ∨ pageOffset i + 16 ≤ a) :
    Memory.read (s.setPage i page).memory.cells a = Memory.read s.memory.cells a :=
  Memory.read_writeBytes_outside h (hpage.symm ▸ ha)

end Page

section Interrupted

variable {s : State} {m : MemorySupply}

theorem interruptCommit_none (h : s.memory.commit = none) : interruptCommit m s = s := by simp only [interruptCommit, h]

/-- A memory that kept its supply through the commit holds the new page (R109). -/
theorem interruptCommit_finished {i : Nat} {page : List Byte} (h : s.memory.commit = some (i, page))
    (hm : m ≠ .lostInCommit) : (interruptCommit m s).memory.cells = (s.setPage i page).memory.cells ∧
      (interruptCommit m s).freeCount = s.freeCount := by
  cases m with
  | kept => simp [interruptCommit, h, State.setCommit, State.setPage]
  | lostAfterCommit => simp [interruptCommit, h, State.setCommit, State.setPage]
  | lostInCommit => exact absurd rfl hm

/-- A memory that lost its supply in the commit holds a torn page (R109, log 20). -/
theorem interruptCommit_torn {i : Nat} {page : List Byte} (h : s.memory.commit = some (i, page)) :
    (interruptCommit .lostInCommit s).memory.cells = (s.setPage i (tornBytes s.freeCount)).memory.cells ∧
      (interruptCommit .lostInCommit s).freeCount = s.freeCount + 1 := by
  simp [interruptCommit, h, State.setCommit, State.tearPage, State.setPage]

end Interrupted

/-- Settles O5: the commit finishes, or leaves the page torn. -/
theorem startEndsThePageWrite : Obligations.StartEndsThePageWrite := by
  intro k m s hmemory
  generalize hcause : worst s.resetHold k = cause
  have hstart : (beginStart k m s).start.cause = cause := hcause
  have hended : (beginStart k m s).memory = (interruptCommit (supplyUnder cause m) s).memory ∧
      (beginStart k m s).freeCount = (interruptCommit (supplyUnder cause m) s).freeCount := by
    rw [← hcause]
    exact ⟨rfl, rfl⟩
  refine ⟨beginStart k m s, rfl, ?_⟩
  rw [hstart, hended.1, hended.2]
  refine ⟨fun hnone => by rw [interruptCommit_none hnone]; exact ⟨rfl, rfl⟩, fun i page hcommit hpage => ?_⟩
  refine ⟨fun a ha => ?_, fun hkept => ?_, fun ⟨hpower, hlost⟩ => ?_⟩
  · by_cases hlost : supplyUnder cause m = .lostInCommit
    · rw [hlost, (interruptCommit_torn hcommit).1, read_setPage_outside hmemory i (length_tornBytes _) ha]
    · rw [(interruptCommit_finished hcommit hlost).1, read_setPage_outside hmemory i hpage ha]
  · have hsupply : supplyUnder cause m ≠ .lostInCommit := by
      obtain rfl | rfl | ⟨rfl, rfl⟩ := hkept
      · simp [supplyUnder]
      · cases cause <;> simp [supplyUnder]
      · simp [supplyUnder]
    obtain ⟨hcells, hfree⟩ := interruptCommit_finished hcommit hsupply
    rw [hcells, hfree, readPage_setPage hmemory i hpage]
    exact ⟨rfl, rfl⟩
  · have hsupply : supplyUnder cause m = .lostInCommit := by
      obtain rfl | rfl := hpower <;> simp [supplyUnder, hlost]
    obtain ⟨hcells, hfree⟩ := interruptCommit_torn hcommit
    rw [hsupply, hcells, hfree, readPage_setPage hmemory i (length_tornBytes _)]
    exact ⟨rfl, rfl⟩

/-! ## The laws after reset -/

/-- Settles O55: every block's start values meet the law that speaks of it. -/
theorem resetObeysTheLaws : Obligations.ResetObeysTheLaws := by
  have hblend := blendAxisLaw.initial State.reset rfl rfl rfl rfl
  have hclock : State.reset.OnTime := .of_initial rfl rfl rfl
  have hnone : ∀ ax, State.reset.axis? ≠ some ax := fun ax h => by
    rw [axis_of_no_record rfl] at h
    cases h
  exact ⟨.of_record_none rfl rfl, driveAxisLaw.initial State.reset rfl rfl rfl rfl, hblend.1, hblend.2,
    setpointAxisLaw.initial State.reset rfl rfl rfl rfl, ⟨fun ax hax => absurd hax (hnone ax), fun ax hax => absurd hax (hnone ax)⟩,
    hclock.laws.1, hclock.laws.2, (linkLaw_iff _).2 (.restarted .power false), .of_initial rfl rfl, .of_initial rfl,
    Memory.reset_wf⟩

end Sys2Proof.Machine

/-! Reading the record, loading the presets and the end of the announce window (spec/11_configuration_and_start.md sections
11.2 to 11.4): the statements O6, O8, O9 and O12. -/
namespace Sys2Proof.Machine

/-! ## The record as it is read (R181, R183) -/

theorem map_byteAt_range {bytes : List Byte} {n : Nat} (h : n ≤ bytes.length) (missing : Byte) :
    (List.range n).map (byteAt bytes missing) = bytes.take n := by
  refine List.ext_getElem (by simp [h]) fun i hi _ => ?_
  have hlt : i < bytes.length := by simp at hi; omega
  simp [byteAt, hlt]

section RecordRead

variable {bytes : List Byte} {s : State} {len : Nat} (hlen : len = (bytes.getD 0 0xFF).toNat)
include hlen

theorem recordRead_badLength (h : len < 8 ∨ 254 < len) : recordRead bytes s =
    refuseRecord .badCheck none (s.withStart { s.start with recordLength := some len }) := by
  subst hlen
  exact if_pos h

/-- A record of a length that R181 allows, all of it delivered: the CRC-16, then the checks. -/
theorem recordRead_whole (h8 : 8 ≤ len) (h254 : len ≤ 254) (hdelivered : len + 2 ≤ bytes.length) : recordRead bytes s =
    if (crc16 (bytes.take len)).toNat ≠ (bytes.getD len 0).toNat * 256 + (bytes.getD (len + 1) 0).toNat then
      refuseRecord .badCheck none (s.withStart { s.start with recordLength := some len })
    else match examine len (recordByte bytes len) with
      | .inl n => refuseRecord .badValue (some n)
          (s.withStart { s.start with recordLength := some len, checkWord := some (crc16 (bytes.take len)) })
      | .inr r => recordGood r
          (s.withStart { s.start with recordLength := some len, checkWord := some (crc16 (bytes.take len)) }) := by
  have hcheck : readNat (byteAt bytes 0xFF) len 2 = (bytes.getD len 0).toNat * 256 + (bytes.getD (len + 1) 0).toNat := by
    rw [readNat_two, byteAt_of_lt (by omega) _ 0, byteAt_of_lt (by omega) _ 0]
  rw [← map_byteAt_range (missing := 0xFF) (show len ≤ bytes.length by omega), ← hcheck]
  have hadmitted : ¬(len < 8 ∨ 254 < len) := by omega
  have hbyte : (byteAt bytes 0xFF 0).toNat = len := hlen.symm
  simp only [recordRead, hbyte, if_neg hadmitted]
  rfl

end RecordRead

theorem exec_recordReadComplete {s : State} (hrun : s.resetHold = none) (hphase : s.start.phase = .loadingRecord)
    (bytes : List Byte) : exec (.recordReadComplete bytes) s = .next (recordRead bytes s) :=
  whenDue_due hrun (by simp [hphase]) _

/-- Settles O6: the time-out, a length out of range, a CRC-16 that differs, and a check that fails. -/
theorem refusedRecordChangesOnlyTheVerdict : Obligations.RefusedRecordChangesOnlyTheVerdict := by
  intro s hrun hphase
  refine ⟨whenDue_due hrun (by simp [hphase]) _, fun bytes len hlen => ⟨fun hbad => ?_, fun h8 h254 hdelivered =>
    ⟨fun hcrc => ?_, fun hcrc n hexamined => ?_⟩⟩⟩
  · rw [exec_recordReadComplete hrun hphase, recordRead_badLength hlen hbad]
    rfl
  · rw [exec_recordReadComplete hrun hphase, recordRead_whole hlen h8 h254 hdelivered, if_pos hcrc]
    rfl
  · rw [exec_recordReadComplete hrun hphase, recordRead_whole hlen h8 h254 hdelivered, if_neg (Decidable.not_not.2 hcrc), hexamined]
    rfl

/-! ## What a queued frame leaves of the Link Controller -/

/-- The ring, the accept map and the shift register stand as they stood. -/
def LinkController.SameFilter (l l' : LinkController) : Prop :=
  l'.ring = l.ring ∧ l'.acceptMap = l.acceptMap ∧ l'.shiftReg = l.shiftReg

theorem enterWait_sameFilter (s : State) : s.link.SameFilter (enterWait s).link := by
  have hbegin : ∀ u : State, u.link.SameFilter (beginAttempt u).link := fun u => by
    obtain h | ⟨f, h⟩ := Option.eq_none_or_eq_some u.link.current
    · rw [beginAttempt_none h]
      exact ⟨rfl, rfl, rfl⟩
    · rw [beginAttempt_some h]
      exact ⟨rfl, rfl, rfl⟩
  unfold enterWait
  dsimp only
  split
  · exact hbegin (s.withLink { s.link with phase := .wait, backoff := 0 })
  · exact ⟨rfl, rfl, rfl⟩

theorem enqueuePeriodic_sameFilter (f : Frame) (s : State) : s.link.SameFilter (enqueuePeriodic f s).link := by
  have hmake : ∀ (g : Frame) (l : LinkController), s.link.SameFilter l → s.link.SameFilter (makeCurrent g (s.withLink l)).link :=
    fun g l hl => by
      obtain ⟨hring, hmap, hreg⟩ := enterWait_sameFilter ((s.withLink l).withLink { l with current := some g, attempts := 0, round := 1 })
      exact ⟨hring.trans hl.1, hmap.trans hl.2.1, hreg.trans hl.2.2⟩
  unfold enqueuePeriodic
  obtain hnone | ⟨c, hsome⟩ := Option.eq_none_or_eq_some s.link.current
  · obtain hcues | ⟨g, rest, hcues⟩ : s.link.cueSlots = [] ∨ ∃ g rest, s.link.cueSlots = g :: rest := by
      cases s.link.cueSlots <;> simp
    · simp only [hnone, chooseFrame, State.withLink_link, hcues, State.withLink_withLink]
      exact hmake f _ ⟨rfl, rfl, rfl⟩
    · simp only [hnone, chooseFrame, State.withLink_link, hcues, State.withLink_withLink]
      exact hmake g _ ⟨rfl, rfl, rfl⟩
  · simp only [hsome]
    split <;> exact ⟨rfl, rfl, rfl⟩

/-- The announce window opens with its first ANNOUNCE in the queue (R186). -/
theorem openWindow_queued {s : State} {r : Record} (hr : s.record = some r) :
    PeriodicQueued (announceFrame r s.start.cause (s.start.checkWord.getD 0)) ((openWindow s).withLink s.link) (openWindow s) ∧
    s.link.SameFilter (openWindow s).link := by
  have hbuild := buildAnnounce_eq (s := s.withStart { s.start with phase := .announcing, windowTimer := some 0 }) hr
  have hqueued := enqueuePeriodic_queued (announceFrame r s.start.cause (s.start.checkWord.getD 0))
    (s.withStart { s.start with phase := .announcing, windowTimer := some 0 })
  have hfilter := enqueuePeriodic_sameFilter (announceFrame r s.start.cause (s.start.checkWord.getD 0))
    (s.withStart { s.start with phase := .announcing, windowTimer := some 0 })
  have hopen : openWindow s = enqueuePeriodic (announceFrame r s.start.cause (s.start.checkWord.getD 0))
    (s.withStart { s.start with phase := .announcing, windowTimer := some 0 }) := hbuild
  refine ⟨hqueued.congr (s' := (openWindow s).withLink s.link) rfl (by simp) (by simp [State.address]) (by rw [hopen]) rfl, ?_⟩
  rw [hopen]
  exact hfilter

/-! ## A good record (R46, R131, R154, R162, R184) -/

/-- Settles O8: the two roles, each block's items as it is handed them. -/
theorem goodRecordIsHandedToTheBlocks : Obligations.GoodRecordIsHandedToTheBlocks := by
  intro bytes s len r hrun hphase hlen h8 h254 hdelivered hcrc hexamined
  have hread : recordRead bytes s = recordGood r
      (s.withStart { s.start with recordLength := some len, checkWord := some (crc16 (bytes.take len)) }) := by
    rw [recordRead_whole hlen h8 h254 hdelivered, if_neg (Decidable.not_not.2 hcrc), hexamined]
  rw [exec_recordReadComplete hrun hphase, hread]
  generalize hu : s.withStart { s.start with recordLength := some len, checkWord := some (crc16 (bytes.take len)) } = u
  cases hsettings : r.settings with
  | axis ax =>
    rw [recordGood_axis hsettings, ← hu]
    refine ⟨_, rfl, rfl, rfl, rfl, rfl, rfl, rfl, rfl, rfl, fun ax' hax => ?_, fun ax' _ => rfl, fun cals hcals => ?_, rfl, rfl,
      rfl, rfl, rfl, rfl, rfl, rfl⟩
    · cases hax
      refine ⟨rfl, rfl, rfl, fun hguard => ?_, fun g hguard => ?_, rfl, rfl, rfl, rfl⟩
      · simp [takeRecordAxis, takeRecordBoth, CouplingUnit.configured, hguard]
      · simp [takeRecordAxis, takeRecordBoth, CouplingUnit.configured, hguard, safeLimit, clamp]
    · cases hcals
  | hand cals =>
    rw [recordGood_hand hsettings]
    generalize hv : ((((takeRecordBoth r u).withBlend .initial).withCoupling .initial).withLimiter .initial).withDrive .initial = v
    have htaken : takeRecordHand (takeRecordBoth r u) = openWindow v := by rw [← hv]; rfl
    have hlink : v.link = { s.link with acceptMap := acceptMapOf r.peers,
                                        shiftReg := BitVec.ofNat 17 (65536 + r.address * 4 + causeNumber s.start.cause) } := by
      rw [← hv, ← hu]
      rfl
    obtain ⟨hqueued, hring, hmap, hreg⟩ := openWindow_queued (s := v) (r := r) (by rw [← hv]; rfl)
    have hmap' : (openWindow v).link.acceptMap = acceptMapOf r.peers := by rw [hmap, hlink]
    have hreg' : (openWindow v).link.shiftReg = BitVec.ofNat 17 (65536 + r.address * 4 + causeNumber s.start.cause) := by
      rw [hreg, hlink]
    rw [htaken]
    refine ⟨openWindow v, rfl, ?_, ?_, ?_, ?_, ?_, ?_, hmap', hreg', fun ax hax => ?_, fun ax hax => ?_, fun cals' _ => ?_,
      ?_, ?_, ?_, ?_, ?_, ?_, ?_, by rw [hring, hlink]⟩
    case refine_7 | refine_8 => cases hax
    case refine_9 =>
      refine ⟨by simp, by simp, ?_, ?_, ?_, ?_, ?_, ?_⟩
      case refine_6 =>
        rw [hmap', hreg', ← hlink]
        rw [← hv, ← hu] at hqueued ⊢
        exact hqueued
      all_goals
        rw [← hv, ← hu]
        simp [takeRecordBoth]
    all_goals
      rw [← hv, ← hu]
      simp [takeRecordBoth]
    exact fun p _ => rfl

/-! ## Loading the presets (R99, R185) -/

/-- What the load of one entry leaves: before the last page the table and the counter alone; the last page opens the
announce window besides. -/
theorem loadEntry_loaded {s : State} {r : Record} (hr : s.record = some r) (hpage : s.start.nextPage < 64) (body : PresetBody) :
    (loadEntry body s).presets = { s.presets with table := s.presets.table.set s.start.nextPage ⟨body, .saved⟩ } ∧
    (s.start.nextPage < 63 → (loadEntry body s).start = { s.start with nextPage := s.start.nextPage + 1 } ∧
      ((loadEntry body s).withPresets s.presets).withStart s.start = s) ∧
    (s.start.nextPage = 63 →
      (loadEntry body s).start = { s.start with nextPage := 64, phase := .announcing, windowTimer := some 0 } ∧
      PeriodicQueued (announceFrame r s.start.cause (s.start.checkWord.getD 0)) ((loadEntry body s).withLink s.link)
        (loadEntry body s) ∧
      (((loadEntry body s).withPresets s.presets).withStart s.start).withLink s.link = s) := by
  generalize hu : (s.withPresets (s.presets.setEntry s.start.nextPage ⟨body, .saved⟩)).withStart
    { s.start with nextPage := s.start.nextPage + 1 } = u
  have hload : loadEntry body s = if 64 ≤ s.start.nextPage + 1 then openWindow u else u := by rw [← hu]; rfl
  have hpresets : u.presets = { s.presets with table := s.presets.table.set s.start.nextPage ⟨body, .saved⟩ } := by
    rw [← hu]
    rfl
  have hstart : u.start = { s.start with nextPage := s.start.nextPage + 1 } := by rw [← hu]; rfl
  have hlink : u.link = s.link := by rw [← hu]; rfl
  have hothers : (u.withPresets s.presets).withStart s.start = s := by rw [← hu]; rfl
  obtain hmore | hlast : s.start.nextPage < 63 ∨ s.start.nextPage = 63 := by omega
  · rw [hload, if_neg (by omega)]
    exact ⟨hpresets, fun _ => ⟨hstart, hothers⟩, fun h => by omega⟩
  · obtain ⟨hqueued, -⟩ := openWindow_queued (s := u) (r := r) (by rw [← hu]; exact hr)
    rw [hload, if_pos (by omega)]
    refine ⟨by simpa using hpresets, fun h => by omega, fun _ => ⟨by simp [hstart, hlast], ?_, ?_⟩⟩
    · rw [hstart, hlink] at hqueued
      exact hqueued
    · refine Eq.trans ?_ hothers
      apply State.ext <;> simp [← hu]

namespace Memory

theorem getD_readBytes (cells : List Host.Cell) {i n : Nat} (h : i < n) (a : Nat) :
    (readBytes cells a n).getD i 0 = read cells (a + i) := by
  induction n generalizing a i with
  | zero => omega
  | succ n ih =>
    cases i with
    | zero => rfl
    | succ i =>
      rw [readBytes, List.getD_cons_succ, ih (by omega), show a + 1 + i = a + (i + 1) by omega]

end Memory

/-- Settles O9: the page that a read delivers, and what its entry's load leaves. -/
theorem pageReadLoadsItsEntry : Obligations.PageReadLoadsItsEntry := by
  intro s r hrun hphase hr hpage hmemory
  refine ⟨fun page => ?_, ⟨loadEntry .invalid s, whenDue_due hrun (by simp [hphase]) _, loadEntry_loaded hr hpage .invalid⟩⟩
  intro bytes
  obtain ⟨u, hu, hothers, hstart, hpresets, hlink, hcommit, hbytes, hread⟩ : ∃ u : State, deliver page s = u ∧
      u.withMemory s.memory = s ∧ u.start = s.start ∧ u.presets = s.presets ∧ u.link = s.link ∧
      u.memory.commit = s.memory.commit ∧
      Memory.readBytes u.memory.cells (pageOffset s.start.nextPage) 16 = bytes ∧
      ∀ a, Memory.read u.memory.cells a = if pageOffset s.start.nextPage ≤ a ∧ a < pageOffset s.start.nextPage + 16 then
        bytes.getD (a - pageOffset s.start.nextPage) 0 else Memory.read s.memory.cells a := by
    cases page with
    | held =>
      refine ⟨s, rfl, rfl, rfl, rfl, rfl, rfl, rfl, fun a => ?_⟩
      split
      · next ha =>
        rw [Memory.getD_readBytes _ (by omega), Nat.add_sub_cancel' ha.1]
      · rfl
    | written p =>
      have hlength : p.toList.length = 16 := by simp
      refine ⟨s.setPage s.start.nextPage p.toList, rfl, rfl, rfl, rfl, rfl, rfl, readPage_setPage hmemory _ hlength, fun a => ?_⟩
      have hwritten := Memory.read_writeBytes hmemory (pageOffset s.start.nextPage) a p.toList
      rw [hlength] at hwritten
      exact hwritten
  have hrecord : u.record = some r := by rw [← hu]; cases page <;> simpa [deliver] using hr
  have hpageRead : pageRead page s = loadEntry (loadPage r.fps bytes) u := by
    have hfps : u.fps = r.fps := by simp [State.fps, hrecord]
    have hbytes' : Memory.readBytes u.memory.cells (pageOffset u.start.nextPage) Config.pageSize = bytes := by
      rw [hstart]
      exact hbytes
    rw [pageRead, hu, hfps, hbytes']
  obtain ⟨htable, hmore, hlast⟩ := loadEntry_loaded hrecord (hstart ▸ hpage) (loadPage r.fps bytes)
  rw [hstart, hpresets] at htable hmore hlast
  rw [hlink] at hlast
  have hmem : (loadEntry (loadPage r.fps bytes) u).memory = u.memory := by simp
  refine ⟨_, whenDue_due hrun (by simp [hphase]) _, ?_⟩
  rw [hpageRead, hmem]
  refine ⟨hread, hcommit, htable, fun h => ⟨(hmore h).1, ?_⟩, fun h => ⟨(hlast h).1, (hlast h).2.1, ?_⟩⟩
  · exact (congrArg (State.withMemory · s.memory) (hmore h).2).trans hothers
  · exact (congrArg (State.withMemory · s.memory) (hlast h).2.2).trans hothers

/-! ## The end of the announce window (R17, R148, R169, R187) -/

/-- With no condition standing the axis leaves START for PARKED (R17, R87). -/
theorem leaveStart_parks {s : State} {ax : AxisSettings} (hax : s.axis? = some ax) (hnone : s.drive.standing = []) :
    leaveStart s = enterMove .parked s := by
  rw [leaveStart_axis hax, endOfStart_eq, hnone]
  rfl

theorem standing_eq_nil {d : DrivePort} (hrun : d.failureRun < 5) (hlow : d.low.state ≠ .active) (hhigh : d.high.state ≠ .active)
    (hamp : d.amp.state ≠ .active) : d.standing = [] := by
  have hfeedback : ¬Config.feedbackRun ≤ d.failureRun := Nat.not_le.2 hrun
  simp only [DrivePort.standing, if_neg hfeedback, if_neg hlow, if_neg hhigh, if_neg hamp, List.append_nil]

/-- RUNNING begins, the frame period timer with it (R187). -/
def windowClosed (s : State) : State :=
  (s.withStart { s.start with phase := .running, windowTimer := none }).withLink { s.link with periodTimer := true }

theorem windowEnds_eq (frameFirst : Bool) (s : State) : windowEnds frameFirst s =
    if frameFirst then leaveStart (buildPeriodic (windowClosed s).periodicContents (windowClosed s))
    else buildPeriodic (leaveStart (windowClosed s)).periodicContents (leaveStart (windowClosed s)) := rfl

/-- The first periodic frame's place in the queue, built in `v` as the frame period timer has started. -/
theorem firstPeriodic_queued {s v t : State} {contents : Contents} (hlink : v.link = (windowClosed s).link)
    (hclock : t.clock = v.clock) (haddress : t.address = v.address) (ht : t.link = (buildPeriodic contents v).link) :
    PeriodicQueued (periodicFrame contents v) (t.withLink { s.link with
      periodTimer := true, nextSequence := some ((s.link.nextSequence.getD (s.link.shiftReg.toNat % 256) + 1) % 256) }) t := by
  have hbuilt := buildPeriodic_queued contents v
  rw [hlink] at hbuilt
  exact hbuilt.congr rfl hclock haddress ht rfl

theorem periodicFrame_sequence {s v : State} (hlink : v.link = (windowClosed s).link) (contents : Contents) :
    (periodicFrame contents v).sequence = s.link.nextSequence.getD (s.link.shiftReg.toNat % 256) := by
  show v.link.nextSequence.getD (v.link.shiftReg.toNat % 256) = _
  rw [hlink]
  rfl

/-- Settles O12: the frame before or after the change of move state, and the hand station's. -/
theorem windowEndStartsPeriodicFrames : Obligations.WindowEndStartsPeriodicFrames := by
  intro frameFirst s w hrun hphase htimer n timed
  have hexec := exec_announceWindowEnd hrun hphase htimer frameFirst
  rw [windowEnds_eq] at hexec
  refine ⟨fun ax hax hmove hrun5 hlow hhigh hamp => ?axis, fun cals hhand => ?hand⟩
  case axis =>
    have hnone : s.drive.standing = [] := standing_eq_nil hrun5 hlow hhigh hamp
    cases frameFirst with
    | true =>
      have hparks : leaveStart (buildPeriodic (windowClosed s).periodicContents (windowClosed s)) =
          enterMove .parked (buildPeriodic (windowClosed s).periodicContents (windowClosed s)) :=
        leaveStart_parks (ax := ax) (by simpa [windowClosed, State.axis?] using hax) (by simpa [windowClosed] using hnone)
      rw [if_pos rfl, hparks] at hexec
      have hcontents : (windowClosed s).periodicContents = .state (windowClosed s).stateContents :=
        periodicContents_axis (by simp [windowClosed, hax])
      refine ⟨_, periodicFrame (windowClosed s).periodicContents (windowClosed s), hexec, by simp [windowClosed],
        by simp [windowClosed], by simp [windowClosed, MoveState.driveEnable, MoveState.brakeOutput],
        periodicFrame_sequence rfl _, rfl, ?_, ?_, firstPeriodic_queued rfl (by simp) (by simp [State.address]) (by simp), ?_⟩
      · rw [hcontents]
        rfl
      · rw [hcontents]
        simp only [periodicFrame, State.stateContents, if_true, windowClosed, State.withLink_blend, State.withStart_blend, hmove]
        rfl
      · apply State.ext <;> simp [windowClosed]
    | false =>
      have hparks : leaveStart (windowClosed s) = enterMove .parked (windowClosed s) :=
        leaveStart_parks (ax := ax) (by simpa [windowClosed, State.axis?] using hax) hnone
      rw [if_neg Bool.false_ne_true, hparks] at hexec
      have hcontents : (enterMove .parked (windowClosed s)).periodicContents = .state (enterMove .parked (windowClosed s)).stateContents :=
        periodicContents_axis (by simp [windowClosed, hax])
      refine ⟨_, periodicFrame (enterMove .parked (windowClosed s)).periodicContents (enterMove .parked (windowClosed s)), hexec,
        by simp [windowClosed], by simp [windowClosed], by simp [windowClosed, MoveState.driveEnable, MoveState.brakeOutput],
        periodicFrame_sequence (by simp) _, rfl, ?_, ?_,
        firstPeriodic_queued (by simp) (by simp) (by simp [State.address]) rfl, ?_⟩
      · rw [hcontents]
        rfl
      · rw [hcontents]
        rfl
      · apply State.ext <;> simp [windowClosed]
  case hand =>
    have hax : s.axis? = none := axis_none_of_hand (by simp [hhand])
    have hstays : ∀ u : State, u.axis? = none → leaveStart u = u := fun u hu => by simp [leaveStart, hu]
    have haxu : (windowClosed s).axis? = none := hax
    have hsame : (if frameFirst then leaveStart (buildPeriodic (windowClosed s).periodicContents (windowClosed s))
        else buildPeriodic (leaveStart (windowClosed s)).periodicContents (leaveStart (windowClosed s))) =
        buildPeriodic (windowClosed s).periodicContents (windowClosed s) := by
      rw [hstays _ haxu, hstays _ (by simpa using haxu), ite_self]
    rw [hsame] at hexec
    refine ⟨_, periodicFrame (windowClosed s).periodicContents (windowClosed s), hexec, by simp [windowClosed],
      periodicFrame_sequence rfl _, rfl, periodicContents_hand haxu, firstPeriodic_queued rfl (by simp)
      (by simp [State.address]) rfl, ?_⟩
    apply State.ext <;> simp [windowClosed]

end Sys2Proof.Machine

/-! The writer of the Preset Store (spec/06_preset_store.md section 6.4): what the end of a record in flight leaves of the
table and the list, and the statement O39. -/
namespace Sys2Proof.Machine

/-! ## The end of the record in flight (R106, R107) -/

namespace PresetStore

variable {t : PresetStore}

theorem setSave_body (h : t.table.length = 64) {i : Nat} (hi : i < 64) (v : SaveState) (j : Nat) :
    ((t.setSave i v).entry j).body = (t.entry j).body := by
  by_cases hji : j = i
  · subst hji
    rw [setSave, entry_setEntry_same (by omega)]
  · rw [entry_setSave_ne hji]

/-- The store at the end of a record in flight, before the writer goes on. -/
def ended (t : PresetStore) (i : Nat) (v : SaveState) : PresetStore :=
  { t.setSave i (if i ∈ t.writeBack then .waiting else v) with inFlight := none }

theorem finish_eq (t : PresetStore) (f : InFlight) (v : SaveState) : t.finish f v = (t.ended f.index v).startWriter := by
  simp only [finish, ended, List.contains_iff_mem]

theorem finish_nil {f : InFlight} {v : SaveState} (h : t.writeBack = []) : t.finish f v = t.ended f.index v := by
  have hlist : (t.ended f.index v).writeBack = [] := h
  have hidle : (t.ended f.index v).inFlight = none := rfl
  rw [finish_eq]
  simp only [startWriter, hidle, hlist]

theorem finish_cons {f : InFlight} {v : SaveState} {j : Nat} {rest : List Nat} (h : t.writeBack = j :: rest) :
    t.finish f v = ({ t.ended f.index v with writeBack := rest }.setSave j .writing).attempt j 1 := by
  rw [finish_eq]
  exact startWriter_idle rfl h

theorem ended_save (h : t.table.length = 64) {i : Nat} (hi : i < 64) (v : SaveState) :
    ((t.ended i v).entry i).save = if i ∈ t.writeBack then .waiting else v := entry_setSave_same (by omega) _

theorem ended_entry_ne {i j : Nat} (hji : j ≠ i) (v : SaveState) : (t.ended i v).entry j = t.entry j := entry_setSave_ne hji _

theorem ended_body (h : t.table.length = 64) {i : Nat} (hi : i < 64) (v : SaveState) (j : Nat) :
    ((t.ended i v).entry j).body = (t.entry j).body := setSave_body h hi _ j

end PresetStore

/-- The end of the record in flight, as the statements say it (R105, R106, R107). -/
theorem writerFinished {s t : State} (h : s.presets.Sound) {f : InFlight} (hindex : f.index < 64) {v : SaveState}
    (ht : t.presets = s.presets.finish f v) : WriterFinished s t f.index v := by
  have hsize := h.listed.size
  obtain hlist | ⟨j, rest, hlist⟩ : s.presets.writeBack = [] ∨ ∃ j rest, s.presets.writeBack = j :: rest := by
    cases s.presets.writeBack <;> simp
  · rw [PresetStore.finish_nil hlist] at ht
    refine ⟨fun hnot => ?_, fun hin => ?_, fun j => ?_, fun j hj _ => ?_, fun _ => ?_, fun j rest hcons => ?_⟩
    · rw [ht, PresetStore.ended_save hsize hindex, if_neg hnot]
    · simp [hlist] at hin
    · rw [ht, PresetStore.ended_body hsize hindex]
    · rw [ht, PresetStore.ended_entry_ne hj]
    · rw [ht]
      exact ⟨hlist, rfl⟩
    · simp [hlist] at hcons
  · rw [PresetStore.finish_cons hlist] at ht
    have hj : j < 64 := h.listed.known j (by simp [hlist])
    have hendedSize : (s.presets.ended f.index v).table.length = 64 := (PresetStore.length_setEntry _ _ _).trans hsize
    have hwriting : (t.presets.entry j).save = .writing := by
      rw [ht]
      exact PresetStore.entry_setSave_same (t := { s.presets.ended f.index v with writeBack := rest }) (hendedSize.symm ▸ hj) _
    have hother : ∀ k, k ≠ j → t.presets.entry k = (s.presets.ended f.index v).entry k := fun k hk => by
      rw [ht]
      exact PresetStore.entry_setSave_ne (t := { s.presets.ended f.index v with writeBack := rest }) hk _
    refine ⟨fun hnot => ?_, fun hin => ?_, fun k => ?_, fun k hk hhead => ?_, fun hnil => ?_, fun k tail hcons => ?_⟩
    · have hne : f.index ≠ j := fun heq => hnot (by simp [hlist, heq])
      rw [hother _ hne, PresetStore.ended_save hsize hindex, if_neg hnot]
    · rw [hlist, List.head?_cons]
      by_cases heq : j = f.index
      · rw [if_pos (by rw [heq]), ← heq, hwriting]
      · rw [if_neg (by simpa using heq), hother _ (Ne.symm heq), PresetStore.ended_save hsize hindex, if_pos hin]
    · rw [ht]
      refine Eq.trans ?_ (PresetStore.ended_body hsize hindex v k)
      exact PresetStore.setSave_body (t := { s.presets.ended f.index v with writeBack := rest }) hendedSize hj _ k
    · have hne : k ≠ j := fun heq => hhead (by simp [hlist, heq])
      rw [hother k hne, PresetStore.ended_entry_ne hk]
    · simp [hlist] at hnil
    · obtain ⟨rfl, rfl⟩ := List.cons.inj (hlist.symm.trans hcons)
      refine ⟨by rw [ht]; rfl, hwriting, by rw [ht]; rfl⟩

/-! ## The writer's events (R104, R106, R107) -/

theorem attemptFailed_again {f : InFlight} (h : f.attempt < 3) (s : State) :
    attemptFailed f s = s.withPresets (s.presets.attempt f.index (f.attempt + 1)) := if_pos h

theorem attemptFailed_last {f : InFlight} (h : f.attempt = 3) (s : State) :
    attemptFailed f s = (s.withPresets (s.presets.finish f .unsaved)).withFlags (s.flags ||| 0x04) := by
  rw [attemptFailed, if_neg (by rw [h]; decide)]
  rfl

section Writer

variable {s : State} {i n : Nat} {page : List Byte}

theorem sendingEnd_eq (h : s.presets.inFlight = some ⟨i, n, .sending, page⟩) (acknowledged : Bool) :
    sendingEnd acknowledged s = if acknowledged then
      (s.withPresets { s.presets with inFlight := some ⟨i, n, .programming, page⟩ }).setCommit (some (i, page))
      else attemptFailed ⟨i, n, .sending, page⟩ s := by simp only [sendingEnd, h]

theorem programmingDone_eq (h : s.presets.inFlight = some ⟨i, n, .programming, page⟩) : programmingDone s =
    ((s.setPage i page).setCommit none).withPresets (s.presets.finish ⟨i, n, .programming, page⟩ .saved) := by
  simp only [programmingDone, h]

theorem programmingFailed_eq (h : s.presets.inFlight = some ⟨i, n, .programming, page⟩) : programmingFailed s =
    attemptFailed ⟨i, n, .programming, page⟩ ((s.tearPage i).setCommit none) := by
  simp only [programmingFailed, h]

end Writer

/-- Settles O39: a page acknowledged or not, in either phase, before the third attempt and at it. -/
theorem writerTriesThreeTimes : Obligations.WriterTriesThreeTimes := by
  intro s i n page hrun hstore hmemory
  have hsent : ∀ b, exec (.sendingEnd b) s = .next (sendingEnd b s) := fun b => whenRunning_running hrun _
  have hdone : exec .programmingAcknowledged s = .next (programmingDone s) := whenRunning_running hrun _
  have hfailed : exec .programmingTimeout s = .next (programmingFailed s) := whenRunning_running hrun _
  have hindex : ∀ phase, s.presets.inFlight = some ⟨i, n, phase, page⟩ → i < 64 := fun phase h => (hstore.attempts _ h).1
  refine ⟨fun h => ⟨?_, fun hn => ?_, fun hn => ?_⟩, fun h hpage => ⟨?_, ?_⟩⟩
  · rw [hsent, sendingEnd_eq h, if_pos rfl]
    rfl
  · rw [hsent, sendingEnd_eq h, if_neg Bool.false_ne_true, attemptFailed_again hn]
    rfl
  · rw [hsent, sendingEnd_eq h, if_neg Bool.false_ne_true, attemptFailed_last hn]
    exact ⟨_, rfl, writerFinished hstore.sound (f := ⟨i, n, .sending, page⟩) (hindex _ h) rfl, rfl, rfl⟩
  · rw [hdone, programmingDone_eq h]
    exact ⟨_, rfl, writerFinished hstore.sound (f := ⟨i, n, .programming, page⟩) (hindex _ h) rfl, rfl,
      readPage_setPage hmemory i hpage, fun a ha => read_setPage_outside hmemory i hpage ha, rfl⟩
  · rw [hfailed, programmingFailed_eq h]
    generalize hu : (s.tearPage i).setCommit none = u
    have hcells : u.memory.cells = (s.setPage i (tornBytes s.freeCount)).memory.cells := by
      simp [← hu, State.setCommit, State.tearPage, State.setPage]
    have hcommit : u.memory.commit = none := by rw [← hu]; rfl
    have hfree : u.freeCount = s.freeCount + 1 := by simp [← hu, State.tearPage]
    have hpresets : u.presets = s.presets := by simp [← hu]
    have hflags : u.flags = s.flags := by simp [← hu]
    have hothers : (u.withMemory s.memory).withFreeCount s.freeCount = s := by
      apply State.ext <;> simp [← hu]
    have hattempt := hstore.attempts _ h
    obtain ⟨-, -, hn3⟩ := hattempt
    have hlength := length_tornBytes s.freeCount
    have htorn := readPage_setPage hmemory i hlength
    have houtside := fun a (ha : a < pageOffset i ∨ pageOffset i + 16 ≤ a) => read_setPage_outside hmemory i hlength ha
    rw [← hcells] at htorn
    simp only [← hcells] at houtside
    obtain hlt | heq : n < 3 ∨ n = 3 := Nat.lt_or_eq_of_le hn3
    · rw [attemptFailed_again (f := ⟨i, n, .programming, page⟩) hlt]
      refine ⟨_, rfl, hcommit, hfree, htorn, houtside, fun _ => ⟨hflags, ?_⟩, fun h3 => absurd h3 (Nat.ne_of_lt hlt), ?_⟩
      · rw [State.withPresets_presets, hpresets]
        rfl
      · refine Eq.trans ?_ hothers
        apply State.ext <;> simp [hpresets, hflags]
    · rw [attemptFailed_last (f := ⟨i, n, .programming, page⟩) heq]
      refine ⟨_, rfl, hcommit, hfree, htorn, houtside, fun h3 => absurd heq (Nat.ne_of_lt h3), fun _ => ⟨?_, ?_⟩, ?_⟩
      · rw [State.withFlags_flags, hflags]
      · exact writerFinished hstore.sound (f := ⟨i, n, .programming, page⟩) (hindex _ h)
          (by rw [State.withFlags_presets, State.withPresets_presets, hpresets])
      · refine Eq.trans ?_ hothers
        apply State.ext <;> simp [hpresets, hflags]

end Sys2Proof.Machine

/-! The panel parser and the requests (spec/10_hand_role_and_panel_line.md sections 10.3 to 10.5, 12_formats.md section 12.3):
the record as it is taken, how a request is answered, and the statement O52. -/
namespace Sys2Proof.Machine

/-! ## The records of the panel line (R170) -/

theorem byteSum_append_singleton (l : List Byte) (b : Byte) : byteSum (l ++ [b]) = byteSum l + b := by
  simp [byteSum, List.foldl_append]

theorem byteSum_panelRecord (body : List Byte) : byteSum (panelRecord body) = 0 := by
  rw [panelRecord, byteSum_append_singleton]
  exact BitVec.add_right_neg _

theorem panelRecord_eq_rawRecord (body : List Byte) :
    panelRecord body = rawRecord body (-(byteSum (0xA5#8 :: BitVec.ofNat 8 body.length :: body))) := rfl

/-- Between start byte, length and check stands the body. -/
theorem body_rawRecord (body : List Byte) (check : Byte) : ((rawRecord body check).drop 2).dropLast = body := by
  simp [rawRecord]

/-! ## A complete record (R172) -/

theorem requestOf_code (r : Request) : requestOf r.code = some r := by cases r <;> rfl

theorem requestOf_eq_none_iff (b : Byte) : requestOf b = none ↔ b.toNat < 0x11 ∨ 0x18 < b.toNat := by
  simp only [requestOf, List.find?_eq_none, List.mem_cons, List.not_mem_nil, or_false, forall_eq_or_imp, forall_eq,
    Request.code, beq_iff_eq]
  bv_omega

theorem code_of_requestOf {b : Byte} {r : Request} (h : requestOf b = some r) : r.code = b := by
  simpa using List.find?_some h

section TakeRecord

variable {record : List Byte} {kind : Byte} (hkind : byteAt ((record.drop 2).dropLast) 0 0 = kind) (s : State)
include hkind

/-- A refused record leaves the reply alone. -/
theorem takeRecord_refused {v : Status} (h : ∀ u : State, answerBody (byteSum record == 0) ((record.drop 2).dropLast) u = refuse u v) :
    takeRecord record (setParser .body record s) = s.withPanel (s.panel.replied record kind v []) := by
  simp only [takeRecord, h, hkind]
  rfl

theorem takeRecord_badSum (h : byteSum record ≠ 0) :
    takeRecord record (setParser .body record s) = s.withPanel (s.panel.replied record kind .badFrame []) :=
  takeRecord_refused hkind s fun u => by simp only [answerBody, beq_eq_false_iff_ne.2 h, Bool.not_false, if_true]

theorem takeRecord_unknownKind (h : byteSum record = 0) (hnone : requestOf kind = none) :
    takeRecord record (setParser .body record s) = s.withPanel (s.panel.replied record kind .badField []) :=
  takeRecord_refused hkind s fun u => by
    simp only [answerBody, h, hkind, hnone, beq_self_eq_true, Bool.not_true, Bool.false_eq_true, if_false]

theorem takeRecord_badLength (h : byteSum record = 0) {r : Request} (hr : requestOf kind = some r)
    (hlength : ((record.drop 2).dropLast).length ≠ r.length) :
    takeRecord record (setParser .body record s) = s.withPanel (s.panel.replied record kind .badFrame []) :=
  takeRecord_refused hkind s fun u => by simp only [answerBody, h, hkind, hr, if_pos hlength]; rfl

end TakeRecord

/-! ## A request received whole in HUNT (R172, log 6) -/

section Requests

variable {s : State} {r : Request} {fields : List Byte}

/-- A request in its own length is answered from the station with the record in its buffer. -/
theorem receiveRequest_hunt (hhunt : s.panel.phase = .hunt) (hlength : fields.length + 1 = r.length) :
    receiveRequest r fields s =
      let u := setParser .body (panelRecord (r.code :: fields)) s
      let a := if s.serves r then serve r (r.code :: fields) u else refuse u .wrongRole
      startReply r.code a.status a.items a.state := by
  have hsize : (r.code :: fields).length ≤ 250 := by
    rw [List.length_cons, hlength]
    cases r <;> decide
  rw [receiveRequest, panelRecord_eq_rawRecord, receiveBytes_hunt _ _ s hhunt (by simp) hsize, ← panelRecord_eq_rawRecord]
  have hbody : ((panelRecord (r.code :: fields)).drop 2).dropLast = r.code :: fields := by
    rw [panelRecord_eq_rawRecord, body_rawRecord]
  have hserves : (setParser .body (panelRecord (r.code :: fields)) s).serves r = s.serves r := rfl
  have hhead : byteAt (r.code :: fields) 0 0 = r.code := rfl
  have hnot : ¬(r.code :: fields).length ≠ r.length := Decidable.not_not.2 hlength
  simp only [takeRecord, hbody, byteSum_panelRecord, answerBody, hhead, requestOf_code, if_neg hnot, hserves, beq_self_eq_true,
    Bool.not_true, Bool.false_eq_true, if_false, Bool.not_eq_true']
  cases s.serves r <;> rfl

/-- A request that is not served is WRONG_ROLE (R172). -/
theorem receiveRequest_wrongRole (hhunt : s.panel.phase = .hunt) (hlength : fields.length + 1 = r.length)
    (hserves : s.serves r = false) : receiveRequest r fields s =
      s.withPanel (s.panel.replied (panelRecord (r.code :: fields)) r.code .wrongRole []) := by
  rw [receiveRequest_hunt hhunt hlength]
  simp only [hserves, Bool.false_eq_true, if_false]
  rfl

/-- A request that is served and changes nothing is answered with its status and items (R172). -/
theorem receiveRequest_answered (hhunt : s.panel.phase = .hunt) (hlength : fields.length + 1 = r.length)
    (hserves : s.serves r = true) {v : Status} {items : List Byte}
    (hserve : serve r (r.code :: fields) (setParser .body (panelRecord (r.code :: fields)) s) =
      ⟨setParser .body (panelRecord (r.code :: fields)) s, v, items⟩) : receiveRequest r fields s =
      s.withPanel (s.panel.replied (panelRecord (r.code :: fields)) r.code v items) := by
  rw [receiveRequest_hunt hhunt hlength]
  simp only [hserves, if_true, hserve]
  rfl

end Requests

/-! ## The parser (R171) -/

theorem exec_panelByteReceived {s : State} (hrun : s.resetHold = none) (b : Byte) :
    exec (.panelByteReceived b) s = .next (receiveByte s b) := by
  unfold exec execPanelByteReceived
  exact whenRunning_running hrun _

theorem receiveByte_hunt {s : State} (h : s.panel.phase = .hunt) (b : Byte) :
    receiveByte s b = if b = 0xA5 then setParser .length [b] s else s := by simp only [receiveByte, h]

theorem receiveByte_length {s : State} (h : s.panel.phase = .length) (b : Byte) : receiveByte s b =
    if 1 ≤ b.toNat ∧ b.toNat ≤ 250 then setParser .body (s.panel.buffer ++ [b]) s else startReply 0 .badFrame [] s := by
  simp only [receiveByte, h]

/-- A byte of a body: the record is complete at its length, and is taken. -/
theorem receiveByte_body {s : State} (h : s.panel.phase = .body) (h2 : 2 ≤ s.panel.buffer.length) (b : Byte) : receiveByte s b =
    if s.panel.buffer.length + 1 = (s.panel.buffer.getD 1 0).toNat + 3
      then takeRecord (s.panel.buffer ++ [b]) (setParser .body (s.panel.buffer ++ [b]) s)
      else setParser .body (s.panel.buffer ++ [b]) s := by
  have hlength : byteAt (s.panel.buffer ++ [b]) 0 1 = s.panel.buffer.getD 1 0 := by
    simp [byteAt, List.getElem?_append_left (show 1 < s.panel.buffer.length by omega)]
  simp only [receiveByte, h, hlength, List.length_append, List.length_singleton]

theorem receiveByte_reply {s : State} (h : s.panel.phase = .reply) (b : Byte) : receiveByte s b = s := by
  simp only [receiveByte, h]

theorem takeRecord_replies (record : List Byte) (s : State) :
    (takeRecord record (setParser .body record s)).panel.phase = .reply ∧
    (takeRecord record (setParser .body record s)).panel.buffer = record := by
  have hanswer : (answerBody (byteSum record == 0) ((record.drop 2).dropLast) (setParser .body record s)).state.panel.buffer = record := by
    unfold answerBody
    split
    · rfl
    split
    · rfl
    next r _ =>
      split
      · rfl
      split
      · rfl
      next hserves =>
        obtain h | ⟨c, -, -, h⟩ | ⟨rec, time, -, -, -, h⟩ :=
          serve_cases r ((record.drop 2).dropLast) (setParser .body record s) (by simpa using hserves)
        · rw [h]
          rfl
        · rw [h]
          simp [sendCueTaken, setParser]
        · rw [h]
          rfl
  exact ⟨rfl, hanswer⟩

/-- The length that a record of a request's kind has to have (R192). -/
theorem length_of_requestOf {kind : Byte} {r : Request} (h : requestOf kind = some r) :
    r.length = if kind = 0x11 then 20 else if kind = 0x12 then 5 else if kind = 0x13 then 1 else 2 := by
  rw [← code_of_requestOf h]
  cases r <;> rfl

/-- Settles O52: each phase's bytes, the two events that end a reception, the record received whole, and the reply's sum. -/
theorem parserFollowsItsPhases : Obligations.ParserFollowsItsPhases := by
  refine ⟨fun s hrun => ⟨fun b => ⟨fun hhunt => ?_, fun hlength h1 h250 => ?_, fun hlength hbad => ?_, fun hbody hmore h2 => ?_,
    fun hbody hlast h2 => ?_, fun hbody hlast h3 => ?_, fun hreply => ?_⟩, fun hphase => ?_, fun hreply => ?_,
    fun kind fields check hsize hhunt => ?_⟩, byteSum_panelRecord⟩
  · rw [exec_panelByteReceived hrun, receiveByte_hunt hhunt]
    split
    · next hb =>
      subst hb
      rfl
    · rfl
  · rw [exec_panelByteReceived hrun, receiveByte_length hlength, if_pos ⟨h1, h250⟩]
    rfl
  · have hnot : ¬(1 ≤ b.toNat ∧ b.toNat ≤ 250) := by omega
    have hdue : exec (.badFrameAtLength b) s = .next (receiveByte s b) := by
      unfold exec execBadFrameAtLength
      exact whenDue_due hrun (by simp [hlength]; omega) _
    rw [exec_panelByteReceived hrun, hdue, receiveByte_length hlength, if_neg hnot]
    exact ⟨rfl, rfl⟩
  · rw [exec_panelByteReceived hrun, receiveByte_body hbody h2, if_neg hmore, setParser, ← hbody]
  · rw [exec_panelByteReceived hrun, receiveByte_body hbody h2, if_pos hlast]
    obtain ⟨hphase, hbuffer⟩ := takeRecord_replies (s.panel.buffer ++ [b]) s
    exact ⟨_, rfl, hphase, hbuffer⟩
  · intro record kind length replies
    have hexec : exec (.panelByteReceived b) s = .next (takeRecord record (setParser .body record s)) := by
      rw [exec_panelByteReceived hrun, receiveByte_body hbody (by omega), if_pos hlast]
    have hdrop : record.drop 2 = s.panel.buffer.drop 2 ++ [b] := List.drop_append_of_le_length (by omega)
    have hinner : (record.drop 2).dropLast = s.panel.buffer.drop 2 := by rw [hdrop, List.dropLast_concat]
    have hkind : byteAt ((record.drop 2).dropLast) 0 0 = kind := by
      rw [hinner]
      simp [byteAt, kind, record, List.getElem?_append_left (show 2 < s.panel.buffer.length by omega)]
    refine ⟨fun hsum => ?_, fun hsum hunknown => ?_, fun hsum hlow hhigh hne => ?_⟩
    · exact hexec.trans (congrArg _ (takeRecord_badSum hkind s hsum))
    · exact hexec.trans (congrArg _ (takeRecord_unknownKind hkind s hsum ((requestOf_eq_none_iff kind).2 hunknown)))
    · obtain hnone | ⟨r, hr⟩ := Option.eq_none_or_eq_some (requestOf kind)
      · have := (requestOf_eq_none_iff kind).1 hnone
        omega
      · refine hexec.trans (congrArg _ (takeRecord_badLength hkind s hsum hr ?_))
        rw [hinner, List.length_drop, length_of_requestOf hr]
        exact fun heq => hne (by rw [show length = _ from heq.symm]; omega)
  · rw [exec_panelByteReceived hrun, receiveByte_reply hreply]
  · exact whenDue_due hrun (by simpa using hphase) _
  · unfold exec execReplySent
    exact whenDue_due hrun (by simp [hreply]) _
  · intro record
    have hrecord : record = rawRecord (kind :: fields) check := rfl
    have hexec : unknownRecord kind fields check = true →
        exec (.requestUnknownKind kind fields check) s = .next (takeRecord record (setParser .body record s)) := fun hdue => by
      rw [show exec (.requestUnknownKind kind fields check) s = _ from whenDue_due hrun hdue _,
        receiveBytes_hunt _ _ s hhunt (by simp) (by simp; omega), hrecord]
    have hkind : byteAt ((record.drop 2).dropLast) 0 0 = kind := by
      rw [hrecord, body_rawRecord]
      rfl
    refine ⟨fun hsum => ?_, fun hsum hunknown => ?_⟩
    · have hbad : unknownRecord kind fields check = true := by
        simp only [unknownRecord, ← hrecord, bne_iff_ne.2 hsum, hsize, decide_true, Bool.true_or, Bool.and_self]
      exact (hexec hbad).trans (congrArg _ (takeRecord_badSum hkind s hsum))
    · have hnone := (requestOf_eq_none_iff kind).2 hunknown
      exact (hexec (by simp [unknownRecord, hsize, hnone])).trans (congrArg _ (takeRecord_unknownKind hkind s hsum hnone))

end Sys2Proof.Machine

/-! SEND_CUE and SET_CLOCK (spec/10_hand_role_and_panel_line.md sections 10.4 and 10.5): the fields of a SEND_CUE as its
CUE frame holds them, the checks of the fields, the frame's place in the transmit queue, and the statement O50. -/
namespace Sys2Proof.Machine

/-! ## The fields of a SEND_CUE (R173, R192) -/

theorem bytesOf_one (x : Nat) : bytesOf x 1 = [BitVec.ofNat 8 x] := by
  simp [bytesOf, divFloor]

theorem bytesOf_toNat (b : Byte) : bytesOf b.toNat 1 = [b] := by
  rw [bytesOf_one, BitVec.ofNat_toNat, BitVec.setWidth_eq]

section Fields

variable (number : Nat) (kind : Byte) (scope : BitVec 64) (preset : Byte) (duration fade : BitVec 16)
  (timed hh mm ss ff : Byte)

/-- The contents of the CUE frame that a SEND_CUE asks for. -/
def sentCue : CueContents :=
  ⟨number, kind.toNat, scope, preset.toNat, duration.toNat, fade.toNat, timed.toNat,
    ⟨hh.toNat, mm.toNat, ss.toNat, ff.toNat⟩⟩

theorem sentCue_fits (h : number < 256) :
    (Contents.cue (sentCue number kind scope preset duration fade timed hh mm ss ff)).fits :=
  ⟨⟨h, kind.isLt, preset.isLt, duration.isLt, fade.isLt, timed.isLt⟩, hh.isLt, mm.isLt, ss.isLt, ff.isLt⟩

/-- After the cue number the fields are spelled as in a CUE frame's payload (R190, R192). -/
theorem cueFields_eq_payload (stamp : Stamp) : 0 :: cueFields kind scope preset duration fade timed hh mm ss ff =
    payloadOf (.cue (sentCue 0 kind scope preset duration fade timed hh mm ss ff)) stamp := by
  simp only [payloadOf, sentCue, cueFields, timecodeBytes, bytesOf_toNat]
  rfl

theorem cueOfBody_cueFields (code : Byte) :
    cueOfBody number (code :: cueFields kind scope preset duration fade timed hh mm ss ff) =
      sentCue number kind scope preset duration fade timed hh mm ss ff := by
  have hread := readCueContents_eq (sentCue_fits 0 kind scope preset duration fade timed hh mm ss ff (by decide))
    ⟨⟨0, 0, 0, 0⟩, 0⟩
  rw [← cueFields_eq_payload] at hread
  rw [cueOfBody, List.drop_one, List.tail_cons, hread]
  rfl

end Fields

/-- A cue's kind is known and its fields pass their checks (R173). -/
def CueContents.Accepted (fps : Nat) (c : CueContents) : Prop :=
  c.kind ≤ 4 ∧ (c.kind = 0 → c.preset ≤ 63 ∧ 1 ≤ c.duration ∧ c.duration ≤ 60000 ∧ c.fade ≤ 1024) ∧
  (c.kind = 2 → c.preset ≤ 63) ∧ c.timed ≤ 1 ∧ (c.timed = 0 ∨ c.start.inRange fps = true)

theorem CueContents.accepted_iff (fps : Nat) (c : CueContents) :
    c.Accepted fps ↔ ∃ kind, cueKindOf c.kind = some kind ∧ c.fieldsGood fps kind = true := by
  obtain ⟨number, kind, scope, preset, duration, fade, timed, start⟩ := c
  match kind with
  | 0 | 1 | 2 | 3 | 4 => simp [CueContents.Accepted, cueKindOf, CueContents.fieldsGood, and_assoc]
  | n + 5 => simp [CueContents.Accepted, cueKindOf]

/-! ## How a SEND_CUE is served (R173) -/

section Serve

variable {fps : Nat} {body : List Byte} {s : State}

theorem serveSendCue_badField (h : ¬(cueOfBody s.panel.nextCue body).Accepted fps) :
    serveSendCue fps body s = refuse s .badField := by
  rw [CueContents.accepted_iff] at h
  obtain hnone | ⟨kind, hkind⟩ := Option.eq_none_or_eq_some (cueKindOf (cueOfBody s.panel.nextCue body).kind)
  · simp only [serveSendCue, hnone]
  · have hbad : (cueOfBody s.panel.nextCue body).fieldsGood fps kind = false :=
      Bool.eq_false_iff.2 fun hgood => h ⟨kind, hkind, hgood⟩
    simp only [serveSendCue, hkind, hbad, Bool.not_false, if_true]

theorem serveSendCue_accepted (h : (cueOfBody s.panel.nextCue body).Accepted fps) :
    serveSendCue fps body s = if s.link.cueRoom = false then refuse s .busy
      else ⟨sendCueTaken (cueOfBody s.panel.nextCue body) s, .ok, num1 (cueOfBody s.panel.nextCue body).number⟩ := by
  obtain ⟨kind, hkind, hgood⟩ := (CueContents.accepted_iff _ _).1 h
  simp only [serveSendCue, hkind, hgood, Bool.not_true, Bool.false_eq_true, if_false, Bool.not_eq_true']

end Serve

theorem serve_sendCue {s : State} {r : Record} (h : s.record = some r) (body : List Byte) :
    serve .sendCue body s = serveSendCue r.fps body s := by
  simp only [serve, h]

theorem serve_setClock {s : State} {r : Record} (h : s.record = some r) (code hh mm ss ff : Byte) :
    serve .setClock [code, hh, mm, ss, ff] s =
      let t : Timecode := ⟨hh.toNat, mm.toNat, ss.toNat, ff.toNat⟩
      if t.inRange r.fps = true then ⟨loadClock r.fps ⟨t, 0⟩ s, .ok, []⟩ else refuse s .badField := by
  simp only [serve, h]
  rfl

/-! ## A CUE frame's place in the queue (R147, R150) -/

section Enqueue

variable {s : State} (c : CueContents)

theorem enqueueCue_behind (h : s.link.current.isSome = true) :
    enqueueCue ⟨0, .cue c, none, 0⟩ s = s.withLink { s.link with cueSlots := s.link.cueSlots ++ [⟨0, .cue c, none, 0⟩] } := by
  obtain ⟨g, hg⟩ := Option.isSome_iff_exists.1 h
  simp only [enqueueCue, hg]

theorem enqueueCue_waits (h : s.link.current = none) (hline : s.link.line ≠ .free) :
    enqueueCue ⟨0, .cue c, none, 0⟩ s = s.withLink { s.link with
      current := some ⟨0, .cue c, none, 0⟩, attempts := 0, round := 1, phase := .wait, backoff := 0 } := by
  simp only [enqueueCue, h, makeCurrent]
  rw [enterWait_waits (by simpa using hline)]
  rfl

theorem enqueueCue_starts (h : s.link.current = none) (hline : s.link.line = .free) :
    enqueueCue ⟨0, .cue c, none, 0⟩ s = s.withLink { s.link with
      current := some ⟨0, .cue c, none, 0⟩, attempts := 0, round := 1, phase := .send, backoff := 0,
      wire := wireBytes s.address ⟨0, .cue c, none, 0⟩ s.stampNow, reception := false, carrier := true, line := .busy } := by
  simp only [enqueueCue, h, makeCurrent]
  rw [enterWait_starts (f := ⟨0, .cue c, none, 0⟩) (by simpa using hline) rfl]
  rfl

end Enqueue

theorem serves_of_hand {s : State} {rec : Record} (hrec : s.record = some rec) (h : s.hand?.isSome = true) (r : Request)
    (hr : r ≠ .readPreset) : s.serves r = true := by
  cases r <;> simp_all [State.serves]

theorem length_cueFields (kind : Byte) (scope : BitVec 64) (preset : Byte) (duration fade : BitVec 16)
    (timed hh mm ss ff : Byte) : (cueFields kind scope preset duration fade timed hh mm ss ff).length = 19 := by
  simp [cueFields]

theorem exec_sendCue {s : State} (hrun : s.resetHold = none) (kind : Byte) (scope : BitVec 64) (preset : Byte)
    (duration fade : BitVec 16) (timed hh mm ss ff : Byte) :
    exec (.sendCue kind scope preset duration fade timed hh mm ss ff) s =
      .next (receiveRequest .sendCue (cueFields kind scope preset duration fade timed hh mm ss ff) s) :=
  whenRunning_running hrun _

theorem exec_setClock {s : State} (hrun : s.resetHold = none) (hh mm ss ff : Byte) :
    exec (.setClock hh mm ss ff) s = .next (receiveRequest .setClock [hh, mm, ss, ff] s) :=
  whenRunning_running hrun _

/-- Settles O50: the record taken whole in HUNT, the cue in the place the queue gives it, and the clock loaded. -/
theorem handStationSendsCuesAndSetsTheClock : Obligations.HandStationSendsCuesAndSetsTheClock := by
  intro s r hrun hrec hhand hhunt
  refine ⟨?_, fun hh mm ss ff hhour hminute hsecond hframe => ?_⟩
  · intro kind scope preset duration fade timed hh mm ss ff hkind hgo hstore htimed hroom f
    let c := sentCue s.panel.nextCue kind scope preset duration fade timed hh mm ss ff
    let u := setParser .body (panelRecord (0x11 :: cueFields kind scope preset duration fade timed hh mm ss ff)) s
    have haccepted : c.Accepted r.fps := by
      refine ⟨hkind, fun h => hgo (BitVec.eq_of_toNat_eq h), fun h => hstore (BitVec.eq_of_toNat_eq h), ?_⟩
      obtain rfl | ⟨rfl, hrange⟩ := htimed
      · exact ⟨Nat.zero_le 1, .inl rfl⟩
      · exact ⟨Nat.le_refl 1, .inr ((timecode_inRange_iff _ _).2 hrange)⟩
    have hfree : u.link.cueRoom = true := by
      simp only [LinkController.cueRoom, Bool.or_eq_true, Option.isNone_iff_eq_none, decide_eq_true_eq]
      exact hroom
    have hserve : serve .sendCue (0x11 :: cueFields kind scope preset duration fade timed hh mm ss ff) u =
        ⟨sendCueTaken c u, .ok, [BitVec.ofNat 8 s.panel.nextCue]⟩ := by
      have hcue : cueOfBody u.panel.nextCue (0x11 :: cueFields kind scope preset duration fade timed hh mm ss ff) = c :=
        cueOfBody_cueFields _ _ _ _ _ _ _ _ _ _ _ _
      rw [serve_sendCue (show u.record = some r from hrec), serveSendCue_accepted (hcue ▸ haccepted), hcue, hfree, if_neg (by decide), num1, bytesOf_one]
      rfl
    have hexec : exec (.sendCue kind scope preset duration fade timed hh mm ss ff) s =
        .next (startReply 0x11 .ok [BitVec.ofNat 8 s.panel.nextCue] (sendCueTaken c u)) := by
      rw [exec_sendCue hrun, receiveRequest_hunt hhunt (by rw [length_cueFields]; rfl)]
      simp only [serves_of_hand hrec hhand .sendCue (by decide), if_true]
      exact congrArg (fun a : Answer => (Host.Outcome.next (startReply 0x11 a.status a.items a.state) :
        Host.Outcome State Fault Refusal)) hserve
    have htaken : startReply 0x11 .ok [BitVec.ofNat 8 s.panel.nextCue] (sendCueTaken c u) = (enqueueCue f s).withPanel
        (({ s.panel with
            nextCue := (s.panel.nextCue + 1) % 256, recent := addRecent s.panel.nextCue s.panel.recent } : PanelLine).replied
          (panelRecord (0x11 :: cueFields kind scope preset duration fade timed hh mm ss ff)) 0x11 .ok
          [BitVec.ofNat 8 s.panel.nextCue]) := by
      rw [sendCueTaken, show u = s.withPanel _ from rfl, State.withPanel_withPanel, enqueueCue_withPanel]
      rfl
    have hrest : ∀ (l : LinkController) (p : PanelLine), (((s.withLink l).withPanel p).withPanel s.panel).withLink s.link = s :=
      fun _ _ => rfl
    rw [htaken] at hexec
    refine ⟨_, hexec, rfl, ?_⟩
    obtain hnone | ⟨g, hcurrent⟩ := Option.eq_none_or_eq_some s.link.current
    · have hidle : ¬s.link.current.isSome = true := by simp [hnone]
      by_cases hline : s.link.line = .free
      · rw [show enqueueCue f s = _ from enqueueCue_starts c hnone hline]
        exact ⟨fun h => absurd h hidle, fun _ h => absurd hline h, fun _ _ => rfl, hrest _ _⟩
      · rw [show enqueueCue f s = _ from enqueueCue_waits c hnone hline]
        exact ⟨fun h => absurd h hidle, fun _ _ => rfl, fun _ h => absurd h hline, hrest _ _⟩
    · have hsome : s.link.current.isSome = true := by simp [hcurrent]
      have hbusy : s.link.current ≠ none := by simp [hcurrent]
      rw [show enqueueCue f s = _ from enqueueCue_behind c hsome]
      exact ⟨fun _ => rfl, fun h => absurd h hbusy, fun h => absurd h hbusy, hrest _ _⟩
  · have hrange : (⟨hh.toNat, mm.toNat, ss.toNat, ff.toNat⟩ : Timecode).inRange r.fps = true :=
      (timecode_inRange_iff _ _).2 ⟨hhour, hminute, hsecond, hframe⟩
    let u := setParser .body (panelRecord [0x12, hh, mm, ss, ff]) s
    rw [exec_setClock hrun, receiveRequest_hunt hhunt rfl]
    simp only [serves_of_hand hrec hhand .setClock (by decide), if_true]
    rw [show Request.setClock.code = 0x12 from rfl, serve_setClock (s := u) hrec, if_pos hrange,
      loadClock_of_no_axis (s := u) (axis_none_of_hand hhand)]
    rfl

end Sys2Proof.Machine

/-! What a read is answered with (spec/10_hand_role_and_panel_line.md, sections 10.4 to 10.6; 12_formats.md, section 12.3): how
items are spelled, the items of every read and section, the conditions each is served in, and the statement O51. -/
namespace Sys2Proof.Machine

/-! ## How items are spelled (R192) -/

theorem bytesOf_eq_spelled (x : Int) (n : Nat) : bytesOf x n = spelled n x := by
  induction n with
  | zero => rfl
  | succ n ih =>
    rw [bytesOf, ih, divFloor_eq _ (Int.pow_nonneg (by decide)), spelled, spelled, List.range_succ, List.reverse_append]
    rfl

theorem num1_eq (x : Int) : num1 x = spelled 1 x := bytesOf_eq_spelled x 1
theorem num2_eq (x : Int) : num2 x = spelled 2 x := bytesOf_eq_spelled x 2
theorem num3_eq (x : Int) : num3 x = spelled 3 x := bytesOf_eq_spelled x 3
theorem num4_eq (x : Int) : num4 x = spelled 4 x := bytesOf_eq_spelled x 4

theorem timecodeBytes_eq (t : Timecode) : timecodeBytes t = t.spelled := by
  simp only [timecodeBytes, bytesOf_one]
  rfl

theorem boolByte_eq (b : Bool) : boolByte b = if b then [1#8] else [0#8] := by cases b <;> rfl

theorem optionBytes_eq {α : Type} (n : Nat) (bytes : α → List Byte) (o : Option α) :
    optionBytes n bytes o = optionalItem n (o.map bytes) := by cases o <;> rfl

/-- An optional number as the statements read it: as a whole number of either sign. -/
theorem map_lifted (f : Int → List Byte) (o : Option Nat) :
    (Option.map f do let n ← o; pure (n : Int)) = o.map fun n : Nat => f n := by cases o <;> rfl

theorem listBytes_eq {α : Type} (bytes : α → List Byte) (l : List α) :
    listBytes bytes l = spelled 1 l.length ++ (l.map bytes).flatten := by rw [listBytes, bytesOf_eq_spelled]

/-! ## The enumerated codes (R190, R192) -/

theorem codes_in_order : codesInOrder := by
  refine ⟨rfl, rfl, rfl, rfl, rfl, rfl, rfl, rfl, rfl, rfl, rfl, rfl, rfl, rfl, rfl⟩

theorem causeNumber_eq (c : StartCause) : causeNumber c = 2 - severity c := by cases c <;> rfl

theorem spelled_startPhase (p : StartPhase) : spelled 1 p.code = match p with
    | .loadingRecord => [0] | .loadingPresets => [1] | .announcing => [2] | .running => [3] | .badRecord => [4] := by
  cases p <;> rfl

theorem spelled_verdict (v : Verdict) : spelled 1 v.code = match v with
    | .waiting => [0] | .good => [1] | .unreadable => [2] | .badCheck => [3] | .badValue => [4] := by
  cases v <;> rfl

theorem spelled_freshness (f : Freshness) : spelled 1 f.code = match f with
    | .silent => [0] | .fresh => [1] | .aging => [2] | .stale => [3] := by
  cases f <;> rfl

theorem spelled_cueStatus (c : CueStatus) : spelled 1 c.code = match c with
    | .queued => [1] | .sent => [2] | .lost => [3] := by
  cases c <;> rfl

theorem spelled_saveState (e : SaveState) : spelled 1 e.code = match e with
    | .saved => [0] | .waiting => [1] | .writing => [2] | .unsaved => [3] := by
  cases e <;> rfl

theorem spelled_writePhase (p : WritePhase) : spelled 1 p.code = match p with
    | .sending => [0] | .programming => [1] := by
  cases p <;> rfl

theorem spelled_peerKind (k : PeerKind) : spelled 1 k.frameKind.code = match k with
    | .stick => [2] | .state => [3] := by
  cases k <;> rfl

/-! ## The sections of READ_SELF (R177, R189) -/

theorem selfItems_record {s : State} {r : Record} (h : s.record = some r) (n : Nat) : s.selfItems n = match n with
    | 0 => some (stationItems s)
    | 1 => some (linkItems r s.link)
    | 2 => some (match s.axis? with | some _ => cueSelfItems r s | none => recentItems s.panel)
    | 3 => s.axis?.map fun _ => blendItems s
    | 4 => s.axis?.map fun ax => couplingItems ax s
    | 5 => s.axis?.map fun ax => driveItems ax s.drive
    | 6 => s.axis?.map fun _ => storeItems s.presets
    | 7 => s.hand?.map fun _ => handItems s.hand
    | _ => none := by
  unfold State.selfItems
  rw [h]
  match n with
  | 0 | 1 | 2 | 3 | 4 | 5 | 6 | 7 | n + 8 => rfl

theorem selfItems_bare {s : State} (h : s.record = none) (n : Nat) : s.selfItems n = match n with
    | 0 => some (stationItems s)
    | 5 => some (bareDriveItems s.drive)
    | _ => none := by
  unfold State.selfItems
  rw [h]
  match n with
  | 0 | 1 | 2 | 3 | 4 | 5 | 6 | 7 | n + 8 => rfl

theorem record_of_axis {s : State} {ax : AxisSettings} (h : s.axis? = some ax) : ∃ r, s.record = some r := by
  obtain hnone | hsome := Option.eq_none_or_eq_some s.record
  · simp [State.axis?, hnone] at h
  · exact hsome

theorem record_of_hand {s : State} (h : s.hand?.isSome = true) : ∃ r, s.record = some r := by
  obtain hnone | hsome := Option.eq_none_or_eq_some s.record
  · simp [State.hand?, hnone] at h
  · exact hsome

/-- A section is not served exactly outside its conditions (R177, R178). -/
theorem selfItems_eq_none_iff (s : State) (n : Nat) : s.selfItems n = none ↔
    ¬(n = 0 ∨ ((n = 1 ∨ n = 2) ∧ s.record.isSome = true) ∨ ((n = 3 ∨ n = 4 ∨ n = 6) ∧ s.axis?.isSome = true) ∨
      (n = 5 ∧ (s.record = none ∨ s.axis?.isSome = true)) ∨ (n = 7 ∧ s.hand?.isSome = true)) := by
  obtain hnone | ⟨r, hrec⟩ := Option.eq_none_or_eq_some s.record
  · have hax : s.axis? = none := by simp [State.axis?, hnone]
    have hhand : s.hand? = none := by simp [State.hand?, hnone]
    rw [selfItems_bare hnone]
    match n with
    | 0 | 1 | 2 | 3 | 4 | 5 | 6 | 7 | n + 8 => simp [hnone, hax, hhand]
  · rw [selfItems_record hrec]
    match n with
    | 0 | 1 | 2 | 3 | 4 | 5 | 6 | 7 | n + 8 => simp [hrec]

section Sections

variable (s : State)

theorem stationItems_eq : stationItems s =
    (match s.record.map Record.settings with | some (.axis _) => [0] | some (.hand _) => [1] | none => [0xFF]) ++
    spelled 1 (((s.record.map Record.address).getD 0 : Nat) : Int) ++
    optionalItem 1 (s.record.map fun r => spelled 1 r.label) ++
    optionalItem 1 (s.record.map fun r => spelled 1 r.framePeriod) ++
    optionalItem 1 (s.record.map fun r => spelled 1 r.fps) ++
    spelled 1 ((2 - severity s.start.cause : Nat) : Int) ++
    (match s.start.phase with
      | .loadingRecord => [0] | .loadingPresets => [1] | .announcing => [2] | .running => [3] | .badRecord => [4]) ++
    (if s.record.isSome then [1#8] else [0#8]) ++
    (match s.start.verdict with
      | .waiting => [0] | .good => [1] | .unreadable => [2] | .badCheck => [3] | .badValue => [4]) ++
    optionalItem 1 (s.start.failingCheck.map fun n : Nat => spelled 1 n) ++
    optionalItem 1 (s.start.recordLength.map fun n : Nat => spelled 1 n) ++
    optionalItem 2 (s.start.checkWord.map fun w => spelled 2 w.toNat) := by
  have haddress : s.address = (s.record.map Record.address).getD 0 := by
    unfold State.address
    cases s.record <;> rfl
  simp only [stationItems, haddress, num1_eq, num2_eq, optionBytes_eq, boolByte_eq, causeNumber_eq,
    spelled_startPhase, spelled_verdict, Option.map_map]
  rcases s.record with _ | ⟨_, _, _, _, _, _, _, _, _ | _⟩ <;> rfl

theorem linkItems_eq (r : Record) (l : LinkController) : linkItems r l =
    optionalItem 5 (l.current.map fun f => spelled 1 f.contents.kind.code ++ spelled 1 f.sequence ++
      spelled 1 l.phase.code ++ spelled 1 l.attempts ++ spelled 1 l.round) ++
    spelled 2 (l.backoff / 64 : Nat) ++ spelled 1 (l.backoff % 64 : Nat) ++
    (if l.periodic.isSome then [1#8] else [0#8]) ++ spelled 1 l.cueSlots.length ++ spelled 1 l.ring.length ++
    spelled 4 l.periodCount.toNat ++ spelled 1 r.framePeriod := by
  simp only [linkItems, num1_eq, num2_eq, num4_eq, optionBytes_eq, boolByte_eq]
  rfl

theorem cueSelfItems_eq (r : Record) : cueSelfItems r s =
    optionalItem 1 (s.sched.report.cue.map fun c => spelled 1 c.source) ++
    optionalItem 1 (s.sched.report.cue.map fun c => spelled 1 c.number) ++
    spelled 1 s.sched.report.phase.code ++ spelled 1 s.sched.report.reason.code ++
    (if s.clock.synced then [1#8] else [0#8]) ++
    spelled 1 s.sched.armed.length ++ (s.sched.armed.map fun e =>
      spelled 1 e.cue.source ++ spelled 1 e.cue.number ++ spelled 1 e.kind.code ++ spelled 1 e.preset ++
      spelled 2 e.duration ++ spelled 2 e.fade ++ e.start.spelled ++
      spelled 4 (e.remaining r.fps (frameNumber r.fps s.clock.time))).flatten := by
  have harmed : armedBytes r.fps (frameNumber r.fps s.clock.time) = fun e =>
      spelled 1 e.cue.source ++ spelled 1 e.cue.number ++ spelled 1 e.kind.code ++ spelled 1 e.preset ++
      spelled 2 e.duration ++ spelled 2 e.fade ++ e.start.spelled ++
      spelled 4 (e.remaining r.fps (frameNumber r.fps s.clock.time)) := by
    funext e
    simp only [armedBytes, num1_eq, num2_eq, num4_eq, timecodeBytes_eq]
  simp only [cueSelfItems, reportItems, harmed, num1_eq, optionBytes_eq, boolByte_eq, listBytes_eq, List.append_assoc]

theorem recentItems_eq (p : PanelLine) : recentItems p =
    spelled 1 p.nextCue ++ spelled 1 p.recent.length ++ (p.recent.map fun i => spelled 1 i.number ++
      (match i.status with | .queued => [1] | .sent => [2] | .lost => [3])).flatten := by
  simp only [recentItems, num1_eq, listBytes_eq, spelled_cueStatus, List.append_assoc]

theorem planBytes_eq (p : Plan) : planBytes p = spelled 4 p.p0 ++ spelled 4 p.t ++ spelled 2 p.n ++ spelled 2 p.k ++
    spelled 1 p.cue.source ++ spelled 1 p.cue.number ++ spelled 2 p.f ++ (if p.late then [1#8] else [0#8]) := by
  simp only [planBytes, num1_eq, num2_eq, num4_eq, boolByte_eq]

theorem waitingBytes_eq (p : WaitingPlan) : waitingBytes p = optionalItem 4 none ++ spelled 4 p.t ++ spelled 2 p.n ++
    [0, 0] ++ spelled 1 p.cue.source ++ spelled 1 p.cue.number ++ spelled 2 p.f ++
    (if p.late then [1#8] else [0#8]) := by
  simp only [waitingBytes, num1_eq, num2_eq, num4_eq, boolByte_eq, optionBytes_eq]
  rfl

theorem blendItems_eq : blendItems s = spelled 2 s.presentedVj ++ (if s.stick.latch then [1#8] else [0#8]) ++
    spelled 1 s.blend.move.code ++ spelled 1 s.blend.stopCause.code ++
    optionalItem 17 (s.blend.plan.map fun p => spelled 4 p.p0 ++ spelled 4 p.t ++ spelled 2 p.n ++ spelled 2 p.k ++
      spelled 1 p.cue.source ++ spelled 1 p.cue.number ++ spelled 2 p.f ++ (if p.late then [1#8] else [0#8])) ++
    optionalItem 18 (s.blend.waiting.map fun p => optionalItem 4 none ++ spelled 4 p.t ++ spelled 2 p.n ++
      [0, 0] ++ spelled 1 p.cue.source ++ spelled 1 p.cue.number ++ spelled 2 p.f ++
      (if p.late then [1#8] else [0#8])) ++
    spelled 2 s.blend.w ++ spelled 4 s.blend.pj ++ spelled 4 s.blend.d ++ spelled 4 s.blend.c := by
  simp only [blendItems, num1_eq, num2_eq, num4_eq, boolByte_eq, optionBytes_eq, ← planBytes_eq, ← waitingBytes_eq]

theorem couplingItems_eq (ax : AxisSettings) : couplingItems ax s =
    optionalItem 3 (s.coupling.reference.map (spelled 3)) ++ spelled 4 s.coupling.q ++
    spelled 1 (conditionCode s.coupling.followCondition) ++ spelled 1 (conditionCode s.coupling.guardCondition) ++
    spelled 1 s.coupling.guardMode.code ++ spelled 3 s.coupling.lhiEff ++ spelled 4 s.coupling.g ++
    spelled 4 (max (-134217728) (min s.limiter.setpoint 134217712)) ++ spelled 2 s.limiter.v0 ++
    spelled 3 (max (-8388608) (min s.limiter.stepPos 8388607)) ++ spelled 3 s.limiter.lastSteps ++
    spelled 2 ax.vmax ++ spelled 2 ax.accel := by
  have hspelled : num3 = spelled 3 := funext num3_eq
  simp only [couplingItems, num1_eq, num2_eq, num4_eq, hspelled, optionBytes_eq]
  rfl

theorem driveItems_eq (ax : AxisSettings) (d : DrivePort) : driveItems ax d =
    spelled 3 d.measured ++ spelled 1 d.lastRead.code ++ spelled 1 d.failureRun ++ spelled 1 d.followingRun ++
    spelled 1 d.cause.code ++ (if d.further then [1#8] else [0#8]) ++ spelled 1 d.low.state.code ++
    spelled 1 d.high.state.code ++ spelled 1 d.amp.state.code ++ (if d.lowLock then [1#8] else [0#8]) ++
    (if d.highLock then [1#8] else [0#8]) ++ (if d.enable then [1#8] else [0#8]) ++ spelled 1 d.brake.code ++
    spelled 1 d.direction.code ++ spelled 3 ax.feLimit ++ spelled 1 ax.feTime := by
  simp only [driveItems, inputItems, num1_eq, num3_eq, boolByte_eq, List.append_assoc]

theorem bareDriveItems_eq (d : DrivePort) : bareDriveItems d = spelled 3 d.measured ++ spelled 1 d.lastRead.code ++
    spelled 1 d.low.state.code ++ spelled 1 d.high.state.code ++ spelled 1 d.amp.state.code := by
  simp only [bareDriveItems, inputItems, num1_eq, num3_eq, List.append_assoc]

theorem storeItems_eq (t : PresetStore) : storeItems t =
    let count := fun p : PresetEntry → Bool => spelled 1 ((t.table.countP p : Nat) : Int)
    spelled 1 t.writeBack.length ++
    optionalItem 3 (t.inFlight.map fun f => spelled 1 f.index ++ spelled 1 f.attempt ++ spelled 1 f.phase.code) ++
    count (fun e => decide (e.body = .empty)) ++
    count (fun e => match e.body with | .valid _ _ _ => true | _ => false) ++
    count (fun e => decide (e.body = .invalid)) ++ count (fun e => decide (e.save = .saved)) ++
    count (fun e => decide (e.save = .waiting)) ++ count (fun e => decide (e.save = .writing)) ++
    count (fun e => decide (e.save = .unsaved)) := by
  have hempty : (fun e : PresetEntry => e.body.code == 0) = fun e => decide (e.body = .empty) := by
    funext e
    cases e.body <;> rfl
  have hvalid : (fun e : PresetEntry => e.body.code == 1) =
      fun e => match e.body with | .valid _ _ _ => true | _ => false := by
    funext e
    cases e.body <;> rfl
  have hinvalid : (fun e : PresetEntry => e.body.code == 2) = fun e => decide (e.body = .invalid) := by
    funext e
    cases e.body <;> rfl
  simp only [storeItems, countWhere, num1_eq, optionBytes_eq, hempty, hvalid, hinvalid]
  rfl

theorem handItems_eq (h : HandSampler) : handItems h =
    (h.raw.map fun x => optionalItem 2 (x.map fun n : Nat => spelled 2 n)).flatten ++
    (h.values.map (spelled 2)).flatten ++ [h.faults] ++ spelled 2 h.switches.toNat := by
  have hspelled : num2 = spelled 2 := funext num2_eq
  simp only [handItems, hspelled, optionBytes_eq]

end Sections

/-! ## The other reads (R174 to R176) -/

theorem clockItems_eq (r : Record) (s : State) : clockItems r s =
    s.clock.time.spelled ++ spelled 2 s.clock.acc ++ (if s.clock.synced then [1#8] else [0#8]) ++
    spelled 1 r.fps ++ optionalItem 1 (r.clockSource.map fun n : Nat => spelled 1 n) := by
  simp only [clockItems, timecodeBytes_eq, num1_eq, num2_eq, boolByte_eq, optionBytes_eq]

theorem contentsBytes_eq : contentsBytes = fun
    | .stick c => (c.values.map (spelled 2)).flatten ++ spelled 2 c.switches.toNat
    | .state c => spelled 1 c.move ++ spelled 1 c.fault ++ spelled 3 c.measured ++ spelled 4 c.setpoint ++
        spelled 2 c.velocity ++ spelled 2 c.weight ++ spelled 1 c.source ++ spelled 1 c.number ++ spelled 1 c.phase ++
        spelled 1 c.reason ++ [c.flags] := by
  funext c
  cases c <;> simp only [contentsBytes, stickBytes, stateBytes, bytesOf_eq_spelled]

theorem stampBytes_eq : stampBytes = fun st => st.time.spelled ++ spelled 2 st.acc := by
  funext st
  rw [stampBytes, timecodeBytes_eq, bytesOf_eq_spelled]

theorem peerItems_eq (e : PeerEntry) : peerItems e =
    spelled 1 e.address ++ (match e.kind with | .stick => [2] | .state => [3]) ++
    (match e.freshness with | .silent => [0] | .fresh => [1] | .aging => [2] | .stale => [3]) ++
    spelled 2 e.age ++ optionalItem 1 (e.lastSequence.map fun n : Nat => spelled 1 n) ++
    optionalItem 1 (e.lastCue.map fun n : Nat => spelled 1 n) ++ optionalItem 4 (e.heardAt.map fun h : Nat => spelled 4 h) ++
    optionalItem 6 (e.stamp.map fun st => st.time.spelled ++ spelled 2 st.acc) ++
    optionalItem 18 (e.contents.map fun
      | .stick c => (c.values.map (spelled 2)).flatten ++ spelled 2 c.switches.toNat
      | .state c => spelled 1 c.move ++ spelled 1 c.fault ++ spelled 3 c.measured ++ spelled 4 c.setpoint ++
          spelled 2 c.velocity ++ spelled 2 c.weight ++ spelled 1 c.source ++ spelled 1 c.number ++ spelled 1 c.phase ++
          spelled 1 c.reason ++ [c.flags]) := by
  simp only [peerItems, num1_eq, num2_eq, num4_eq, optionBytes_eq, contentsBytes_eq, stampBytes_eq, spelled_peerKind,
    spelled_freshness]

theorem rosterBytes_eq : rosterBytes = fun i => spelled 1 i.address ++ spelled 1 i.announced.role ++
    spelled 1 i.announced.cause ++ spelled 2 i.announced.check.toNat ++ spelled 1 i.announced.label ++
    spelled 1 i.announced.framePeriod ++ spelled 4 i.heardAt := by
  funext i
  simp only [rosterBytes, num1_eq, num2_eq, num4_eq]

theorem rosterItems_eq (first : Nat) (roster : List RosterItem) : rosterItems first roster =
    let items := (roster.drop first).take 8
    spelled 1 roster.length ++ spelled 1 items.length ++ (items.map fun i =>
      spelled 1 i.address ++ spelled 1 i.announced.role ++ spelled 1 i.announced.cause ++
      spelled 2 i.announced.check.toNat ++ spelled 1 i.announced.label ++ spelled 1 i.announced.framePeriod ++
      spelled 4 i.heardAt).flatten := by
  simp only [rosterItems, num1_eq, listBytes_eq, rosterBytes_eq, List.append_assoc]

theorem cueItems_eq (number : Nat) (recent : List RecentCue) : cueItems number recent =
    match recent.find? fun i => i.number == number with
      | some ⟨_, .queued⟩ => [1]
      | some ⟨_, .sent⟩ => [2]
      | some ⟨_, .lost⟩ => [3]
      | none => [0] := by
  unfold cueItems
  rcases recent.find? _ with _ | ⟨_, _ | _ | _⟩ <;> rfl

theorem presetItems_eq (i : Nat) (t : PresetStore) : presetItems i t =
    let e := t.entry i
    (match e.body with
      | .empty => (0 : Byte) :: (optionalItem 3 none ++ optionalItem 4 none ++ optionalItem 2 none)
      | .valid target storedAt storedBy => (1 : Byte) :: (optionalItem 3 (some (spelled 3 target)) ++
          optionalItem 4 (storedAt.map Timecode.spelled) ++
          optionalItem 2 (storedBy.map fun c => spelled 1 c.source ++ spelled 1 c.number))
      | .invalid => (2 : Byte) :: (optionalItem 3 none ++ optionalItem 4 none ++ optionalItem 2 none)) ++
    (match e.save with | .saved => ([0] : List Byte) | .waiting => [1] | .writing => [2] | .unsaved => [3]) ++
    match t.inFlight with
      | some f => if f.index = i then optionalItem 2 (some (spelled 1 f.attempt ++
          (match f.phase with | .sending => ([0] : List Byte) | .programming => [1]))) else optionalItem 2 none
      | none => optionalItem 2 none := by
  have hthree : num3 = spelled 3 := funext num3_eq
  have htime : timecodeBytes = Timecode.spelled := funext timecodeBytes_eq
  have hflight : optionalItem 2 ((t.inFlight.filter fun f => f.index == i).map fun f =>
      spelled 1 f.attempt ++ spelled 1 f.phase.code) = match t.inFlight with
      | some f => if f.index = i then optionalItem 2 (some (spelled 1 f.attempt ++
          (match f.phase with | .sending => ([0] : List Byte) | .programming => [1]))) else optionalItem 2 none
      | none => optionalItem 2 none := by
    cases t.inFlight with
    | none => rfl
    | some f =>
      by_cases h : f.index = i
      · simp [Option.filter, h, spelled_writePhase]
      · simp [Option.filter, h]
  simp only [presetItems, num1_eq, hthree, optionBytes_eq, htime, hflight, spelled_saveState]
  congr 2
  cases (t.entry i).body with
  | empty | invalid => rfl
  | valid target storedAt storedBy =>
    have hcode : spelled 1 (PresetBody.valid target storedAt storedBy).code = [1#8] :=
      show spelled 1 (1 : Nat) = [1#8] from rfl
    rw [hcode, List.append_assoc, List.append_assoc, ← List.append_assoc (optionalItem 3 _)]
    rfl

/-! ## The conditions of each request (R172) -/

theorem serves_readSelf (s : State) : s.serves .readSelf = true := by
  unfold State.serves
  cases s.record <;> rfl

/-- Before a good record no request but READ_SELF is served. -/
theorem serves_of_no_record {s : State} (h : s.record = none) {r : Request} (hr : r ≠ .readSelf) : s.serves r = false := by
  cases r <;> simp_all [State.serves]

theorem serves_of_record {s : State} {rec : Record} (h : s.record = some rec) :
    s.serves .readClock = true ∧ s.serves .readPeer = true := by
  simp [State.serves, h]

theorem serves_readPreset (s : State) : s.serves .readPreset = s.axis?.isSome := by
  obtain hnone | ⟨rec, hrec⟩ := Option.eq_none_or_eq_some s.record
  · simp [State.serves, State.axis?, hnone]
  · simp [State.serves, hrec]

/-- The hand role's requests are not served without its settings. -/
theorem serves_of_no_hand {s : State} (h : s.hand? = none) {r : Request}
    (hr : r = .sendCue ∨ r = .setClock ∨ r = .readRoster ∨ r = .readCue) : s.serves r = false := by
  obtain hnone | ⟨rec, hrec⟩ := Option.eq_none_or_eq_some s.record
  · exact serves_of_no_record hnone (by rintro rfl; simp at hr)
  · rcases hr with rfl | rfl | rfl | rfl <;> simp [State.serves, hrec, h]

/-! ## How each read is served -/

section Serving

variable {s : State} {rec : Record} (a code : Byte)

theorem serve_readSelf : serve .readSelf [code, a] s = serveReadSelf a.toNat s := by
  unfold serve
  cases s.record <;> rfl

variable (hrec : s.record = some rec)
include hrec

theorem serve_readClock (body : List Byte) : serve .readClock body s = give s (clockItems rec s) := by
  simp only [serve, hrec]

theorem serve_readPeer : serve .readPeer [code, a] s = serveReadPeer a.toNat s := by
  simp only [serve, hrec]
  rfl

theorem serve_readRoster : serve .readRoster [code, a] s =
    if 60 < a.toNat then refuse s .badField else give s (rosterItems a.toNat s.peers.roster) := by
  simp only [serve, hrec]
  rfl

theorem serve_readCue : serve .readCue [code, a] s = give s (cueItems a.toNat s.panel.recent) := by
  simp only [serve, hrec]
  rfl

theorem serve_readPreset : serve .readPreset [code, a] s =
    if 63 < a.toNat then refuse s .badField else give s (presetItems a.toNat s.presets) := by
  simp only [serve, hrec]
  rfl

end Serving

/-! ## The reads received whole in HUNT (log 6) -/

/-- A station after it answered a request. -/
def answered (s : State) (r : Request) (fields : List Byte) (v : Status) (items : List Byte) :
    Host.Outcome State Fault Refusal :=
  .next (s.withPanel (s.panel.replied (panelRecord (r.code :: fields)) r.code v items))

section Reads

variable {s : State} (hrun : s.resetHold = none) (hhunt : s.panel.phase = .hunt) (a : Byte)
include hrun hhunt

theorem readSelf_answered : exec (.readSelf a) s =
    if 7 < a.toNat then answered s .readSelf [a] .badField []
    else match s.selfItems a.toNat with
      | some items => answered s .readSelf [a] .ok items
      | none => answered s .readSelf [a] .wrongRole [] := by
  let u := setParser .body (panelRecord [Request.readSelf.code, a]) s
  have hitems : u.selfItems a.toNat = s.selfItems a.toNat := rfl
  have hserve : ∀ {v : Status} {items : List Byte}, serveReadSelf a.toNat u = ⟨u, v, items⟩ →
      exec (.readSelf a) s = answered s .readSelf [a] v items := fun h =>
    (show exec (.readSelf a) s = _ from whenRunning_running hrun _).trans
      (congrArg _ (receiveRequest_answered hhunt rfl (serves_readSelf s) ((serve_readSelf a _).trans h)))
  by_cases hbeyond : 7 < a.toNat
  · rw [if_pos hbeyond]
    exact hserve (by rw [serveReadSelf, if_pos hbeyond]; rfl)
  · rw [if_neg hbeyond]
    obtain hnone | ⟨items, hsome⟩ := Option.eq_none_or_eq_some (s.selfItems a.toNat)
    · simp only [hnone]
      exact hserve (by simp only [serveReadSelf, if_neg hbeyond, hitems, hnone]; rfl)
    · simp only [hsome]
      exact hserve (by simp only [serveReadSelf, if_neg hbeyond, hitems, hsome]; rfl)

theorem readClock_answered {rec : Record} (hrec : s.record = some rec) :
    exec .readClock s = answered s .readClock [] .ok (clockItems rec s) := by
  let u := setParser .body (panelRecord [Request.readClock.code]) s
  exact (show exec .readClock s = _ from whenRunning_running hrun _).trans (congrArg _
    (receiveRequest_answered hhunt rfl (serves_of_record hrec).1 (serve_readClock (s := u) hrec _)))

theorem readPeer_answered {rec : Record} (hrec : s.record = some rec) : exec (.readPeer a) s =
    if a.toNat < 1 ∨ 62 < a.toNat then answered s .readPeer [a] .badField []
    else match s.peers.find a.toNat with
      | some e => answered s .readPeer [a] .ok (peerItems e)
      | none => answered s .readPeer [a] .unknownPeer [] := by
  let u := setParser .body (panelRecord [Request.readPeer.code, a]) s
  have hfind : u.peers.find a.toNat = s.peers.find a.toNat := rfl
  have hserve : ∀ {v : Status} {items : List Byte}, serveReadPeer a.toNat u = ⟨u, v, items⟩ →
      exec (.readPeer a) s = answered s .readPeer [a] v items := fun h =>
    (show exec (.readPeer a) s = _ from whenRunning_running hrun _).trans (congrArg _
      (receiveRequest_answered hhunt rfl (serves_of_record hrec).2 ((serve_readPeer (s := u) a _ hrec).trans h)))
  by_cases hbeyond : a.toNat < 1 ∨ 62 < a.toNat
  · rw [if_pos hbeyond]
    exact hserve (by rw [serveReadPeer, if_pos hbeyond]; rfl)
  · rw [if_neg hbeyond]
    obtain hnone | ⟨e, hsome⟩ := Option.eq_none_or_eq_some (s.peers.find a.toNat)
    · simp only [hnone]
      exact hserve (by simp only [serveReadPeer, if_neg hbeyond, hfind, hnone]; rfl)
    · simp only [hsome]
      exact hserve (by simp only [serveReadPeer, if_neg hbeyond, hfind, hsome]; rfl)

theorem readPreset_answered (hax : s.axis?.isSome = true) : exec (.readPreset a) s =
    if 63 < a.toNat then answered s .readPreset [a] .badField []
    else answered s .readPreset [a] .ok (presetItems a.toNat s.presets) := by
  obtain ⟨ax, hsome⟩ := Option.isSome_iff_exists.1 hax
  obtain ⟨rec, hrec⟩ := record_of_axis hsome
  let u := setParser .body (panelRecord [Request.readPreset.code, a]) s
  have hserve : ∀ {v : Status} {items : List Byte}, serve .readPreset [Request.readPreset.code, a] u = ⟨u, v, items⟩ →
      exec (.readPreset a) s = answered s .readPreset [a] v items := fun h =>
    (show exec (.readPreset a) s = _ from whenRunning_running hrun _).trans (congrArg _
      (receiveRequest_answered hhunt rfl ((serves_readPreset s).trans hax) h))
  rw [serve_readPreset (s := u) a _ hrec] at hserve
  split at hserve
  · next hbeyond => exact (hserve rfl).trans (if_pos hbeyond).symm
  · next hbeyond => exact (hserve rfl).trans (if_neg hbeyond).symm

theorem readRoster_answered (hhand : s.hand?.isSome = true) : exec (.readRoster a) s =
    if 60 < a.toNat then answered s .readRoster [a] .badField []
    else answered s .readRoster [a] .ok (rosterItems a.toNat s.peers.roster) := by
  obtain ⟨rec, hrec⟩ := record_of_hand hhand
  let u := setParser .body (panelRecord [Request.readRoster.code, a]) s
  have hserve : ∀ {v : Status} {items : List Byte}, serve .readRoster [Request.readRoster.code, a] u = ⟨u, v, items⟩ →
      exec (.readRoster a) s = answered s .readRoster [a] v items := fun h =>
    (show exec (.readRoster a) s = _ from whenRunning_running hrun _).trans (congrArg _
      (receiveRequest_answered hhunt rfl (serves_of_hand hrec hhand .readRoster (by decide)) h))
  rw [serve_readRoster (s := u) a _ hrec] at hserve
  split at hserve
  · next hbeyond => exact (hserve rfl).trans (if_pos hbeyond).symm
  · next hbeyond => exact (hserve rfl).trans (if_neg hbeyond).symm

theorem readCue_answered (hhand : s.hand?.isSome = true) :
    exec (.readCue a) s = answered s .readCue [a] .ok (cueItems a.toNat s.panel.recent) := by
  obtain ⟨rec, hrec⟩ := record_of_hand hhand
  let u := setParser .body (panelRecord [Request.readCue.code, a]) s
  exact (show exec (.readCue a) s = _ from whenRunning_running hrun _).trans (congrArg _
    (receiveRequest_answered hhunt rfl (serves_of_hand hrec hhand .readCue (by decide)) (serve_readCue (s := u) a _ hrec)))

end Reads

/-! ## The hand role's requests refused (R173, R175) -/

section Refused

variable {s : State} (hrun : s.resetHold = none) (hhunt : s.panel.phase = .hunt)
  (kind : Byte) (scope : BitVec 64) (preset : Byte) (duration fade : BitVec 16) (timed hh mm ss ff : Byte)

theorem sentCue_accepted_iff (number fps : Nat) :
    (sentCue number kind scope preset duration fade timed hh mm ss ff).Accepted fps ↔
    ¬(4 < kind.toNat ∨ ((kind = 0 ∨ kind = 2) ∧ 63 < preset.toNat) ∨
      (kind = 0 ∧ (duration.toNat < 1 ∨ 60000 < duration.toNat ∨ 1024 < fade.toNat)) ∨ 1 < timed.toNat ∨
      (timed = 1 ∧ (23 < hh.toNat ∨ 59 < mm.toNat ∨ 59 < ss.toNat ∨ fps ≤ ff.toNat))) := by
  have hgo : kind = 0 ↔ kind.toNat = 0 := by bv_omega
  have hstore : kind = 2 ↔ kind.toNat = 2 := by bv_omega
  have htimed : timed = 1 ↔ timed.toNat = 1 := by bv_omega
  simp only [CueContents.Accepted, sentCue, timecode_inRange_iff, hgo, hstore, htimed]
  omega

include hrun hhunt

/-- A SEND_CUE that changes nothing is answered with its status (R173). -/
theorem sendCue_answered {rec : Record} (hrec : s.record = some rec) (hhand : s.hand?.isSome = true) {v : Status}
    (h : ∀ u : State, u.link = s.link →
      cueOfBody u.panel.nextCue (0x11 :: cueFields kind scope preset duration fade timed hh mm ss ff) =
        sentCue s.panel.nextCue kind scope preset duration fade timed hh mm ss ff →
      serveSendCue rec.fps (0x11 :: cueFields kind scope preset duration fade timed hh mm ss ff) u = refuse u v) :
    exec (.sendCue kind scope preset duration fade timed hh mm ss ff) s =
      answered s .sendCue (cueFields kind scope preset duration fade timed hh mm ss ff) v [] := by
  let u := setParser .body (panelRecord (0x11 :: cueFields kind scope preset duration fade timed hh mm ss ff)) s
  rw [exec_sendCue hrun]
  exact congrArg _ (receiveRequest_answered hhunt (by rw [length_cueFields]; rfl)
    (serves_of_hand hrec hhand .sendCue (by decide))
    ((serve_sendCue (s := u) hrec _).trans (h u rfl (cueOfBody_cueFields _ _ _ _ _ _ _ _ _ _ _ _))))

theorem setClock_beyond {rec : Record} (hrec : s.record = some rec) (hhand : s.hand?.isSome = true)
    (h : 23 < hh.toNat ∨ 59 < mm.toNat ∨ 59 < ss.toNat ∨ rec.fps ≤ ff.toNat) :
    exec (.setClock hh mm ss ff) s = answered s .setClock [hh, mm, ss, ff] .badField [] := by
  let u := setParser .body (panelRecord [0x12, hh, mm, ss, ff]) s
  have hout : ¬(⟨hh.toNat, mm.toNat, ss.toNat, ff.toNat⟩ : Timecode).inRange rec.fps = true := by
    rw [timecode_inRange_iff]
    show ¬(hh.toNat ≤ 23 ∧ mm.toNat ≤ 59 ∧ ss.toNat ≤ 59 ∧ ff.toNat < rec.fps)
    omega
  rw [exec_setClock hrun]
  exact congrArg _ (receiveRequest_answered hhunt rfl (serves_of_hand hrec hhand .setClock (by decide))
    ((serve_setClock (s := u) hrec _ _ _ _ _).trans (if_neg hout)))

end Refused

/-- Settles O51: the sections and reads spelled item by item, each request served in its conditions, and what is refused. -/
theorem readsAnswerFromTheState : Obligations.ReadsAnswerFromTheState := by
  intro s a hrun hhunt answer one flag
  have hwrong : ∀ (i : Instr) (r : Request) (fields : List Byte), exec i s = .next (receiveRequest r fields s) →
      fields.length + 1 = r.length → s.serves r = false → exec i s = answer r.code fields .wrongRole [] :=
    fun _ _ _ hexec hlength hserves => hexec.trans (congrArg _ (receiveRequest_wrongRole hhunt hlength hserves))
  refine ⟨readSelf_answered hrun hhunt a, ?_, codes_in_order, selfItems_eq_none_iff s, fun r hrec => ?_, fun r hrec hax => ?_,
    fun hhand => ?_, fun ax hax => ⟨?_, ?_, ?_, ?_⟩, fun hnone => ?_, fun hhand => ?_, fun r hrec => ⟨?_, ?_⟩,
    fun hnone => ⟨?_, ?_⟩, fun hax => ?_, fun hnone => ?_, fun hhand => ⟨?_, ?_⟩, fun hnone => ⟨?_, ?_, ?_⟩, ?_⟩
  · obtain hnone | ⟨r, hrec⟩ := Option.eq_none_or_eq_some s.record
    · exact (selfItems_bare hnone 0).trans (congrArg some (stationItems_eq s))
    · exact (selfItems_record hrec 0).trans (congrArg some (stationItems_eq s))
  · exact (selfItems_record hrec 1).trans (congrArg some (linkItems_eq r s.link))
  · obtain ⟨ax, hsome⟩ := Option.isSome_iff_exists.1 hax
    rw [selfItems_record hrec]
    simp only [hsome]
    exact congrArg some (cueSelfItems_eq s r)
  · obtain ⟨r, hrec⟩ := record_of_hand hhand
    rw [selfItems_record hrec]
    simp only [axis_none_of_hand hhand]
    exact congrArg some (recentItems_eq s.panel)
  · obtain ⟨r, hrec⟩ := record_of_axis hax
    rw [selfItems_record hrec, hax]
    exact congrArg some (blendItems_eq s)
  · obtain ⟨r, hrec⟩ := record_of_axis hax
    rw [selfItems_record hrec, hax]
    exact congrArg some (couplingItems_eq s ax)
  · obtain ⟨r, hrec⟩ := record_of_axis hax
    rw [selfItems_record hrec, hax]
    exact congrArg some (driveItems_eq ax s.drive)
  · obtain ⟨r, hrec⟩ := record_of_axis hax
    rw [selfItems_record hrec, hax]
    exact congrArg some (storeItems_eq s.presets)
  · exact (selfItems_bare hnone 5).trans (congrArg some (bareDriveItems_eq s.drive))
  · obtain ⟨r, hrec⟩ := record_of_hand hhand
    obtain ⟨cals, hsome⟩ := Option.isSome_iff_exists.1 hhand
    rw [selfItems_record hrec, hsome]
    simp only [map_lifted]
    exact congrArg some (handItems_eq s.hand)
  · rw [readClock_answered hrun hhunt hrec, clockItems_eq]
    rfl
  · rw [readPeer_answered hrun hhunt a hrec]
    simp only [peerItems_eq, map_lifted]
    rfl
  · exact hwrong .readClock .readClock [] (whenRunning_running hrun _) rfl (serves_of_no_record hnone (by decide))
  · exact hwrong (.readPeer a) .readPeer [a] (whenRunning_running hrun _) rfl (serves_of_no_record hnone (by decide))
  · rw [readPreset_answered hrun hhunt a hax, presetItems_eq]
    rfl
  · exact hwrong (.readPreset a) .readPreset [a] (whenRunning_running hrun _) rfl (by rw [serves_readPreset, hnone]; rfl)
  · rw [readRoster_answered hrun hhunt a hhand, rosterItems_eq]
    rfl
  · rw [readCue_answered hrun hhunt a hhand, cueItems_eq]
    rfl
  · exact hwrong (.readRoster a) .readRoster [a] (whenRunning_running hrun _) rfl (serves_of_no_hand hnone (by decide))
  · exact hwrong (.readCue a) .readCue [a] (whenRunning_running hrun _) rfl (serves_of_no_hand hnone (by decide))
  · exact fun hh mm ss ff => hwrong _ _ _ (exec_setClock hrun hh mm ss ff) rfl (serves_of_no_hand hnone (by decide))
  · intro kind scope preset duration fade timed hh mm ss ff fields sent
    refine ⟨fun hnone => hwrong _ _ _ (exec_sendCue hrun _ _ _ _ _ _ _ _ _ _) (by rw [length_cueFields]; rfl)
      (serves_of_no_hand hnone (by decide)), fun r hrec hhand => ?_⟩
    intro beyond bad
    have haccepted := sentCue_accepted_iff kind scope preset duration fade timed hh mm ss ff s.panel.nextCue r.fps
    refine ⟨fun hbad => ?_, fun hgood hcurrent hfull => ?_, setClock_beyond hrun hhunt hh mm ss ff hrec hhand⟩
    · exact sendCue_answered hrun hhunt kind scope preset duration fade timed hh mm ss ff hrec hhand fun u _ hcue =>
        serveSendCue_badField (hcue ▸ fun h => haccepted.1 h hbad)
    · refine sendCue_answered hrun hhunt kind scope preset duration fade timed hh mm ss ff hrec hhand fun u hlink hcue => ?_
      have hroom : u.link.cueRoom = false := by
        obtain ⟨g, hg⟩ := Option.isSome_iff_exists.1 hcurrent
        simp only [hlink, LinkController.cueRoom, hg, Option.isNone_some, Bool.false_or, decide_eq_false_iff_not, Nat.not_lt]
        exact hfull
      rw [serveSendCue_accepted (hcue ▸ haccepted.2 hgood), if_pos hroom]

end Sys2Proof.Machine
